-- ==== Sys2Proof/Word.lean ====
section
/-!
DEFINITION. The plain vocabulary of the LC-420: bytes, 32-bit indices, the names of the rings, ports
and pair slots (spec 0.5, R188), and the three containers that hold one value per ring, port or slot.
-/

namespace Sys2Proof

/-- One byte on a master port. -/
abbrev Byte := BitVec 8

/-- A sample index or a window number: 32 bits, wrapping (spec 0.7, R2, R22). -/
abbrev Index := BitVec 32

/-- The electrode rings, from upstream to downstream (spec 0.5). -/
inductive Ring where
  | a | b | c | d
deriving DecidableEq, Repr

/-- The ring codes of R188, which are also the positions along the spool. -/
def Ring.num : Ring → Nat
  | .a => 0
  | .b => 1
  | .c => 2
  | .d => 3

/-- The ring a code of R188 names. -/
def Ring.ofNum : Nat → Option Ring
  | 0 => some .a
  | 1 => some .b
  | 2 => some .c
  | 3 => some .d
  | _ => none

/-- All rings in order from upstream to downstream. -/
def Ring.all : List Ring := [.a, .b, .c, .d]

/-- The three master ports. -/
inductive Port where
  | p1 | p2 | p3
deriving DecidableEq, Repr

/-- The port codes of R188 (0 stands for none). -/
def Port.num : Port → Nat
  | .p1 => 1
  | .p2 => 2
  | .p3 => 3

/-- The three slots of the pair table (R23). -/
inductive Slot where
  | s0 | s1 | s2
deriving DecidableEq, Repr

/-- The slot numbers. -/
def Slot.num : Slot → Nat
  | .s0 => 0
  | .s1 => 1
  | .s2 => 2

/-- The slot a number names. -/
def Slot.ofNum : Nat → Option Slot
  | 0 => some .s0
  | 1 => some .s1
  | 2 => some .s2
  | _ => none

/-- One value for each ring. -/
structure PerRing (α : Type) where
  a : α
  b : α
  c : α
  d : α
deriving DecidableEq, Repr

namespace PerRing
variable {α β : Type}

/-- The value of one ring. -/
def get (q : PerRing α) : Ring → α
  | .a => q.a
  | .b => q.b
  | .c => q.c
  | .d => q.d

/-- Replace the value of one ring. -/
def set (q : PerRing α) (r : Ring) (x : α) : PerRing α :=
  match r with
  | .a => { q with a := x }
  | .b => { q with b := x }
  | .c => { q with c := x }
  | .d => { q with d := x }

/-- The same value for every ring. -/
def fill (x : α) : PerRing α := ⟨x, x, x, x⟩

/-- Build from a rule for each ring. -/
def build (f : Ring → α) : PerRing α := ⟨f .a, f .b, f .c, f .d⟩

/-- Apply a rule to each ring's value. -/
def map (f : Ring → α → β) (q : PerRing α) : PerRing β :=
  ⟨f .a q.a, f .b q.b, f .c q.c, f .d q.d⟩

/-- The four values from upstream to downstream. -/
def toList (q : PerRing α) : List α := [q.a, q.b, q.c, q.d]

end PerRing

/-- One value for each port. -/
structure PerPort (α : Type) where
  p1 : α
  p2 : α
  p3 : α
deriving DecidableEq, Repr

namespace PerPort
variable {α β : Type}

/-- The value of one port. -/
def get (q : PerPort α) : Port → α
  | .p1 => q.p1
  | .p2 => q.p2
  | .p3 => q.p3

/-- Replace the value of one port. -/
def set (q : PerPort α) (p : Port) (x : α) : PerPort α :=
  match p with
  | .p1 => { q with p1 := x }
  | .p2 => { q with p2 := x }
  | .p3 => { q with p3 := x }

/-- The same value for every port. -/
def fill (x : α) : PerPort α := ⟨x, x, x⟩

/-- Apply a rule to each port's value. -/
def map (f : Port → α → β) (q : PerPort α) : PerPort β := ⟨f .p1 q.p1, f .p2 q.p2, f .p3 q.p3⟩

/-- The three values in port order. -/
def toList (q : PerPort α) : List α := [q.p1, q.p2, q.p3]

end PerPort

/-- One value for each slot. -/
structure PerSlot (α : Type) where
  s0 : α
  s1 : α
  s2 : α
deriving DecidableEq, Repr

namespace PerSlot
variable {α β : Type}

/-- The value of one slot. -/
def get (q : PerSlot α) : Slot → α
  | .s0 => q.s0
  | .s1 => q.s1
  | .s2 => q.s2

/-- The same value for every slot. -/
def fill (x : α) : PerSlot α := ⟨x, x, x⟩

/-- Apply a rule to each slot's value. -/
def map (f : Slot → α → β) (q : PerSlot α) : PerSlot β := ⟨f .s0 q.s0, f .s1 q.s1, f .s2 q.s2⟩

/-- The three values in slot order. -/
def toList (q : PerSlot α) : List α := [q.s0, q.s1, q.s2]

end PerSlot

end Sys2Proof
end

