-- ==== Sys2Proof/Syntax.lean ====
section
/-!
DEFINITION. The commands of the LC-420: one constructor of `Instr` for each row of
spec/opcode_table.json, with the operands that the row's rule gives the operation or event.
-/

namespace Sys2Proof

/-- The levels of one port's two speed straps, `true` for high (R179). -/
structure StrapPair where
  high : Bool
  low : Bool
deriving DecidableEq, Repr

/-- The commands of the block: resets and line events, the events of the sampling, correlation, pulse,
store, capture and port timers, and the 26 requests of R189 (with the unknown one).

A request row stands for a whole request frame of that command that passes its check on the port, its
payload given as the wire's bits (assumption 3). -/
inductive Instr where
  -- resets and power (R17, R111, R148, R118)
  | powerOnReset (straps : PerPort StrapPair)
  | nrstAsserted
  | nrstReleased (straps : PerPort StrapPair)
  -- sampling (R1 to R3)
  | frameStrobe
  | ringReply (r : Ring) (code : BitVec 16) (parity : Bool)
  | replyDeadline
  -- operations and timers that end (R44, R122, R18, R19, R138, R146, R172)
  | correlationCompletion
  | pulseWidthElapsed
  | gapElapsed
  | crystalFailure
  | stableTimeReached
  | claimExpiry
  | nvWriteCompletion (agrees : Bool)
  | captureCopyCompletion
  -- master ports (R180 to R185)
  | byteReceived (p : Port) (x : Byte) (framingError : Bool)
  | idleGapElapsed (p : Port)
  | interByteTimeout (p : Port)
  | unknownCommand (p : Port) (code : Byte)
  | responseStart (p : Port)
  | responseEnd (p : Port)
  -- requests (R189)
  | identify (p : Port)
  | readFlow (p : Port)
  | readPairs (p : Port)
  | readSlugs (p : Port) (start : Byte)
  | readDeparted (p : Port)
  | readHealth (p : Port)
  | readTotals (p : Port)
  | readStats (p : Port)
  | readFaults (p : Port)
  | takeEvents (p : Port) (remove : BitVec 16)
  | setAttention (p : Port) (enable : BitVec 16) (threshold : Byte)
  | openEdit (p : Port)
  | writeField (p : Port) (field : Byte) (value : BitVec 32)
  | readField (p : Port) (field slot : Byte)
  | commitEdit (p : Port)
  | dropEdit (p : Port)
  | clearTotals (p : Port)
  | guardRelease (p : Port)
  | flushBegin (p : Port)
  | flushEnd (p : Port)
  | restart (p : Port)
  | armCapture (p : Port) (content which trigger : Byte)
  | readCapture (p : Port) (offset : BitVec 16)
  | releaseCapture (p : Port)
  | clearFaults (p : Port)
  | clearStats (p : Port)
  -- loss of power (R118)
  | powerLoss
deriving DecidableEq, Repr

end Sys2Proof
end

