-- ==== Sys2Proof/WellFormed.lean ====
section
/-!
DEFINITION. Which commands are well formed. The operands of every row take all the values of their
wire widths, except that UNKNOWN_COMMAND carries a command byte that is no code of R189.
-/

namespace Sys2Proof

/-- The command codes of R189, in the order of its table. -/
def commandCodes : List Nat :=
  [0x01, 0x10, 0x11, 0x12, 0x13, 0x14, 0x15, 0x16, 0x17, 0x20, 0x21, 0x30, 0x31, 0x32, 0x33, 0x34,
   0x35, 0x40, 0x41, 0x42, 0x43, 0x50, 0x51, 0x52, 0x60, 0x61]

/-- Whether a command byte is one of the codes of R189. -/
def isCommandCode (code : Byte) : Bool := commandCodes.contains code.toNat

/-- The operands a command may carry. -/
def Instr.wf : Instr → Bool
  | .unknownCommand _ code => !isCommandCode code
  | _ => true

end Sys2Proof
end

