-- ==== Sys2Proof/Decode.lean ====
section
/-!
DEFINITION. The command a table word spells. No row of spec/opcode_table.json gives bits (the reader's
count `n_rows_with_fixed` is 0), so no word spells a command. The byte frames by which a master sends a
request are received by BYTE_RECEIVED (R180 to R183) and are modelled in Machine/Ports.lean.
-/

namespace Sys2Proof

/-- The command that `nbits` bits of `w` spell by the table's bits: none, since no row gives any. -/
def decodeTableWord (_nbits _w : Nat) : Option Instr := none

end Sys2Proof
end

