-- ==== Sys2Proof/Config.lean ====
section
/-!
DEFINITION. What the LC-420 fixes for every run (the capacities of spec 0.4, the profile of R129 with its
defaults, the keys of the fault map) and the free values: constants without a body, one for each point
that the spec leaves open, applied to the model's own counter `State.freeCount` (assumptions 9 to 13).
-/

namespace Sys2Proof

namespace Config

/-- History entries per ring (R6). -/
def historyDepth : Nat := 2048
/-- Records the slug table holds (R57). -/
def slugCapacity : Nat := 16
/-- Entries the departed list holds (R66). -/
def departedCapacity : Nat := 8
/-- Entries the fault map holds (R158). -/
def faultCapacity : Nat := 12
/-- Values the capture buffer holds for a RAW capture (R172). -/
def captureDepth : Nat := 1024
/-- The largest value of a statistics counter (R164). -/
def counterMax : Nat := 2 ^ 32 - 1
/-- The largest total (R113). -/
def totalMax : Nat := 2 ^ 48 - 1
/-- How long a claim lasts after the latest accepted edit command, in ms (R133). -/
def claimMs : Nat := 120000
/-- The stable time that returns the part to the crystal, in ms (R19). -/
def stableMs : Nat := 1024
/-- The silence that separates frames and abandons a frame, in ms (R180). -/
def gapMs : Nat := 2
/-- Publications between two checkpoints (R115). -/
def checkpointEvery : Nat := 64

end Config

namespace Machine

/-- A point (φ, Vc) of the deposition table (R91). -/
structure DepPoint where
  phi : Nat
  vc : Nat
deriving DecidableEq, Repr

/-- What the pulse output counts (R121). -/
inductive PulseBasis where
  | volume | solids
deriving DecidableEq, Repr

/-- The profile: the 42 fields of R129 in the order of their numbers. -/
structure Profile where
  ringCount : Nat
  spacingAB : Nat
  spacingBC : Nat
  spacingCD : Nat
  fs : Nat
  n : Nat
  meanShift : Nat
  flatFloor : Nat
  vMin : Nat
  vMax : Nat
  qMin : Nat
  holdWindows : Nat
  bore : Nat
  carrierCode : Nat
  rhoS : Nat
  depCount : Nat
  dep1 : DepPoint
  dep2 : DepPoint
  dep3 : DepPoint
  dep4 : DepPoint
  dep5 : DepPoint
  dep6 : DepPoint
  dep7 : DepPoint
  dep8 : DepPoint
  watchMargin : Int
  tripMargin : Int
  hysteresis : Int
  tripCount : Nat
  clearCount : Nat
  lostIsDanger : Bool
  stopVel : Nat
  armWindows : Nat
  thetaInit : Nat
  thetaStep : Nat
  thetaMin : Nat
  thetaMax : Nat
  minWidth : Nat
  tol : Nat
  stationDistance : Nat
  pulseBasis : PulseBasis
  pulseWeight : Nat
  pulseWidth : Nat
deriving DecidableEq, Repr

/-- The default profile of R129. -/
def Profile.default : Profile where
  ringCount := 4
  spacingAB := 800
  spacingBC := 800
  spacingCD := 800
  fs := 500
  n := 512
  meanShift := 8
  flatFloor := 16
  vMin := 1000
  vMax := 8000
  qMin := 300
  holdWindows := 8
  bore := 600
  carrierCode := 40000
  rhoS := 2700
  depCount := 3
  dep1 := ⟨0, 1800⟩
  dep2 := ⟨1500, 2400⟩
  dep3 := ⟨3000, 2900⟩
  dep4 := ⟨0, 0⟩
  dep5 := ⟨0, 0⟩
  dep6 := ⟨0, 0⟩
  dep7 := ⟨0, 0⟩
  dep8 := ⟨0, 0⟩
  watchMargin := 600
  tripMargin := 150
  hysteresis := 200
  tripCount := 3
  clearCount := 10
  lostIsDanger := true
  stopVel := 300
  armWindows := 20
  thetaInit := 800
  thetaStep := 100
  thetaMin := 200
  thetaMax := 8000
  minWidth := 4
  tol := 25
  stationDistance := 0
  pulseBasis := .volume
  pulseWeight := 1000
  pulseWidth := 50

/-- What the profile region holds: the values of a profile's fields and the CRC-16 that follows them
(R144). -/
structure ProfileImage where
  profile : Profile
  check : BitVec 16
deriving DecidableEq, Repr

/-- A checkpoint of the totals region: its five items and the CRC-16 over them (R115). The totals are 48
bits wide (R113). -/
structure Checkpoint where
  volume : BitVec 48
  volumeResidue : Nat
  solids : BitVec 48
  solidsResidue : Nat
  rate : Nat
  check : BitVec 16
deriving DecidableEq, Repr

/-- The two regions of the non-volatile device (R144). -/
inductive Region where
  | profile | totals
deriving DecidableEq, Repr

/-- The sources of faults, in the order of their codes (R158, R188). -/
inductive FaultSource where
  | ring (r : Ring)
  | clock | correlator | carrier | totalizer | pulseUnit
  | region (g : Region)
deriving DecidableEq, Repr

/-- The fault kinds, in the order of their codes (R158). -/
inductive FaultKind where
  | sampleSaturated | sampleMissing | signalFlat | carrierDrift | clockFallback | correlationLate
  | flushUnstable | totalsLost | pulseOverrun | nvWriteFailed | profileLost
deriving DecidableEq, Repr

/-- The key of a fault map entry (R158). -/
structure FaultKey where
  source : FaultSource
  kind : FaultKind
deriving DecidableEq, Repr

/-- The pairs of actions of one window boundary whose order the spec leaves open (assumption 9). -/
inductive OpenOrder where
  /-- The totals clear before the commit applied at the same boundary (R120). -/
  | clearBeforeCommit
  /-- The totals clear before the publication of a completion without pairs (R120, R31). -/
  | clearBeforePublication
  /-- The tracker's boundary work before that publication (R59, R65). -/
  | trackerBeforePublication
deriving DecidableEq, Repr

end Machine

namespace Config

/-- FREE VALUE (assumption 9): which of two actions of a boundary is taken first. -/
opaque takenFirst : Machine.OpenOrder → Nat → Bool

/-- FREE VALUE (assumption 9): the order in which the recordings of one boundary that each need a new
entry reach the fault map (R160, R161); a smaller rank is taken first. -/
opaque reportRank : Nat → Machine.FaultKey → Nat

/-- FREE VALUE (assumption 9): whether a condition report of a boundary reaches the map before the
publication of a completion without pairs at that boundary. -/
opaque reportBeforePublication : Nat → Machine.FaultKey → Bool

/-- FREE VALUE (assumption 10): what a failed write leaves in the profile region (R146): values with a
CRC-16 that may or may not agree with them, or nothing that could pass (`none`). -/
opaque profileAfterFailedWrite : Nat → Option Machine.ProfileImage

/-- FREE VALUE (assumption 10): what a failed write leaves in the totals region (R116, R118). -/
opaque checkpointAfterFailedWrite : Nat → Option Machine.Checkpoint

/-- FREE VALUE (assumption 12): the time left that is reported once the expiry of a claim has passed
while its commit is pending (R138). -/
opaque timeLeftAfterExpiry : Nat → BitVec 32

/-- FREE VALUE (assumption 13): the value a WRITE_FIELD response carries for a field number that names no
field (R135). -/
opaque valueOfNoField : Nat → BitVec 32

end Config

end Sys2Proof
end

