-- ==== Sys2Proof/Machine/State.lean ====
section
/-!
DEFINITION. The state of the LC-420, block by block as spec 0.3 assigns it, the two reasons a step could
stop, and the state after a power-on reset.
-/

namespace Sys2Proof.Machine

/-! ### Sample front end (chapter 1) -/

/-- The three window tallies of a ring (R7). -/
structure Tally where
  missing : Nat
  saturated : Nat
  energy : Nat
deriving DecidableEq, Repr

/-- Tallies at zero. -/
def Tally.zero : Tally := ⟨0, 0, 0⟩

/-- The grade of a ring (R12). -/
inductive Health where
  | healthy | suspect | failed
deriving DecidableEq, Repr

/-- What the front end holds for one ring. `hist` is the history of R6, newest entry first: the entry
of sample index `i` stands at the distance of `i` from the last stored index (assumption 7). -/
structure RingSense where
  lastGood : Nat
  mean : Nat
  seeded : Bool
  hist : List Int
  tally : Tally
  closed : Tally
  health : Health
  badRun : Nat
  goodRun : Nat
deriving DecidableEq, Repr

/-- A ring after a POR or an NRST (R17). -/
def RingSense.reset : RingSense where
  lastGood := 32768
  mean := 0
  seeded := false
  hist := []
  tally := Tally.zero
  closed := Tally.zero
  health := .healthy
  badRun := 0
  goodRun := 0

/-- The oscillator in use (R18). -/
inductive ClockSource where
  | crystal | fallback
deriving DecidableEq, Repr

/-- What a ring converter returned whole before the deadline (R1). -/
inductive Reply where
  | good (code : Nat)
  | parityError
deriving DecidableEq, Repr

/-- A frame whose strobes have been raised and whose replies are not all handled (R1, R16). -/
structure Frame where
  index : Index
  replies : PerRing (Option Reply)
deriving DecidableEq, Repr

/-- The sample front end. -/
structure Sfe where
  nextIndex : Index
  lastIndex : Index
  windowPos : Nat
  fill : Nat
  ready : Bool
  rings : PerRing RingSense
  clock : ClockSource
  stable : Nat
  degraded : Bool
  frame : Option Frame
  strobe : PerRing Bool
deriving DecidableEq, Repr

/-- The front end after a POR or an NRST (R17). -/
def Sfe.reset : Sfe where
  nextIndex := 0
  lastIndex := 0
  windowPos := 0
  fill := 0
  ready := false
  rings := PerRing.fill RingSense.reset
  clock := .crystal
  stable := 0
  degraded := false
  frame := none
  strobe := PerRing.fill false

/-! ### Correlator (chapter 2) -/

/-- A pair entry of the pair table (R24). -/
structure PairEntry where
  slot : Slot
  up : Ring
  down : Ring
  bridged : Bool
  spacing : Nat
  lmin : Nat
  lmax : Nat
  rangeCut : Bool
deriving DecidableEq, Repr

/-- The in-flight record of a correlation (R29). -/
structure InFlight where
  window : Index
  t : Index
  pairs : PerSlot (Option PairEntry)
  n : Nat
  fs : Nat
  qMin : Nat
deriving DecidableEq, Repr

/-- The correlator state, with the in-flight record that RUNNING and LATE hold (R29, R33). -/
inductive Correlation where
  | idle
  | running (f : InFlight)
  | late (f : InFlight)
deriving DecidableEq, Repr

/-- Why a pair result is invalid (R42). -/
inductive Reason where
  | noPeak | edge | lowQuality
deriving DecidableEq, Repr

/-- Whether a pair result is valid, with its pair velocity or its reason (R42, R43). -/
inductive Verdict where
  | valid (vp : Nat)
  | invalid (reason : Reason)
deriving DecidableEq, Repr

/-- A pair result record (R44). -/
structure PairResult where
  window : Index
  slot : Slot
  up : Ring
  down : Ring
  spacing : Nat
  lmin : Nat
  lmax : Nat
  rangeCut : Bool
  kp : Nat
  delta : Int
  tau : Nat
  energies : Option (Nat × Nat)
  q : Nat
  verdict : Verdict
deriving DecidableEq, Repr

/-- The correlator. -/
structure Xcr where
  windowNumber : Index
  table : PerSlot (Option PairEntry)
  state : Correlation
  results : PerSlot (Option PairResult)
  resultWindow : Index
deriving DecidableEq, Repr

/-- The correlator after every reset (R47). -/
def Xcr.reset : Xcr where
  windowNumber := 0
  table := PerSlot.fill none
  state := .idle
  results := PerSlot.fill none
  resultWindow := 0

/-! ### Slug tracker (chapter 3) -/

/-- A slug detector, with the slug in progress (R49 to R51). -/
inductive Detector where
  | armed
  | inSlug (onset : Index) (peak : Nat)
  | holdoff
deriving DecidableEq, Repr

/-- What the tracker holds for one ring (R53, R54). `detected` says whether the ring made a detection in
the open window. -/
structure RingTrack where
  detector : Detector
  theta : Nat
  charges : Nat
  quiet : Nat
  detected : Bool
deriving DecidableEq, Repr

/-- A ring's detector after a flush, with threshold θinit (R52 to R54). -/
def RingTrack.start (thetaInit : Nat) : RingTrack where
  detector := .armed
  theta := thetaInit
  charges := 0
  quiet := 0
  detected := false

/-- How an expected interval was computed (R59, R60). -/
inductive Basis where
  | velocity | range
deriving DecidableEq, Repr

/-- An arrival of a slug at a ring (R57). -/
structure Arrival where
  ring : Ring
  onset : Index
deriving DecidableEq, Repr

/-- A slug record (R57). -/
structure SlugRecord where
  tag : BitVec 8
  origin : Ring
  onset : Index
  peak : Nat
  width : Nat
  next : Ring
  reference : Index
  basis : Basis
  eMin : Index
  eMax : Index
  arrivals : List Arrival
deriving DecidableEq, Repr

/-- A departed entry (R66). -/
structure Departed where
  tag : BitVec 8
  peak : Nat
  width : Nat
  departure : Index
  vs : Nat
  predicted : Index
deriving DecidableEq, Repr

/-- The slug tracker. -/
structure Stk where
  rings : PerRing RingTrack
  tagCounter : BitVec 8
  table : List SlugRecord
  departed : List Departed
  sumDistance : Nat
  sumTransit : Nat
  sumCount : Nat
deriving DecidableEq, Repr

/-- The tracker with empty collections, its detectors started at θinit (R72). -/
def Stk.start (thetaInit : Nat) (tagCounter : BitVec 8) : Stk where
  rings := PerRing.fill (RingTrack.start thetaInit)
  tagCounter := tagCounter
  table := []
  departed := []
  sumDistance := 0
  sumTransit := 0
  sumCount := 0

/-! ### Flow solver (chapter 4) -/

/-- The source of a published velocity (R77). -/
inductive VelStatus where
  | filling | correlated | slug | held | lost
deriving DecidableEq, Repr

/-- The source of a published solids fraction (R83). -/
inductive PhiSource where
  | rings | held | flush
deriving DecidableEq, Repr

/-- The line state (R93). -/
inductive LineState where
  | stopped | starting | running
deriving DecidableEq, Repr

/-- The guard state (chapter 5). -/
inductive GuardState where
  | clear | watch | tripped | recovered
deriving DecidableEq, Repr

/-- A flow record (R94). -/
structure FlowRecord where
  window : Index
  span : Nat
  status : VelStatus
  v : Nat
  vc : Option Nat
  vs : Option Nat
  disagree : Bool
  phi : Nat
  phiSource : PhiSource
  q : Nat
  s : Nat
  vDep : Nat
  margin : Option Int
  line : LineState
  guard : GuardState
  clockDegraded : Bool
  carrierDrift : Bool
  rangeCut : Bool
deriving DecidableEq, Repr

/-- The record of status FILLING that a reset sets (R97). -/
def FlowRecord.filling (src : PhiSource) (vDep : Nat) (g : GuardState) (degraded : Bool) : FlowRecord where
  window := 0
  span := 0
  status := .filling
  v := 0
  vc := none
  vs := none
  disagree := false
  phi := 0
  phiSource := src
  q := 0
  s := 0
  vDep := vDep
  margin := none
  line := .stopped
  guard := g
  clockDegraded := degraded
  carrierDrift := false
  rangeCut := false

/-- Where the carrier reference came from (R85). -/
inductive CarrierSource where
  | profile | learned
deriving DecidableEq, Repr

/-- The flush accumulator: count, minimum, maximum and sum (R87). -/
structure Accumulator where
  count : Nat
  lo : Nat
  hi : Nat
  sum : Nat
deriving DecidableEq, Repr

/-- The accumulator at zero. -/
def Accumulator.zero : Accumulator := ⟨0, 0, 0, 0⟩

/-- The flow solver. -/
structure Fsv where
  record : FlowRecord
  spanBase : Index
  hold : Nat
  lastV : Option Nat
  line : LineState
  armCount : Nat
  sigma : Nat
  sigmaSource : CarrierSource
  flush : Bool
  acc : Accumulator
  area : Nat
  drift : Bool
deriving DecidableEq, Repr

/-! ### Deposit guard (chapter 5) -/

/-- The deposit guard with the TRIP line (R98). -/
structure Dgd where
  state : GuardState
  danger : Nat
  recovery : Nat
  trip : Bool
deriving DecidableEq, Repr

/-- The guard after a POR or an NRST (R111). -/
def Dgd.reset : Dgd := ⟨.clear, 0, 0, false⟩

/-! ### Totalizer and pulse unit (chapter 6) -/

/-- The totalizer. -/
structure Tot where
  volume : Nat
  volumeResidue : Nat
  solids : Nat
  solidsResidue : Nat
  rate : Nat
  checkpoint : Nat
  clearPending : Bool
deriving DecidableEq, Repr

/-- The pulse generator's states (R122). -/
inductive GenState where
  | idle | high | gap
deriving DecidableEq, Repr

/-- The pulse unit with the PULSE line. `elapsed` counts the ms of the pulse or gap in progress. -/
structure Pls where
  credit : Nat
  emitted : Nat
  lost : Nat
  gen : GenState
  width : Nat
  elapsed : Nat
  pulse : Bool
deriving DecidableEq, Repr

/-- The pulse unit after a POR or an NRST (R128). -/
def Pls.start (width : Nat) : Pls := ⟨0, 0, 0, .idle, width, 0, false⟩

/-! ### Profile store (chapter 7) -/

/-- A held edit claim: the holder and the expiry, a time of the 1 ms timebase (R133). -/
structure Claim where
  holder : Port
  expiry : Nat
deriving DecidableEq, Repr

/-- A write of a region with its snapshot, the check included (R115, R144). -/
inductive NvJob where
  | profile (x : ProfileImage)
  | totals (c : Checkpoint)
deriving DecidableEq, Repr

/-- The non-volatile device: the write in progress, the waiting writes in order of queuing, and what the
regions hold with their CRC-16; `none` for a region that was never written or whose write was cut short,
of which the spec says only that it fails its check (R144 to R148, R118, assumption 11). -/
structure Nv where
  writing : Option NvJob
  waiting : List NvJob
  profileRegion : Option ProfileImage
  totalsRegion : Option Checkpoint
deriving DecidableEq, Repr

/-- The device of a part whose regions have never been written (R148, R118). -/
def Nv.blank : Nv := ⟨none, [], none, none⟩

/-- The profile store. -/
structure Pst where
  active : Profile
  staging : Profile
  claim : Option Claim
  commitPending : Bool
  nv : Nv
deriving DecidableEq, Repr

/-! ### Event and fault unit (chapter 8) -/

/-- The sixteen event kinds in the order of R151. -/
inductive EventKind where
  | guardTripped | velocityLost | guardWatch | ringFailed | nvWriteFailed | guardRecovered
  | pulseOverrun | faultMapFull | clockFallback | ringRestored | captureDone | profileApplied
  | claimExpired | totalsCleared | slugDeparted | recordPublished
deriving DecidableEq, Repr

/-- A set of event kinds: bit n stands for row n of R151 (R187). -/
abbrev EventSet := BitVec 16

/-- What the unit holds for one port, with its ATN line (R152 to R155). -/
structure Attention where
  posted : EventSet
  enable : EventSet
  threshold : Nat
  atn : Bool
deriving DecidableEq, Repr

/-- A port's items after a POR or an NRST (R168). -/
def Attention.reset : Attention := ⟨0, 0, 0, false⟩

/-- An entry of the fault map (R158). -/
structure FaultEntry where
  key : FaultKey
  first : Index
  last : Index
  occurrences : Nat
  active : Bool
deriving DecidableEq, Repr

/-- The 37 statistics counters of R164. -/
structure Stats where
  windowsClosed : Nat
  completed : Nat
  skipped : Nat
  discardedLate : Nat
  unformable : Nat
  recCorrelated : Nat
  recSlug : Nat
  recHeld : Nat
  recLost : Nat
  valid : PerSlot Nat
  slugsCreated : Nat
  slugsCompleted : Nat
  stale : Nat
  evicted : Nat
  unmatched : Nat
  runts : Nat
  long : Nat
  departedDropped : Nat
  occupancy : Nat
  transitSum : Nat
  transitCount : Nat
  substituted : PerRing Nat
  saturated : PerRing Nat
  checkErrors : PerPort Nat
  overruns : PerPort Nat
deriving DecidableEq, Repr

/-- All counters at zero. -/
def Stats.zero : Stats where
  windowsClosed := 0
  completed := 0
  skipped := 0
  discardedLate := 0
  unformable := 0
  recCorrelated := 0
  recSlug := 0
  recHeld := 0
  recLost := 0
  valid := PerSlot.fill 0
  slugsCreated := 0
  slugsCompleted := 0
  stale := 0
  evicted := 0
  unmatched := 0
  runts := 0
  long := 0
  departedDropped := 0
  occupancy := 0
  transitSum := 0
  transitCount := 0
  substituted := PerRing.fill 0
  saturated := PerRing.fill 0
  checkErrors := PerPort.fill 0
  overruns := PerPort.fill 0

/-- The event and fault unit. The fault map is in the order in which its entries entered it (R163). -/
structure Efu where
  ports : PerPort Attention
  faults : List FaultEntry
  full : Bool
  stats : Stats
deriving DecidableEq, Repr

/-- The unit at the start of a POR or an NRST (R167, R168). -/
def Efu.reset : Efu where
  ports := PerPort.fill Attention.reset
  faults := []
  full := false
  stats := Stats.zero

/-! ### Capture unit (chapter 9) -/

/-- What a capture keeps (R170). -/
inductive Content where
  | raw (r : Ring)
  | correlogram (s : Slot)
deriving DecidableEq, Repr

/-- When a capture is taken (R170). -/
inductive Trigger where
  | immediate | guardTripped | velocityLost | ringFailed | slugDeparted
deriving DecidableEq, Repr

/-- The capture states (R169). -/
inductive CapState where
  | idle | armed | filling | full
deriving DecidableEq, Repr

/-- The header items of a RAW capture (R172). -/
structure RawHeader where
  ring : Ring
  newest : Index
  stored : Nat
deriving DecidableEq, Repr

/-- The header items of a correlogram (R173). -/
structure CorrHeader where
  window : Index
  slot : Slot
  up : Ring
  down : Ring
  spacing : Nat
  lmin : Nat
  lmax : Nat
  rangeCut : Bool
  kp : Nat
  reason : Option Reason
  shift : Nat
deriving DecidableEq, Repr

/-- The capture header beyond content, trigger, EMPTY and value count (R174). -/
structure CapHeader where
  window : Index
  index : Index
  raw : Option RawHeader
  corr : Option CorrHeader
deriving DecidableEq, Repr

/-- The capture unit. -/
structure Cap where
  owner : Option Port
  state : CapState
  content : Option Content
  trigger : Option Trigger
  header : Option CapHeader
  buffer : List Int
  count : Nat
  empty : Bool
deriving DecidableEq, Repr

/-- The capture unit in IDLE (R169). -/
def Cap.idle : Cap := ⟨none, .idle, none, none, none, [], 0, false⟩

/-! ### Master ports (chapter 10) -/

/-- The speeds of a port (R179). -/
inductive Speed where
  | b19200 | b38400 | b57600 | b115200
deriving DecidableEq, Repr

/-- The receiver states (R180). -/
inductive RxState where
  | waitIdle | ready | receiving
deriving DecidableEq, Repr

/-- The transaction states (R183, R184). -/
inductive TxState where
  | free | preparing | sending
deriving DecidableEq, Repr

/-- A master port. `response` holds the bytes of the response being prepared or sent. -/
structure PortState where
  speed : Speed
  rx : RxState
  idle : Nat
  buffer : List Byte
  tx : TxState
  response : List Byte
deriving DecidableEq, Repr

/-- A port after a POR or an NRST, its speed read from the straps (R194). -/
def PortState.start (speed : Speed) : PortState := ⟨speed, .waitIdle, 0, [], .free, []⟩

/-! ### The part -/

/-- Whether the part has power, and whether NRST holds it (R98, R194, R195). -/
inductive Power where
  | off | held | running
deriving DecidableEq, Repr

/-- The reasons a command could fault. The spec names no fault that stops the part: every command has an
effect, a refusal code on the wire, or none, so there is no constructor (safe: nothing is cut short). -/
inductive Fault where
deriving DecidableEq, Repr

/-- The reasons a command could be refused by the model. -/
inductive Refusal where
  /-- Raised by an arm of `exec` that has no meaning yet: none is left. Safe, since the model stops. -/
  | notModelled (mnemonic : String)
deriving DecidableEq, Repr

/-- The state of the part and the queue of commands that wait. `timebase` is the 1 ms timebase (spec 0.7);
`freeCount` is the model's own counter for free values (assumption 32). -/
structure State where
  power : Power
  timebase : Nat
  freeCount : Nat
  sfe : Sfe
  xcr : Xcr
  stk : Stk
  fsv : Fsv
  dgd : Dgd
  tot : Tot
  pls : Pls
  pst : Pst
  efu : Efu
  cap : Cap
  mpt : PerPort PortState
  pending : List Instr
deriving DecidableEq, Repr

/-! ### After reset -/

/-- The entry an occurrence makes in an empty map at start-up (R159, R167). -/
def FaultEntry.atStart (key : FaultKey) : FaultEntry := ⟨key, 0, 0, 1, false⟩

/-- The part right after a power-on reset, on the crystal, with a non-volatile device whose regions have
never been written, so with the default profile, totals of 0 and the two entries PROFILE_LOST and
TOTALS_LOST (R148, R118, R167). The straps of every port are low, low (assumption 19). -/
def State.reset : State where
  power := .running
  timebase := 0
  freeCount := 0
  sfe := Sfe.reset
  xcr := Xcr.reset
  stk := Stk.start 800 255
  fsv :=
    { record := FlowRecord.filling .held 1800 .clear false
      spanBase := 0
      hold := 0
      lastV := none
      line := .stopped
      armCount := 0
      sigma := 40000
      sigmaSource := .profile
      flush := false
      acc := Accumulator.zero
      area := 282744
      drift := false }
  dgd := Dgd.reset
  tot := ⟨0, 0, 0, 0, 500, 0, false⟩
  pls := Pls.start 50
  pst := ⟨Profile.default, Profile.default, none, false, Nv.blank⟩
  efu :=
    { Efu.reset with
      faults :=
        [FaultEntry.atStart ⟨.region .profile, .profileLost⟩,
          FaultEntry.atStart ⟨.totalizer, .totalsLost⟩] }
  cap := Cap.idle
  mpt := PerPort.fill (PortState.start .b19200)
  pending := []

/-- A part without power, the rest of its state as after a first power-on (assumption 21). -/
def State.unpowered : State := { State.reset with power := .off }

/-! ### Replacing one block -/

/-- Replace the power state. -/
def State.setPower (s : State) (x : Power) : State := { s with power := x }
/-- Replace the 1 ms timebase. -/
def State.setTimebase (s : State) (x : Nat) : State := { s with timebase := x }
/-- Replace the counter of free values. -/
def State.setFreeCount (s : State) (x : Nat) : State := { s with freeCount := x }
/-- Replace the front end. -/
def State.setSfe (s : State) (x : Sfe) : State := { s with sfe := x }
/-- Replace the correlator. -/
def State.setXcr (s : State) (x : Xcr) : State := { s with xcr := x }
/-- Replace the tracker. -/
def State.setStk (s : State) (x : Stk) : State := { s with stk := x }
/-- Replace the solver. -/
def State.setFsv (s : State) (x : Fsv) : State := { s with fsv := x }
/-- Replace the guard. -/
def State.setDgd (s : State) (x : Dgd) : State := { s with dgd := x }
/-- Replace the totalizer. -/
def State.setTot (s : State) (x : Tot) : State := { s with tot := x }
/-- Replace the pulse unit. -/
def State.setPls (s : State) (x : Pls) : State := { s with pls := x }
/-- Replace the profile store. -/
def State.setPst (s : State) (x : Pst) : State := { s with pst := x }
/-- Replace the event and fault unit. -/
def State.setEfu (s : State) (x : Efu) : State := { s with efu := x }
/-- Replace the capture unit. -/
def State.setCap (s : State) (x : Cap) : State := { s with cap := x }
/-- Replace the master ports. -/
def State.setMpt (s : State) (x : PerPort PortState) : State := { s with mpt := x }
/-- Replace the queue of waiting commands. -/
def State.setPending (s : State) (x : List Instr) : State := { s with pending := x }

end Sys2Proof.Machine
end

