-- ==== Sys2Proof/Machine/Operands.lean ====
section
/-!
DEFINITION. Arithmetic and encoding: rounding and index comparison (spec 0.7), the CRC-16 (R182), the
widths and codes of payload items (R187, R188), the command statuses (R186) and the response frame
(R184).
-/

namespace Sys2Proof.Machine

/-! ### Arithmetic (spec 0.7) -/

/-- `x / y` rounded to the nearest integer, halves up, for non-negative `x`. -/
def roundDiv (x y : Nat) : Nat := (2 * x + y) / (2 * y)

/-- `x / y` rounded up. -/
def ceilDiv (x y : Nat) : Nat := (x + y - 1) / y

/-- An integer clamped to a range. -/
def clampInt (lo hi x : Int) : Int := max lo (min hi x)

/-- The signed difference of two indices modulo 2³² (R2). -/
def indexDiff (i j : Index) : Int := (i - j).toInt

/-- `i` is before `j` (R2). -/
def indexBefore (i j : Index) : Bool := indexDiff i j < 0

/-- `i` is after `j` (R2). -/
def indexAfter (i j : Index) : Bool := 0 < indexDiff i j

/-- The index `k` frames after `i`, modulo 2³². -/
def indexAdd (i : Index) (k : Nat) : Index := i + BitVec.ofNat 32 k

/-- The counter `c` increased by `k`, saturating at the largest 32-bit value (R164). -/
def satAdd (c k : Nat) : Nat := min (c + k) Config.counterMax

/-! ### Payload widths (R187): most significant byte first -/

/-- The low `k` bytes of `x`, most significant first. -/
def bytesBE : Nat → Nat → List Byte
  | 0, _ => []
  | k + 1, x => BitVec.ofNat 8 (x / 256 ^ k) :: bytesBE k x

/-- An unsigned item of one byte. -/
def u8 (x : Nat) : List Byte := bytesBE 1 x
/-- An unsigned item of two bytes. -/
def u16 (x : Nat) : List Byte := bytesBE 2 x
/-- An unsigned item of four bytes. -/
def u32 (x : Nat) : List Byte := bytesBE 4 x
/-- An unsigned item of six bytes. -/
def u48 (x : Nat) : List Byte := bytesBE 6 x
/-- An unsigned item of eight bytes. -/
def u64 (x : Nat) : List Byte := bytesBE 8 x
/-- A signed item of two bytes, in two's complement. -/
def i16 (x : Int) : List Byte := bytesBE 2 (BitVec.ofInt 16 x).toNat
/-- A signed item of four bytes, in two's complement. -/
def i32 (x : Int) : List Byte := bytesBE 4 (BitVec.ofInt 32 x).toNat
/-- A yes/no or set/clear item (R188). -/
def flag (b : Bool) : List Byte := u8 (if b then 1 else 0)

/-- An item present only in some cases: a presence byte, then the item at its full width of `width`
bytes, as zeros when absent (R187). -/
def optItem {α : Type} (width : Nat) (enc : α → List Byte) : Option α → List Byte
  | some x => u8 1 ++ enc x
  | none => u8 0 ++ List.replicate width 0

/-! ### Codes of named values (R188) -/

/-- The code of a port that may be none. -/
def portCode : Option Port → Nat
  | none => 0
  | some p => p.num

/-- The code of a velocity status. -/
def VelStatus.code : VelStatus → Nat
  | .filling => 0 | .correlated => 1 | .slug => 2 | .held => 3 | .lost => 4

/-- The code of a φ source. -/
def PhiSource.code : PhiSource → Nat
  | .rings => 0 | .held => 1 | .flush => 2

/-- The code of a line state. -/
def LineState.code : LineState → Nat
  | .stopped => 0 | .starting => 1 | .running => 2

/-- The code of a guard state. -/
def GuardState.code : GuardState → Nat
  | .clear => 0 | .watch => 1 | .tripped => 2 | .recovered => 3

/-- The code of a ring's health. -/
def Health.code : Health → Nat
  | .healthy => 0 | .suspect => 1 | .failed => 2

/-- The code of the clock source. -/
def ClockSource.code : ClockSource → Nat
  | .crystal => 0 | .fallback => 1

/-- The code of the correlator state. -/
def Correlation.code : Correlation → Nat
  | .idle => 0 | .running _ => 1 | .late _ => 2

/-- The code of a result reason. -/
def Reason.code : Reason → Nat
  | .noPeak => 1 | .edge => 2 | .lowQuality => 3

/-- The code of an interval basis. -/
def Basis.code : Basis → Nat
  | .velocity => 0 | .range => 1

/-- The code of the carrier source. -/
def CarrierSource.code : CarrierSource → Nat
  | .profile => 0 | .learned => 1

/-- The code of the pulse basis. -/
def PulseBasis.code : PulseBasis → Nat
  | .volume => 0 | .solids => 1

/-- The code of the pulse generator state. -/
def GenState.code : GenState → Nat
  | .idle => 0 | .high => 1 | .gap => 2

/-- The code of the capture state. -/
def CapState.code : CapState → Nat
  | .idle => 0 | .armed => 1 | .filling => 2 | .full => 3

/-- The code of a capture's content kind. -/
def Content.code : Content → Nat
  | .raw _ => 0 | .correlogram _ => 1

/-- The ring or slot of a capture's content. -/
def Content.which : Content → Nat
  | .raw r => r.num | .correlogram s => s.num

/-- The code of a capture trigger. -/
def Trigger.code : Trigger → Nat
  | .immediate => 0 | .guardTripped => 1 | .velocityLost => 2 | .ringFailed => 3 | .slugDeparted => 4

/-- The trigger a code names. -/
def Trigger.ofCode : Nat → Option Trigger
  | 0 => some .immediate
  | 1 => some .guardTripped
  | 2 => some .velocityLost
  | 3 => some .ringFailed
  | 4 => some .slugDeparted
  | _ => none

/-- The content that a content code and a ring or slot number name (R170). -/
def Content.ofCodes : Nat → Nat → Option Content
  | 0, w => (Ring.ofNum w).map .raw
  | 1, w => (Slot.ofNum w).map .correlogram
  | _, _ => none

/-- The code of a fault source. -/
def FaultSource.code : FaultSource → Nat
  | .ring r => r.num
  | .clock => 4 | .correlator => 5 | .carrier => 6 | .totalizer => 7 | .pulseUnit => 8
  | .region .profile => 9 | .region .totals => 10

/-- The code of a fault kind. -/
def FaultKind.code : FaultKind → Nat
  | .sampleSaturated => 0 | .sampleMissing => 1 | .signalFlat => 2 | .carrierDrift => 3
  | .clockFallback => 4 | .correlationLate => 5 | .flushUnstable => 6 | .totalsLost => 7
  | .pulseOverrun => 8 | .nvWriteFailed => 9 | .profileLost => 10

/-- The region a write is for. -/
def NvJob.region : NvJob → Region
  | .profile _ => .profile
  | .totals _ => .totals

/-- The code of the non-volatile device's state. -/
def nvCode : Option NvJob → Nat
  | none => 0
  | some (.profile _) => 1
  | some (.totals _) => 2

/-- The regions of the waiting writes: bit 0 for profile, bit 1 for totals. -/
def waitingCode (l : List NvJob) : Nat :=
  (if l.any (fun j => j.region == .profile) then 1 else 0)
    + (if l.any (fun j => j.region == .totals) then 2 else 0)

/-- The baud rate of a speed (R179). -/
def Speed.baud : Speed → Nat
  | .b19200 => 19200 | .b38400 => 38400 | .b57600 => 57600 | .b115200 => 115200

/-- The speed a strap pair sets (R179). -/
def Speed.ofStraps (s : StrapPair) : Speed :=
  match s.high, s.low with
  | false, false => .b19200
  | false, true => .b38400
  | true, false => .b57600
  | true, true => .b115200

/-! ### Status codes (R186) -/

/-- The ten statuses of a response. -/
inductive Status where
  | ok | unknown | length | range | held | notHolder | busy | invalid | state | danger
deriving DecidableEq, Repr

/-- The status codes of R186. -/
def Status.code : Status → Nat
  | .ok => 0 | .unknown => 1 | .length => 2 | .range => 3 | .held => 4 | .notHolder => 5
  | .busy => 6 | .invalid => 7 | .state => 8 | .danger => 9

/-! ### The frame check and the response frame -/

/-- One bit of the CRC-16, polynomial x¹⁶ + x¹² + x⁵ + 1 (R182). -/
def crcBit (c : BitVec 16) : BitVec 16 :=
  if c.msb then (c <<< 1) ^^^ 0x1021#16 else c <<< 1

/-- One byte of the CRC-16, bits taken most significant first (R182). -/
def crcByte (c : BitVec 16) (x : Byte) : BitVec 16 :=
  Nat.repeat crcBit 8 (c ^^^ (x.zeroExtend 16 <<< 8))

/-- The CRC-16 of R182, initial value 0xFFFF. -/
def crc16 (l : List Byte) : BitVec 16 := l.foldl crcByte 0xFFFF#16

/-- The start-of-frame byte (R180, R184). -/
def sof : Byte := 0xA5#8

/-- The bytes of a response (R184): SOF, length, command echo, status, payload and CRC-16. -/
def responseFrame (echo : Byte) (st : Status) (payload : List Byte) : List Byte :=
  let body := u16 (payload.length + 2) ++ echo :: u8 st.code ++ payload
  sof :: body ++ u16 (crc16 body).toNat

end Sys2Proof.Machine
end

