-- ==== Sys2Proof/Machine/Flags.lean ====
section
/-!
DEFINITION. Sets of event kinds and the condition that drives an ATN line (R151, R155), the condition
that drives TRIP (R98), the flags of a flow record (R79, R192), and the conditions of a window (R11).
-/

namespace Sys2Proof.Machine

/-! ### Event kinds -/

/-- The sixteen kinds in the order of R151. -/
def EventKind.all : List EventKind :=
  [.guardTripped, .velocityLost, .guardWatch, .ringFailed, .nvWriteFailed, .guardRecovered,
   .pulseOverrun, .faultMapFull, .clockFallback, .ringRestored, .captureDone, .profileApplied,
   .claimExpired, .totalsCleared, .slugDeparted, .recordPublished]

/-- The row of R151 a kind stands in, counted from 0; its bit in a set (R187). -/
def EventKind.num : EventKind → Nat
  | .guardTripped => 0 | .velocityLost => 1 | .guardWatch => 2 | .ringFailed => 3
  | .nvWriteFailed => 4 | .guardRecovered => 5 | .pulseOverrun => 6 | .faultMapFull => 7
  | .clockFallback => 8 | .ringRestored => 9 | .captureDone => 10 | .profileApplied => 11
  | .claimExpired => 12 | .totalsCleared => 13 | .slugDeparted => 14 | .recordPublished => 15

/-- The fixed level of a kind (R151). -/
def EventKind.level : EventKind → Nat
  | .guardTripped => 7 | .velocityLost => 6 | .guardWatch => 5 | .ringFailed => 5
  | .nvWriteFailed => 5 | .guardRecovered => 4 | .pulseOverrun => 4 | .faultMapFull => 4
  | .clockFallback => 4 | .ringRestored => 3 | .captureDone => 3 | .profileApplied => 2
  | .claimExpired => 2 | .totalsCleared => 2 | .slugDeparted => 1 | .recordPublished => 1

/-- The set that holds one kind. -/
def EventKind.bit (k : EventKind) : EventSet := 1#16 <<< k.num

/-- Whether a set holds a kind. -/
def hasKind (e : EventSet) (k : EventKind) : Bool := e.getLsbD k.num

/-- Whether a port's items assert its ATN line: a pending enabled kind of a level above the threshold
(R155). -/
def Attention.qualifies (a : Attention) : Bool :=
  EventKind.all.any fun k => hasKind a.posted k && hasKind a.enable k && decide (a.threshold < k.level)

/-- Drive a port's ATN line from its three items (R155). -/
def Attention.drive (a : Attention) : Attention := { a with atn := a.qualifies }

/-- Add a kind to a port's pending set and drive its line (R152, R155). -/
def Attention.add (k : EventKind) (a : Attention) : Attention :=
  Attention.drive { a with posted := a.posted ||| k.bit }

/-- The kind that triggers a capture (R171). -/
def Trigger.kind : Trigger → Option EventKind
  | .immediate => none
  | .guardTripped => some .guardTripped
  | .velocityLost => some .velocityLost
  | .ringFailed => some .ringFailed
  | .slugDeparted => some .slugDeparted

/-! ### TRIP -/

/-- TRIP is asserted exactly in TRIPPED and RECOVERED (R98). -/
def GuardState.trips : GuardState → Bool
  | .tripped | .recovered => true
  | .clear | .watch => false

/-! ### Flow record flags -/

/-- DISAGREE: vc and vs both present and more than 15 per cent of vc apart (R79). -/
def disagrees (vc vs : Option Nat) : Bool :=
  match vc, vs with
  | some c, some s => decide (15 * (c : Int) < |(c : Int) - s| * 100)
  | _, _ => false

/-- The flags byte of a flow record (R192). -/
def FlowRecord.flags (r : FlowRecord) : Nat :=
  (if r.vc.isSome then 1 else 0) + (if r.vs.isSome then 2 else 0)
    + (if r.margin.isSome then 4 else 0) + (if r.disagree then 8 else 0)
    + (if r.clockDegraded then 16 else 0) + (if r.carrierDrift then 32 else 0)
    + (if r.rangeCut then 64 else 0)

/-! ### Conditions of a closing window -/

/-- The saturated condition (R11). -/
def Tally.isSaturated (n : Nat) (t : Tally) : Bool := n / 16 < t.saturated

/-- The missing condition (R11). -/
def Tally.isMissing (n : Nat) (t : Tally) : Bool := n / 16 < t.missing

/-- The flat condition (R11). -/
def Tally.isFlat (n flatFloor : Nat) (t : Tally) : Bool := t.energy < flatFloor * n

/-- A window is bad for a ring if any condition holds (R11). -/
def Tally.isBad (n flatFloor : Nat) (t : Tally) : Bool :=
  t.isSaturated n || t.isMissing n || t.isFlat n flatFloor

/-- The type of a fault kind: whether it is a condition, reported at every boundary (R158). -/
def FaultKind.isCondition : FaultKind → Bool
  | .sampleSaturated | .sampleMissing | .signalFlat | .carrierDrift | .clockFallback => true
  | .correlationLate | .flushUnstable | .totalsLost | .pulseOverrun | .nvWriteFailed
  | .profileLost => false

end Sys2Proof.Machine
end

