-- ==== Sys2Proof/Machine/Ops.lean ====
section
/-!
DEFINITION. The operations that several blocks share: which rings count, reading the history, counting a
statistic, posting an event (with the capture trigger it may be), recording and reporting a fault,
queuing a write of the non-volatile device, and taking a request on a port.
-/

namespace Sys2Proof.Machine

/-! ### Rings and the active profile -/

/-- The profile that governs the part (R131). -/
def State.active (s : State) : Profile := s.pst.active

/-- A ring is configured if it is one of the first ringCount rings (spec 0.5). -/
def isConfigured (p : Profile) (r : Ring) : Bool := r.num < p.ringCount

/-- The health of a ring as graded at the latest boundary (R13). -/
def State.health (s : State) (r : Ring) : Health := (s.sfe.rings.get r).health

/-- A configured ring that is not FAILED: a link of the chain (R23). -/
def State.isLive (s : State) (r : Ring) : Bool :=
  isConfigured s.active r && s.health r != .failed

/-- The chain of R23: the configured rings that are not FAILED, in order. -/
def State.chain (s : State) : List Ring := Ring.all.filter s.isLive

/-- The first live ring downstream of a ring (R58, R61, R64). -/
def State.nextLive (s : State) (r : Ring) : Option Ring :=
  s.chain.find? fun x => r.num < x.num

/-- The spacing from one ring to a ring downstream: the sum of the gaps it spans (R24). -/
def spacing (p : Profile) (up down : Ring) : Nat :=
  (if up.num ≤ 0 ∧ 1 ≤ down.num then p.spacingAB else 0)
    + (if up.num ≤ 1 ∧ 2 ≤ down.num then p.spacingBC else 0)
    + (if up.num ≤ 2 ∧ 3 ≤ down.num then p.spacingCD else 0)

/-! ### The history (R6) -/

/-- The first `n` values of a list, continued with zeros. -/
def takeZ : Nat → List Int → List Int
  | 0, _ => []
  | n + 1, [] => 0 :: takeZ n []
  | n + 1, x :: xs => x :: takeZ n xs

/-- The entry of sample index `i`: the stored sample if it is held, and 0 otherwise (R6). -/
def histAt (last : Index) (h : List Int) (i : Index) : Int := h.getD (last - i).toNat 0

/-- The `n` entries that end at sample index `newest`, newest first: the answers of `histAt` at `newest`
and the indices before it, read off the list in one or, where the indices pass the last one stored, two
pieces. -/
def histRun (last : Index) (h : List Int) (newest : Index) (n : Nat) : List Int :=
  let far := (last - newest).toNat
  let ahead := 2 ^ 32 - far
  if n ≤ ahead then takeZ n (h.drop far) else takeZ ahead (h.drop far) ++ takeZ (n - ahead) h

/-! ### Statistics -/

/-- Change the statistics counters. -/
def State.count (f : Stats → Stats) (s : State) : State :=
  s.setEfu { s.efu with stats := f s.efu.stats }

/-! ### Capture: trigger and completion -/

/-- Add a kind to one port's pending set and drive its line (R152). -/
def State.postTo (k : EventKind) (p : Port) (s : State) : State :=
  s.setEfu { s.efu with ports := s.efu.ports.set p (Attention.add k (s.efu.ports.get p)) }

/-- Post CAPTURE_DONE to the owner of the capture unit and to no other port (R152, R174). -/
def State.postCaptureDone (s : State) : State :=
  match s.cap.owner with
  | some p => s.postTo .captureDone p
  | none => s

/-- A fill completes with the values in the buffer (R174). -/
def State.completeCapture (values : List Int) (s : State) : State :=
  (s.setCap { s.cap with
    state := .full, buffer := values, count := values.length, empty := false }).postCaptureDone

/-- A fill completes with EMPTY and no values (R172, R173, R177). -/
def State.completeEmpty (s : State) : State :=
  (s.setCap { s.cap with
    state := .full, buffer := [], count := 0, empty := true,
    header := s.cap.header.map fun h => { h with raw := none, corr := none } }).postCaptureDone

/-- The latest 1,024 entries of a ring's history, oldest first (R172). -/
def State.rawValues (s : State) (r : Ring) : List Int :=
  (takeZ Config.captureDepth (s.sfe.rings.get r).hist).reverse

/-- The header a trigger records (R171, R172). -/
def State.triggerHeader (s : State) (raw : Option RawHeader) : CapHeader :=
  ⟨s.xcr.windowNumber, s.sfe.lastIndex, raw, none⟩

/-- The capture unit is triggered (R171): it records the trigger point and goes to FILLING. A RAW capture
takes the entries as the trigger finds them (R172, assumption 26); a RAW capture of a ring that is not
configured completes at once with EMPTY. -/
def State.triggerCapture (s : State) : State :=
  match s.cap.content with
  | some (.raw r) =>
    if isConfigured s.active r then
      s.setCap { s.cap with
        state := .filling, buffer := s.rawValues r,
        header := some (s.triggerHeader
          (some ⟨r, s.sfe.lastIndex, min Config.captureDepth s.sfe.fill⟩)) }
    else
      (s.setCap { s.cap with header := some (s.triggerHeader none) }).completeEmpty
  | _ => s.setCap { s.cap with state := .filling, header := some (s.triggerHeader none) }

/-- Whether an armed capture waits for a kind (R171). -/
def Cap.waitsFor (c : Cap) (k : EventKind) : Bool :=
  c.state == .armed && (c.trigger.bind Trigger.kind) == some k

/-! ### Events -/

/-- Post a kind: it is added to every port's pending set, the ATN lines are driven, and a capture armed on
the kind is triggered (R152, R155, R171). CAPTURE_DONE is posted by `State.postCaptureDone` instead. -/
def State.post (k : EventKind) (s : State) : State :=
  let s' := s.setEfu { s.efu with ports := s.efu.ports.map fun _ a => Attention.add k a }
  if s.cap.waitsFor k then s'.triggerCapture else s'

/-! ### Fault map -/

/-- FULL is set; FAULT_MAP_FULL is posted when it was clear (R161). -/
def State.markFull (s : State) : State :=
  if s.efu.full then s
  else State.post .faultMapFull (s.setEfu { s.efu with full := true })

/-- Whether the map holds an entry with a key. -/
def Efu.holdsKey (e : Efu) (key : FaultKey) : Bool := e.faults.any fun x => x.key == key

/-- Change the entry with a key. -/
def Efu.changeEntry (e : Efu) (key : FaultKey) (f : FaultEntry → FaultEntry) : Efu :=
  { e with faults := e.faults.map fun x => if x.key = key then f x else x }

/-- A recording or a holding report reaches the map under the latest window number (R159 to R161);
`active` is what the entry's flag becomes. -/
def State.noteFault (active : Bool) (key : FaultKey) (s : State) : State :=
  let w := s.xcr.windowNumber
  if s.efu.holdsKey key then
    s.setEfu (s.efu.changeEntry key fun x =>
      { x with last := w, occurrences := min (x.occurrences + 1) 65535, active := active })
  else if s.efu.faults.length < Config.faultCapacity then
    s.setEfu { s.efu with faults := s.efu.faults ++ [⟨key, w, w, 1, active⟩] }
  else s.markFull

/-- An occurrence kind is recorded (R159). -/
def State.recordFault (key : FaultKey) (s : State) : State := s.noteFault false key

/-- A source of a condition kind reports at a boundary whether the condition held (R160). -/
def State.reportFault (key : FaultKey) (holds : Bool) (s : State) : State :=
  if holds then s.noteFault true key
  else s.setEfu (s.efu.changeEntry key fun x => { x with active := false })

/-! ### The non-volatile device (R145) -/

/-- Queue a write behind a write in progress: it takes the place of a waiting write of its region, or
waits last. -/
def enqueueWrite (j : NvJob) (l : List NvJob) : List NvJob :=
  if l.any (fun x => x.region == j.region) then l.map fun x => if x.region = j.region then j else x
  else l ++ [j]

/-- A write is queued: it starts at once on an idle device and waits otherwise (R145). -/
def Nv.queue (j : NvJob) (v : Nv) : Nv :=
  match v.writing with
  | none => { v with writing := some j }
  | some _ => { v with waiting := enqueueWrite j v.waiting }

/-- What a region holds is replaced (`none`: it fails its check). -/
def Nv.leave (v : Nv) (g : Region) : Nv :=
  match g with
  | .profile => { v with profileRegion := none }
  | .totals => { v with totalsRegion := none }

/-- A reset or a loss of power cuts a write short, leaving its region failing its check, and discards the
waiting writes (R147, R116). -/
def Nv.cut (v : Nv) : Nv :=
  match v.writing with
  | none => { v with waiting := [] }
  | some j => { (v.leave j.region) with writing := none, waiting := [] }

/-- Change the non-volatile device. -/
def State.mapNv (f : Nv → Nv) (s : State) : State := s.setPst { s.pst with nv := f s.pst.nv }

/-- The items of a checkpoint as bytes, in the order of its table at the widths of R187 (R115, assumption
11). -/
def Checkpoint.itemBytes (c : Checkpoint) : List Byte :=
  u48 c.volume.toNat ++ u32 c.volumeResidue ++ u48 c.solids.toNat ++ u64 c.solidsResidue ++ u16 c.rate

/-- A checkpoint passes its check: the CRC-16 it holds is that of its items (R115, R118). -/
def Checkpoint.passes (c : Checkpoint) : Bool := c.check == crc16 c.itemBytes

/-- A checkpoint with the check of its items (R115). -/
def Checkpoint.seal (c : Checkpoint) : Checkpoint := { c with check := crc16 c.itemBytes }

/-- The snapshot a checkpoint holds (R115). -/
def Tot.snapshot (t : Tot) : Checkpoint :=
  Checkpoint.seal
    ⟨BitVec.ofNat 48 t.volume, t.volumeResidue, BitVec.ofNat 48 t.solids, t.solidsResidue, t.rate, 0⟩

/-- A checkpoint is queued, for whatever cause: the count returns to 0 (R115). -/
def State.queueCheckpoint (s : State) : State :=
  (s.mapNv (Nv.queue (.totals s.tot.snapshot))).setTot { s.tot with checkpoint := 0 }

/-! ### Ports -/

/-- Replace one port. -/
def State.setPort (s : State) (p : Port) (x : PortState) : State := s.setMpt (s.mpt.set p x)

/-- The receiver ends a frame: WAIT_IDLE, idle time 0, buffer empty (R181). -/
def PortState.endFrame (x : PortState) : PortState :=
  { x with rx := .waitIdle, idle := 0, buffer := [] }

/-- A frame dropped for a failed check is counted on its port (R181, R182). -/
def State.countCheckError (p : Port) (s : State) : State :=
  s.count fun c => { c with checkErrors := c.checkErrors.set p (satAdd (c.checkErrors.get p) 1) }

/-- A frame dropped for overrun is counted on its port (R185). -/
def State.countOverrun (p : Port) (s : State) : State :=
  s.count fun c => { c with overruns := c.overruns.set p (satAdd (c.overruns.get p) 1) }

/-- What a request is answered: the status, the payload and the state it leaves the blocks in. -/
structure Answer where
  status : Status
  payload : List Byte
  state : State

/-- A request is taken on a FREE port: it acts at once, and its response is prepared with the content of
this moment (R183, R184). -/
def State.answer (p : Port) (echo : Byte) (h : State → Answer) (s : State) : State :=
  let a := h s
  a.state.setPort p { (a.state.mpt.get p).endFrame with
    tx := .preparing, response := responseFrame echo a.status a.payload }

/-- A frame whose last byte arrives while its port is PREPARING is an overrun (R185). -/
def State.overrunFrame (p : Port) (s : State) : State :=
  (s.countOverrun p).setPort p (s.mpt.get p).endFrame

/-- A whole, correct frame of a request reaches a port: it is taken if the port is FREE and an overrun
while it is PREPARING; while it is SENDING, and on a part without power or held in reset, no byte is
received (R183, R185, R194). -/
def State.request (p : Port) (echo : Byte) (h : State → Answer) (s : State) : State :=
  if s.power = .running then
    match (s.mpt.get p).tx with
    | .free => s.answer p echo h
    | .preparing => s.overrunFrame p
    | .sending => s
  else s

/-- An event that only a running part can take; otherwise nothing happens (assumption 2). -/
def State.whenRunning (f : State → State) (s : State) : State :=
  if s.power = .running then f s else s

end Sys2Proof.Machine
end

