-- ==== Sys2Proof/Machine/Profile.lean ====
section
/-!
DEFINITION. The profile as data (sections 7.1 and 7.4): its fields by number with their ranges and wire
values (R129, R130, R187), the cross-field checks (R140), the geometry of the spool they rest on (R25,
R26), and what a commit changes (R143).
-/

namespace Sys2Proof.Machine

/-! ### Fields by number (R129) -/

/-- The deposition points 1 to 8, fields 17 to 24 (R130). -/
def Profile.points (p : Profile) : List DepPoint :=
  [p.dep1, p.dep2, p.dep3, p.dep4, p.dep5, p.dep6, p.dep7, p.dep8]

/-- Whether a field number names a deposition point (R130). -/
def isPointField (k : Nat) : Bool := 17 ≤ k && k ≤ 24

/-- Whether a field number names a field (R129). -/
def isField (k : Nat) : Bool := 1 ≤ k && k ≤ 42

/-- The value of a field that is not a point; named values by their codes (R188). -/
def Profile.scalar (p : Profile) : Nat → Int
  | 1 => p.ringCount
  | 2 => p.spacingAB
  | 3 => p.spacingBC
  | 4 => p.spacingCD
  | 5 => p.fs
  | 6 => p.n
  | 7 => p.meanShift
  | 8 => p.flatFloor
  | 9 => p.vMin
  | 10 => p.vMax
  | 11 => p.qMin
  | 12 => p.holdWindows
  | 13 => p.bore
  | 14 => p.carrierCode
  | 15 => p.rhoS
  | 16 => p.depCount
  | 25 => p.watchMargin
  | 26 => p.tripMargin
  | 27 => p.hysteresis
  | 28 => p.tripCount
  | 29 => p.clearCount
  | 30 => if p.lostIsDanger then 1 else 0
  | 31 => p.stopVel
  | 32 => p.armWindows
  | 33 => p.thetaInit
  | 34 => p.thetaStep
  | 35 => p.thetaMin
  | 36 => p.thetaMax
  | 37 => p.minWidth
  | 38 => p.tol
  | 39 => p.stationDistance
  | 40 => p.pulseBasis.code
  | 41 => p.pulseWeight
  | 42 => p.pulseWidth
  | _ => 0

/-- The deposition point of a point field; the last one for any other number. -/
def Profile.point (p : Profile) : Nat → DepPoint
  | 17 => p.dep1
  | 18 => p.dep2
  | 19 => p.dep3
  | 20 => p.dep4
  | 21 => p.dep5
  | 22 => p.dep6
  | 23 => p.dep7
  | _ => p.dep8

/-- The range of a field that is not a point (R129). -/
def fieldRange : Nat → Int × Int
  | 1 => (2, 4)
  | 2 => (100, 5000)
  | 3 => (100, 5000)
  | 4 => (100, 5000)
  | 5 => (100, 2000)
  | 6 => (128, 512)
  | 7 => (4, 12)
  | 8 => (0, 65535)
  | 9 => (100, 19999)
  | 10 => (200, 20000)
  | 11 => (0, 1024)
  | 12 => (0, 64)
  | 13 => (50, 1500)
  | 14 => (1000, 65000)
  | 15 => (1500, 6000)
  | 16 => (1, 8)
  | 25 => (-2000, 5000)
  | 26 => (-2000, 5000)
  | 27 => (0, 5000)
  | 28 => (1, 32)
  | 29 => (1, 255)
  | 30 => (0, 1)
  | 31 => (50, 10000)
  | 32 => (1, 255)
  | 33 => (1, 32767)
  | 34 => (0, 8000)
  | 35 => (1, 32767)
  | 36 => (1, 32767)
  | 37 => (2, 64)
  | 38 => (5, 50)
  | 39 => (0, 60000)
  | 40 => (0, 1)
  | 41 => (1, 100000)
  | 42 => (10, 500)
  | _ => (0, -1)

/-- Whether a value lies in the range of a field that is not a point; field 6, N, takes 128, 256 and 512
only (R129). -/
def scalarInRange (k : Nat) (v : Int) : Bool :=
  if k = 6 then v == 128 || v == 256 || v == 512
  else (fieldRange k).1 ≤ v && v ≤ (fieldRange k).2

/-- Whether both members of a point lie in their ranges (R130). -/
def pointInRange (x : DepPoint) : Bool := x.phi ≤ 6000 && x.vc ≤ 10000

/-- Whether one field of a profile lies in its range. -/
def Profile.fieldInRange (p : Profile) (k : Nat) : Bool :=
  if isPointField k then pointInRange (p.point k) else scalarInRange k (p.scalar k)

/-- Whether every field of a profile lies in its range (R129). -/
def Profile.inRange (p : Profile) : Bool := (List.range' 1 42).all p.fieldInRange

/-- Replace a field that is not a point by a value in its range. -/
def Profile.setScalar (p : Profile) (k : Nat) (v : Int) : Profile :=
  match k with
  | 1 => { p with ringCount := v.toNat }
  | 2 => { p with spacingAB := v.toNat }
  | 3 => { p with spacingBC := v.toNat }
  | 4 => { p with spacingCD := v.toNat }
  | 5 => { p with fs := v.toNat }
  | 6 => { p with n := v.toNat }
  | 7 => { p with meanShift := v.toNat }
  | 8 => { p with flatFloor := v.toNat }
  | 9 => { p with vMin := v.toNat }
  | 10 => { p with vMax := v.toNat }
  | 11 => { p with qMin := v.toNat }
  | 12 => { p with holdWindows := v.toNat }
  | 13 => { p with bore := v.toNat }
  | 14 => { p with carrierCode := v.toNat }
  | 15 => { p with rhoS := v.toNat }
  | 16 => { p with depCount := v.toNat }
  | 25 => { p with watchMargin := v }
  | 26 => { p with tripMargin := v }
  | 27 => { p with hysteresis := v }
  | 28 => { p with tripCount := v.toNat }
  | 29 => { p with clearCount := v.toNat }
  | 30 => { p with lostIsDanger := v == 1 }
  | 31 => { p with stopVel := v.toNat }
  | 32 => { p with armWindows := v.toNat }
  | 33 => { p with thetaInit := v.toNat }
  | 34 => { p with thetaStep := v.toNat }
  | 35 => { p with thetaMin := v.toNat }
  | 36 => { p with thetaMax := v.toNat }
  | 37 => { p with minWidth := v.toNat }
  | 38 => { p with tol := v.toNat }
  | 39 => { p with stationDistance := v.toNat }
  | 40 => { p with pulseBasis := if v = 1 then .solids else .volume }
  | 41 => { p with pulseWeight := v.toNat }
  | 42 => { p with pulseWidth := v.toNat }
  | _ => p

/-- Replace a deposition point. -/
def Profile.setPoint (p : Profile) (k : Nat) (x : DepPoint) : Profile :=
  match k with
  | 17 => { p with dep1 := x }
  | 18 => { p with dep2 := x }
  | 19 => { p with dep3 := x }
  | 20 => { p with dep4 := x }
  | 21 => { p with dep5 := x }
  | 22 => { p with dep6 := x }
  | 23 => { p with dep7 := x }
  | 24 => { p with dep8 := x }
  | _ => p

/-- The point a wire value carries: φ in its first two bytes, Vc in its last two (R187). -/
def pointOfWord (w : BitVec 32) : DepPoint := ⟨w.toNat / 65536, w.toNat % 65536⟩

/-- The wire value of a field: signed, or φ then Vc for a point (R187). -/
def Profile.word (p : Profile) (k : Nat) : BitVec 32 :=
  if isPointField k then BitVec.ofNat 32 ((p.point k).phi * 65536 + (p.point k).vc)
  else BitVec.ofInt 32 (p.scalar k)

/-- The profile with the wire value `w` written to field `k`, or `none` where the number names no field or
the value lies outside the field's range (R135). -/
def Profile.write (p : Profile) (k : Nat) (w : BitVec 32) : Option Profile :=
  if isField k then
    if isPointField k then
      if pointInRange (pointOfWord w) then some (p.setPoint k (pointOfWord w)) else none
    else if scalarInRange k w.toInt then some (p.setScalar k w.toInt) else none
  else none

/-! ### The profile region (R144) -/

/-- The values of fields 1 to 42 as bytes, each at its width of R187 (R144, assumption 11). -/
def Profile.regionBytes (p : Profile) : List Byte :=
  (List.range' 1 42).flatMap fun k => u32 (p.word k).toNat

/-- The snapshot of a profile that a write of the profile region carries: the values and their CRC-16
(R144). -/
def Profile.image (p : Profile) : ProfileImage := ⟨p, crc16 p.regionBytes⟩

/-- What the profile region holds passes its check: the CRC-16 is that of the values (R144, R148). -/
def ProfileImage.passes (x : ProfileImage) : Bool := x.check == crc16 x.profile.regionBytes

/-! ### Lag ranges and formability (R25, R26) -/

/-- Lmin of a spacing (R25). -/
def Profile.lmin (p : Profile) (s : Nat) : Nat := s * p.fs / p.vMax

/-- Lmax of a spacing before the cap (R25). -/
def Profile.lmaxUncapped (p : Profile) (s : Nat) : Nat := ceilDiv (s * p.fs) p.vMin

/-- The limit that the history sets on lags (R25). -/
def Profile.lagLimit (p : Profile) : Nat := Config.historyDepth - 2 * p.n

/-- The cap of a lag range (R25). -/
def Profile.lagCap (p : Profile) (s : Nat) : Nat := min p.lagLimit (p.lmin s + 511)

/-- A spacing is formable when its Lmin is at least 1 and below 2,048 − 2N (R26). -/
def Profile.formable (p : Profile) (s : Nat) : Bool := 1 ≤ p.lmin s && p.lmin s < p.lagLimit

/-! ### Cross-field checks (R140) -/

/-- The deposition table: points 1 to depCount (R130). -/
def Profile.depTable (p : Profile) : List DepPoint := p.points.take p.depCount

/-- Whether the φ of a table are strictly ascending. -/
def ascending : List DepPoint → Bool
  | x :: y :: l => x.phi < y.phi && ascending (y :: l)
  | _ => true

/-- The gaps between adjacent configured rings, with their codes (R140, R188). -/
def Profile.gaps (p : Profile) : List (Nat × Nat) :=
  [(0, p.spacingAB), (1, p.spacingBC), (2, p.spacingCD)].filter fun g => g.1 + 2 ≤ p.ringCount

/-- The first gap that fails check 5 (R139, R140). -/
def Profile.failedGap (p : Profile) : Option Nat :=
  (p.gaps.find? fun g => !p.formable g.2).map (·.1)

/-- The first check that fails, with the failed gap of check 5; `none` when all six pass (R139, R140). -/
def Profile.firstFailure (p : Profile) : Option (Nat × Option Nat) :=
  if ¬ p.vMin < p.vMax then some (1, none)
  else if ¬ p.tripMargin ≤ p.watchMargin then some (2, none)
  else if ¬ (p.thetaMin ≤ p.thetaInit ∧ p.thetaInit ≤ p.thetaMax) then some (3, none)
  else if ¬ (1 ≤ p.depCount ∧ p.depCount ≤ 8 ∧ ascending p.depTable = true) then some (4, none)
  else match p.failedGap with
    | some g => some (5, some g)
    | none => if ¬ p.stopVel < p.vMax then some (6, none) else none

/-- A profile the part may make active: every field in range and every check passed (R131, R148). -/
def Profile.accepted (p : Profile) : Bool := p.inRange && p.firstFailure.isNone

/-! ### What a commit changes (R143) -/

/-- A commit from `old` to `new` is a geometry commit (R143). -/
def isGeometry (old new : Profile) : Bool :=
  old.fs != new.fs || old.n != new.n || old.ringCount != new.ringCount

end Sys2Proof.Machine
end

