-- ==== Sys2Proof/Machine/Frontend.lean ====
section
/-!
DEFINITION. The sample front end (chapter 1): frames and replies, detrending, the history, the window
tallies, the grading of rings, flushes and the clock source.
-/

namespace Sys2Proof.Machine

/-! ### One sample (R3 to R5) -/

/-- The running mean after a sample `c` of a seeded ring (R4). -/
def meanStep (shift mean c : Nat) : Nat :=
  ((mean : Int) + (256 * (c : Int) - mean) / 2 ^ shift).toNat

/-- The mean code, round(M / 256) with halves up (R5, R21). -/
def meanCode (mean : Nat) : Nat := (mean + 128) / 256

/-- The detrended sample (R5). -/
def detrend (mean c : Nat) : Int := clampInt (-32767) 32767 ((c : Int) - meanCode mean)

/-- The code used for a frame: the good reply's, or the ring's last good code (R3). -/
def RingSense.codeFor (x : RingSense) : Option Reply → Nat
  | some (.good c) => c
  | _ => x.lastGood

/-- The sample is substituted: the reply is missing or has a parity error (R3). -/
def isSubstituted : Option Reply → Bool
  | some (.good _) => false
  | _ => true

/-- The sample is saturated: a good reply of code 0 or 65,535 (R3). -/
def isSaturatedReply : Option Reply → Bool
  | some (.good c) => c == 0 || c == 65535
  | _ => false

/-- The running mean after a frame: seeded at the ring's first sample (R4). -/
def RingSense.meanAfter (shift : Nat) (reply : Option Reply) (x : RingSense) : Nat :=
  if x.seeded then meanStep shift x.mean (x.codeFor reply) else 256 * x.codeFor reply

/-- A configured ring stores the sample of a frame (R3 to R7). -/
def RingSense.store (shift : Nat) (reply : Option Reply) (x : RingSense) : RingSense :=
  let c := x.codeFor reply
  let m := x.meanAfter shift reply
  let d := detrend m c
  { x with
    lastGood := c
    mean := m
    seeded := true
    hist := d :: x.hist.take (Config.historyDepth - 1)
    tally :=
      { missing := x.tally.missing + (if isSubstituted reply then 1 else 0)
        saturated := x.tally.saturated + (if isSaturatedReply reply then 1 else 0)
        energy := x.tally.energy + d.natAbs ^ 2 } }

/-! ### Frames (R1, R2) -/

/-- Whether a reply's seventeen code and parity bits have odd parity (R1). -/
def oddParity (code : BitVec 16) (parity : Bool) : Bool :=
  (List.range 16).foldl (fun acc i => acc ^^ code.getLsbD i) parity

/-- The reply a ring's code and parity bits make (R1). RING_REPLY stands for a reply that has arrived
whole, from its start bit on, and is judged by its parity alone: sixteen ones with a parity bit of one are
odd and give the good code 65,535. A line left open (R195) gives no start bit, so it is told as no reply
(assumption 38). -/
def Reply.ofBits (code : BitVec 16) (parity : Bool) : Reply :=
  if oddParity code parity then .good code.toNat else .parityError

/-- The strobes of all configured rings rise on a frame with the next sample index (R1, R2). -/
def Sfe.openFrame (p : Profile) (f : Sfe) : Sfe :=
  { f with
    frame := some ⟨f.nextIndex, PerRing.fill none⟩
    nextIndex := f.nextIndex + 1
    strobe := PerRing.build (isConfigured p) }

/-- Every configured ring's reply to an open frame has arrived. -/
def Frame.complete (p : Profile) (f : Frame) : Bool :=
  Ring.all.all fun r => !isConfigured p r || (f.replies.get r).isSome

/-- A frame is stored for every configured ring together (R3 to R8). -/
def Sfe.store (p : Profile) (fr : Frame) (f : Sfe) : Sfe :=
  { f with
    rings := f.rings.map fun r x =>
      if isConfigured p r then x.store p.meanShift (fr.replies.get r) else x
    fill := min (f.fill + 1) Config.historyDepth
    windowPos := f.windowPos + 1
    lastIndex := fr.index
    frame := none
    strobe := PerRing.fill false }

/-- The sample counters of a stored frame (R3, R164). -/
def Stats.countFrame (p : Profile) (fr : Frame) (c : Stats) : Stats :=
  { c with
    substituted := c.substituted.map fun r x =>
      if isConfigured p r && isSubstituted (fr.replies.get r) then satAdd x 1 else x
    saturated := c.saturated.map fun r x =>
      if isConfigured p r && isSaturatedReply (fr.replies.get r) then satAdd x 1 else x }

/-- The frame is stored and counted. -/
def State.storeFrame (fr : Frame) (s : State) : State :=
  (s.setSfe (s.sfe.store s.active fr)).count (Stats.countFrame s.active fr)

/-! ### The window boundary in the front end (R8 to R13, R19) -/

/-- How a ring's health and runs move on a bad or a good window (R12). -/
def RingSense.grade (bad : Bool) (x : RingSense) : RingSense :=
  match x.health, bad with
  | .healthy, false => { x with badRun := 0, goodRun := 0 }
  | .healthy, true => { x with health := .suspect, badRun := 1, goodRun := 0 }
  | .suspect, true =>
    if 3 ≤ x.badRun + 1 then { x with health := .failed, badRun := 0, goodRun := 0 }
    else { x with badRun := x.badRun + 1, goodRun := 0 }
  | .suspect, false =>
    if 4 ≤ x.goodRun + 1 then { x with health := .healthy, badRun := 0, goodRun := 0 }
    else { x with badRun := 0, goodRun := x.goodRun + 1 }
  | .failed, false =>
    if 4 ≤ x.goodRun + 1 then { x with health := .healthy, goodRun := 0 }
    else { x with goodRun := x.goodRun + 1 }
  | .failed, true => { x with goodRun := 0 }

/-- The tallies of the closing window become the last closed tallies and start again (R7). -/
def RingSense.closeTally (x : RingSense) : RingSense :=
  { x with closed := x.tally, tally := Tally.zero }

/-- The window closes in the front end: the position returns to 0, readiness is settled (R10), and every
configured ring is graded (R11, R12), except at a boundary that applies a geometry commit (R15). -/
def Sfe.closeWindow (p : Profile) (geometry : Bool) (f : Sfe) : Sfe :=
  { f with
    windowPos := 0
    ready := f.ready || Config.historyDepth - p.n ≤ f.fill
    rings := f.rings.map fun r x =>
      if isConfigured p r then
        (if geometry then x else x.grade (x.tally.isBad p.n p.flatFloor)).closeTally
      else x }

/-- The event a change of health posts (R12). -/
def healthEvent : Health → Health → Option EventKind
  | .suspect, .failed => some .ringFailed
  | .failed, .healthy => some .ringRestored
  | _, _ => none

/-- Post what the grading of the rings gives, in ring order (R12). -/
def State.postHealth (before : PerRing RingSense) (s : State) : State :=
  Ring.all.foldl (fun s' r =>
    match healthEvent (before.get r).health (s.sfe.rings.get r).health with
    | some k => s'.post k
    | none => s') s

/-- After 1,024 ms of stable crystal the clock source returns to CRYSTAL (R19). -/
def Sfe.settleClock (f : Sfe) : Sfe :=
  if f.clock = .fallback ∧ f.stable = Config.stableMs then { f with clock := .crystal, stable := 0 }
  else f

/-- The reports of one ring's three conditions on the closing window; none holds for a ring that is not
configured (R11). -/
def ringReports (p : Profile) (f : Sfe) (r : Ring) : List (FaultKey × Bool) :=
  let t := (f.rings.get r).tally
  let on := isConfigured p r
  [(⟨.ring r, .sampleSaturated⟩, on && t.isSaturated p.n),
   (⟨.ring r, .sampleMissing⟩, on && t.isMissing p.n),
   (⟨.ring r, .signalFlat⟩, on && t.isFlat p.n p.flatFloor)]

/-! ### Flushes (R14) -/

/-- A ring at a history flush; the last good code and the last closed tallies are kept (R14). -/
def RingSense.flush (x : RingSense) : RingSense :=
  { x with
    hist := []
    seeded := false
    tally := Tally.zero
    health := .healthy
    badRun := 0
    goodRun := 0 }

/-- The history flush in the front end (R14). -/
def Sfe.flush (f : Sfe) : Sfe :=
  { f with
    fill := 0
    windowPos := 0
    ready := false
    rings := f.rings.map fun _ x => x.flush }

/-- A RESTART in the front end: flushed, an open frame discarded, the next index 0 (R16, R17). -/
def Sfe.restart (f : Sfe) : Sfe :=
  { f.flush with nextIndex := 0, lastIndex := 0, frame := none, strobe := PerRing.fill false }

/-- A ring that is not configured has no tallies: its last closed tallies read as zero (R7). -/
def Sfe.dropTallies (p : Profile) (f : Sfe) : Sfe :=
  { f with rings := f.rings.map fun r x =>
      if isConfigured p r then x else { x with closed := Tally.zero } }

/-! ### Clock source (R18 to R20) -/

/-- The crystal monitor finds the crystal failed (R18). The switch is made at once, also while the replies
of a frame are awaited; the frame goes on, and a boundary that it closes finds the clock source FALLBACK
(assumption 36). -/
def State.crystalFails (s : State) : State :=
  match s.sfe.clock with
  | .crystal =>
    State.post .clockFallback
      (s.setSfe { s.sfe with clock := .fallback, stable := 0, degraded := true })
  | .fallback => s.setSfe { s.sfe with stable := 0 }

/-- The stable time reaches 1,024 ms and is held there (R19, assumption 40). -/
def Sfe.stableReached (f : Sfe) : Sfe :=
  match f.clock with
  | .crystal => f
  | .fallback => { f with stable := Config.stableMs }

/-- The degraded mark after a publication has taken the flag (R20). -/
def Sfe.takeDegraded (f : Sfe) : Sfe := { f with degraded := f.clock == .fallback }

end Sys2Proof.Machine
end

