-- ==== Sys2Proof/Machine/Correlator.lean ====
section
/-!
DEFINITION. The correlator (chapter 2): the pair table, the sums of a correlation, the peak with its
quality and offset, the pair results, and what a boundary does to a correlation.
-/

namespace Sys2Proof.Machine

/-! ### The pair table (R23 to R26) -/

/-- The candidate of two neighbouring rings of the chain, as the pair entry it would be (R24, R25). -/
def candidate (p : Profile) (slot : Slot) (up down : Ring) : PairEntry :=
  let s := spacing p up down
  { slot := slot
    up := up
    down := down
    bridged := decide (up.num + 1 < down.num)
    spacing := s
    lmin := p.lmin s
    lmax := min (p.lmaxUncapped s) (p.lagCap s)
    rangeCut := decide (p.lagCap s < p.lmaxUncapped s) }

/-- The candidate of a slot: the slot's ring of the chain with the ring after it (R23). -/
def candidateAt (p : Profile) (chain : List Ring) (slot : Slot) : Option PairEntry :=
  match chain[slot.num]?, chain[slot.num + 1]? with
  | some up, some down => some (candidate p slot up down)
  | _, _ => none

/-- The pair table of a chain: the formable candidates (R23, R26). -/
def buildTable (p : Profile) (chain : List Ring) : PerSlot (Option PairEntry) :=
  (PerSlot.fill ()).map fun slot _ =>
    (candidateAt p chain slot).filter fun e => p.formable e.spacing

/-- How many candidates of a chain are unformable (R26). -/
def unformableCount (p : Profile) (chain : List Ring) : Nat :=
  ([Slot.s0, .s1, .s2].filterMap (candidateAt p chain)).countP fun e => !p.formable e.spacing

/-- No slot holds a pair. -/
def tableEmpty (t : PerSlot (Option PairEntry)) : Bool := t.toList.all Option.isNone

/-! ### The sums (R30, R41) -/

/-- The sum of products of two runs. -/
def dot : List Int → List Int → Int
  | x :: xs, y :: ys => x * y + dot xs ys
  | _, _ => 0

/-- The upstream run at lag `k`: the entries of u that end `k` samples before t (R30). -/
def Sfe.upRun (f : Sfe) (c : InFlight) (e : PairEntry) (k : Nat) : List Int :=
  histRun f.lastIndex (f.rings.get e.up).hist (c.t - BitVec.ofNat 32 k) c.n

/-- The downstream run: window w of the downstream ring (R30). -/
def Sfe.downRun (f : Sfe) (c : InFlight) (e : PairEntry) : List Int :=
  histRun f.lastIndex (f.rings.get e.down).hist c.t c.n

/-- R(k), computed on the history as it stands at the completion (R30). -/
def Sfe.corr (f : Sfe) (c : InFlight) (e : PairEntry) (k : Nat) : Int :=
  dot (f.upRun c e k) (f.downRun c e)

/-- The correlogram of a pair: R(k) for every lag from Lmin to Lmax (R30). -/
def Sfe.correlogram (f : Sfe) (c : InFlight) (e : PairEntry) : List Int :=
  (List.range (e.lmax + 1 - e.lmin)).map fun i => f.corr c e (e.lmin + i)

/-- The position of the first largest value, with that value; `best` is the position held so far. -/
def peakFrom (pos : Nat) (best : Nat × Int) : List Int → Nat × Int
  | [] => best
  | x :: l => peakFrom (pos + 1) (if best.2 < x then (pos, x) else best) l

/-- The position of the largest sum in a correlogram, the smallest one where several share it, with the
sum (R37). -/
def peakOf : List Int → Nat × Int
  | [] => (0, 0)
  | x :: l => peakFrom 1 (0, x) l

/-! ### From correlogram to pair result (R37 to R43) -/

/-- The interpolation offset of a peak from its three sums (R39). -/
def peakOffset (a b c : Int) : Int :=
  if a - 2 * b + c = 0 then 0
  else clampInt (-128) 128 ((128 * (a - c)).tdiv (a - 2 * b + c))

/-- The quality of a peak (R41). -/
def quality (r : Int) (eu ed : Nat) : Nat :=
  if eu * ed = 0 then 0 else min 1024 (1024 * r.natAbs ^ 2 / (eu * ed))

/-- The sum of squares of a run (R41). -/
def energy (l : List Int) : Nat := (dot l l).toNat

/-- The pair velocity of a transit (R43). -/
def pairVelocity (s fs tau : Nat) : Nat := min 20000 (roundDiv (s * 256 * fs) tau)

/-- The result of a pair at the completion of a correlation (R37 to R44). -/
def Sfe.pairResult (f : Sfe) (c : InFlight) (e : PairEntry) : PairResult :=
  let g := f.correlogram c e
  let peak := peakOf g
  let kp := e.lmin + peak.1
  let interior := decide (e.lmin < kp) && decide (kp < e.lmax)
  let delta := if 0 < peak.2 ∧ interior = true then
      peakOffset (g.getD (peak.1 - 1) 0) peak.2 (g.getD (peak.1 + 1) 0) else 0
  let tau := (256 * (kp : Int) + delta).toNat
  let eu := energy (f.upRun c e kp)
  let ed := energy (f.downRun c e)
  let q := if 0 < peak.2 then quality peak.2 eu ed else 0
  { window := c.window
    slot := e.slot
    up := e.up
    down := e.down
    spacing := e.spacing
    lmin := e.lmin
    lmax := e.lmax
    rangeCut := e.rangeCut
    kp := kp
    delta := delta
    tau := tau
    energies := if 0 < peak.2 then some (eu, ed) else none
    q := q
    verdict :=
      if peak.2 ≤ 0 then .invalid .noPeak
      else if interior = false then .invalid .edge
      else if q < c.qMin then .invalid .lowQuality
      else .valid (pairVelocity e.spacing c.fs tau) }

/-- The velocity of a valid result (R43). -/
def PairResult.vp? (r : PairResult) : Option Nat :=
  match r.verdict with
  | .valid v => some v
  | .invalid _ => none

/-- The reason of an invalid result (R42). -/
def PairResult.reason? (r : PairResult) : Option Reason :=
  match r.verdict with
  | .valid _ => none
  | .invalid x => some x

/-- The result set of a completed correlation (R44). -/
def Sfe.resultSet (f : Sfe) (c : InFlight) : PerSlot (Option PairResult) :=
  c.pairs.map fun _ e => e.map (f.pairResult c)

/-- The counters of a completion (R45). -/
def Stats.countCompletion (rs : PerSlot (Option PairResult)) (c : Stats) : Stats :=
  { c with
    completed := satAdd c.completed 1
    valid := c.valid.map fun slot x =>
      if ((rs.get slot).bind PairResult.vp?).isSome then satAdd x 1 else x }

/-- A result set replaces the previous one and the correlator is IDLE (R44, R31). -/
def State.publishResults (w : Index) (rs : PerSlot (Option PairResult)) (s : State) : State :=
  (s.setXcr { s.xcr with state := .idle, results := rs, resultWindow := w }).count
    (Stats.countCompletion rs)

/-! ### The correlator at a boundary (R22, R27, R29, R33 to R36) -/

/-- The correlation in flight, if any. -/
def Correlation.inFlight : Correlation → Option InFlight
  | .idle => none
  | .running f => some f
  | .late f => some f

/-- The pair table is rebuilt from the chain under the profile in force, and unformable candidates are
counted (R23, R26, R27). -/
def State.rebuildTable (s : State) : State :=
  (s.setXcr { s.xcr with table := buildTable s.active s.chain }).count fun c =>
    { c with unformable := satAdd c.unformable (unformableCount s.active s.chain) }

/-- The in-flight record of a correlation of the window just closed (R29). -/
def State.newInFlight (s : State) : InFlight where
  window := s.xcr.windowNumber
  t := s.sfe.lastIndex
  pairs := s.xcr.table
  n := s.active.n
  fs := s.active.fs
  qMin := s.active.qMin

/-- What a boundary does to the correlation: a begun one is skipped past or abandoned, and an IDLE
correlator begins one where the history is ready and the table holds a pair (R29, R33, R34). -/
def State.correlatorBoundary (s : State) : State :=
  let begin' (s : State) : State :=
    if s.sfe.ready && !tableEmpty s.xcr.table then
      s.setXcr { s.xcr with state := .running s.newInFlight }
    else s.setXcr { s.xcr with state := .idle }
  match s.xcr.state with
  | .idle => begin' s
  | .running f =>
    (s.setXcr { s.xcr with state := .late f }).count fun c =>
      { c with skipped := satAdd c.skipped 1 }
  | .late _ => begin' (s.count fun c => { c with discardedLate := satAdd c.discardedLate 1 })

/-- A boundary gives a completion without pairs: the history is ready, the table is empty and the
correlator is IDLE after its boundary work (R31, R34). -/
def State.completesWithoutPairs (s : State) : Bool :=
  s.sfe.ready && tableEmpty s.xcr.table && s.xcr.state == .idle

/-- The key under which a late correlation is recorded (R33, R34). -/
def lateKey : FaultKey := ⟨.correlator, .correlationLate⟩

end Sys2Proof.Machine
end

