-- ==== Sys2Proof/Machine/Tracker.lean ====
section
/-!
DEFINITION. The slug tracker (chapter 3): detectors, detections, slug records with their expected
intervals, completion, the departed list, and the tracker's work at a boundary.
-/

namespace Sys2Proof.Machine

/-! ### Detectors (R49 to R51) -/

/-- What a detector reports at a sample. -/
inductive SlugEnd where
  | nothing
  | runt
  | long
  | detection (onset : Index) (peak width : Nat)
deriving DecidableEq, Repr

/-- A detector's step on the density proxy `d` of sample index `i` (R49 to R51). -/
def detectorStep (p : Profile) (theta : Nat) (i : Index) (d : Int) : Detector → Detector × SlugEnd
  | .armed => if (theta : Int) ≤ d then (.inSlug i d.toNat, .nothing) else (.armed, .nothing)
  | .inSlug onset peak =>
    let width := (i - onset).toNat
    if 2 * d < theta then
      (.armed, if p.minWidth ≤ width then .detection onset peak width else .runt)
    else if 4 * p.n ≤ width then (.holdoff, .long)
    else (.inSlug onset (max peak d.toNat), .nothing)
  | .holdoff => if 2 * d < theta then (.armed, .nothing) else (.holdoff, .nothing)

/-- Change what the tracker holds for one ring. -/
def State.mapTrack (r : Ring) (f : RingTrack → RingTrack) (s : State) : State :=
  s.setStk { s.stk with rings := s.stk.rings.set r (f (s.stk.rings.get r)) }

/-- A ring is charged a false event (R54). -/
def State.charge (r : Ring) (s : State) : State :=
  s.mapTrack r fun x => { x with charges := min (x.charges + 1) 65535 }

/-! ### The expected interval (R59, R60) -/

/-- The velocity of the standing record on which an interval may rest (R59). -/
def State.usableVelocity (s : State) : Option Nat :=
  let r := s.fsv.record
  match r.status with
  | .correlated | .slug | .held => if s.active.vMin ≤ r.v then some r.v else none
  | .filling | .lost => none

/-- Give a record a next ring and the interval expected there, for the spacing from the ring of its
reference (R59, R60). -/
def State.aim (s : State) (x : SlugRecord) (refRing next : Ring) : SlugRecord :=
  let p := s.active
  let d := spacing p refRing next * p.fs
  match s.usableVelocity with
  | some v =>
    { x with
      next := next
      basis := .velocity
      eMin := indexAdd x.reference (d * (100 - p.tol) / (100 * v))
      eMax := indexAdd x.reference (ceilDiv (d * (100 + p.tol)) (100 * v)) }
  | none =>
    { x with
      next := next
      basis := .range
      eMin := indexAdd x.reference (d / p.vMax)
      eMax := indexAdd x.reference (min (ceilDiv d p.vMin) 2048) }

/-- The expected interval of a record holds an onset (R56). -/
def SlugRecord.expects (x : SlugRecord) (onset : Index) : Bool :=
  !indexAfter x.eMin onset && !indexBefore x.eMax onset

/-! ### Completion and departure (R62, R66, R67) -/

/-- A slug velocity: distance over transit at a frame rate, clamped (R62, R65). -/
def slugVelocity (distance fs transit : Nat) : Nat := min 20000 (roundDiv (distance * fs) transit)

/-- The offset of a predicted arrival (R67). -/
def departOffset (p : Profile) (vs : Nat) : Nat :=
  min (roundDiv (p.stationDistance * 1000 * p.fs) vs) (2 ^ 30)

/-- An entry joins the departed list, the oldest one dropped for space, and SLUG_DEPARTED is posted
(R66, R67). -/
def State.depart (x : SlugRecord) (last : Index) (vs : Nat) (s : State) : State :=
  let full := decide (Config.departedCapacity ≤ s.stk.departed.length)
  let kept := if full then s.stk.departed.drop 1 else s.stk.departed
  let entry : Departed :=
    ⟨x.tag, x.peak, x.width, last, vs, indexAdd last (departOffset s.active vs)⟩
  State.post .slugDeparted
    ((s.setStk { s.stk with departed := kept ++ [entry] }).count fun c =>
      { c with departedDropped := satAdd c.departedDropped (if full then 1 else 0) })

/-- A record that has left the table completes, timed from its origin to its last arrival (R62). -/
def State.completeSlug (x : SlugRecord) (s : State) : State :=
  match x.arrivals.getLast? with
  | none => s
  | some a =>
    let dist := spacing s.active x.origin a.ring
    let transit := indexDiff a.onset x.onset
    if 0 < transit then
      let t := transit.toNat
      let vs := slugVelocity dist s.active.fs t
      let s' := (s.setStk { s.stk with
          sumDistance := s.stk.sumDistance + dist
          sumTransit := s.stk.sumTransit + t
          sumCount := s.stk.sumCount + 1 }).count fun c =>
        { c with
          slugsCompleted := satAdd c.slugsCompleted 1
          transitSum := satAdd c.transitSum t
          transitCount := satAdd c.transitCount 1 }
      if 0 < vs ∧ 0 < s.active.stationDistance then s'.depart x a.onset vs else s'
    else s.count fun c => { c with slugsCompleted := satAdd c.slugsCompleted 1 }

/-! ### Detections (R56, R58, R61) -/

/-- Replace the first record that satisfies a test by others. -/
def updateFirst (q : SlugRecord → Bool) (f : SlugRecord → List SlugRecord) :
    List SlugRecord → List SlugRecord
  | [] => []
  | x :: l => if q x then f x ++ l else x :: updateFirst q f l

/-- Place a record after every record whose onset is not after its own (R58). -/
def insertRecord (x : SlugRecord) : List SlugRecord → List SlugRecord
  | [] => [x]
  | y :: l => if indexAfter y.onset x.onset then x :: y :: l else y :: insertRecord x l

/-- The first tag from `tag` upward, modulo 256, that no record holds; `fuel` values are tried (R58). -/
def freeTag (l : List SlugRecord) : Nat → BitVec 8 → BitVec 8
  | 0, tag => tag
  | fuel + 1, tag => if l.any (fun x => x.tag == tag) then freeTag l fuel (tag + 1) else tag

/-- A record advances on an arrival at ring `r` (R61): it is aimed at the next live ring, or completes. -/
def State.arrive (q : SlugRecord → Bool) (x : SlugRecord) (r : Ring) (onset : Index) (s : State) :
    State :=
  let x' := { x with arrivals := x.arrivals ++ [⟨r, onset⟩], reference := onset }
  match s.nextLive r with
  | some next => s.setStk { s.stk with table := updateFirst q (fun _ => [s.aim x' r next]) s.stk.table }
  | none => (s.setStk { s.stk with table := updateFirst q (fun _ => []) s.stk.table }).completeSlug x'

/-- A detection at the origin ring makes a record aimed at `next` (R58). -/
def State.createRecord (r next : Ring) (onset : Index) (peak width : Nat) (s : State) : State :=
  let full := decide (Config.slugCapacity ≤ s.stk.table.length)
  let kept := if full then s.stk.table.drop 1 else s.stk.table
  let tag := freeTag kept 256 (s.stk.tagCounter + 1)
  let x : SlugRecord := s.aim
    { tag := tag, origin := r, onset := onset, peak := peak, width := width, next := next,
      reference := onset, basis := .range, eMin := onset, eMax := onset, arrivals := [] } r next
  (s.setStk { s.stk with table := insertRecord x kept, tagCounter := tag }).count fun c =>
    { c with
      evicted := satAdd c.evicted (if full then 1 else 0)
      slugsCreated := satAdd c.slugsCreated 1 }

/-- The test of R56: a record aimed at `r` whose interval holds the onset. -/
def matchesAt (r : Ring) (onset : Index) (x : SlugRecord) : Bool :=
  decide (x.next = r) && x.expects onset

/-- A detection is handled at the frame that produced it (R56). Of several records that match, the first
in onset order, which is the table's order, is taken as the oldest (R58, assumption 37). -/
def State.detection (r : Ring) (onset : Index) (peak width : Nat) (s : State) : State :=
  let s := s.mapTrack r fun x => { x with detected := true }
  match s.stk.table.find? (matchesAt r onset) with
  | some x => s.arrive (matchesAt r onset) x r onset
  | none =>
    if s.chain.head? = some r then
      match s.nextLive r with
      | some next => s.createRecord r next onset peak width
      | none => s
    else (s.count fun c => { c with unmatched := satAdd c.unmatched 1 }).charge r

/-- The detector of a ring takes the sample of a frame, and the tracker what it reports (R48 to R51). -/
def State.trackRing (i : Index) (r : Ring) (s : State) : State :=
  if s.isLive r then
    let d := -((s.sfe.rings.get r).hist.headD 0)
    let x := s.stk.rings.get r
    let out := detectorStep s.active x.theta i d x.detector
    let s' := s.mapTrack r fun x => { x with detector := out.1 }
    match out.2 with
    | .nothing => s'
    | .runt => s'.count fun c => { c with runts := satAdd c.runts 1 }
    | .long => s'.count fun c => { c with long := satAdd c.long 1 }
    | .detection onset peak width => s'.detection r onset peak width
  else s

/-- The detectors handle a stored frame in ring order (R48). -/
def State.trackFrame (s : State) : State :=
  Ring.all.foldl (fun s r => s.trackRing s.sfe.lastIndex r) s

/-! ### The boundary (R52, R55, R63, R64, R68) -/

/-- The detectors of FAILED rings are ARMED (R52). -/
def State.armFailed (s : State) : State :=
  s.setStk { s.stk with
    rings := s.stk.rings.map fun r x =>
      if s.health r = .failed then { x with detector := .armed } else x }

/-- The detector of a record's next ring is in a slug whose onset the interval holds (R63). At a geometry
commit the detector of a ring that stops being configured still counts here, since R69 puts the detectors to
ARMED after this work (DESIGN CHOICE, assumption 41). -/
def State.arriving (s : State) (x : SlugRecord) : Bool :=
  match (s.stk.rings.get x.next).detector with
  | .inSlug onset _ => x.expects onset
  | _ => false

/-- A record is stale at the boundary of sample index `t` (R63). -/
def State.isStale (s : State) (t : Index) (x : SlugRecord) : Bool :=
  indexBefore x.eMax t && !s.arriving x

/-- A record that is removed as stale is counted, and its origin ring charged (R63, R64). -/
def State.dropStale (x : SlugRecord) (s : State) : State :=
  (s.count fun c => { c with stale := satAdd c.stale 1 }).charge x.origin

/-- The stale sweep (R63). -/
def State.staleSweep (t : Index) (s : State) : State :=
  let gone := s.stk.table.filter (s.isStale t)
  let kept := s.stk.table.filter fun x => !s.isStale t x
  gone.foldl (fun s x => s.dropStale x) (s.setStk { s.stk with table := kept })

/-- The ring of a record's reference: its last arrival's, or its origin (R64). -/
def SlugRecord.refRing (x : SlugRecord) : Ring :=
  match x.arrivals.getLast? with
  | some a => a.ring
  | none => x.origin

/-- The records aimed at a FAILED ring are aimed past it, completed, or removed as stale (R64); the records
kept and the state are returned. R64 gives several records no order: they are taken in table order, which
decides the order in which those that complete enter the departed list (assumption 39). -/
def reAimList : List SlugRecord → State → List SlugRecord × State
  | [], s => ([], s)
  | x :: l, s =>
    if s.health x.next = .failed then
      match s.nextLive x.next with
      | some next =>
        let rest := reAimList l s
        (s.aim x x.refRing next :: rest.1, rest.2)
      | none =>
        if x.arrivals.isEmpty then reAimList l (s.dropStale x)
        else reAimList l (s.completeSlug x)
    else
      let rest := reAimList l s
      (x :: rest.1, rest.2)

/-- The re-aiming of the slug table (R64). -/
def State.reAim (s : State) : State :=
  let out := reAimList s.stk.table s
  out.2.setStk { out.2.stk with table := out.1 }

/-- The threshold of a non-FAILED ring after its adjustment and clamping (R55). -/
def adjustTheta (p : Profile) (charges quiet theta : Nat) : Nat :=
  let moved : Nat :=
    if 2 ≤ charges then theta + p.thetaStep
    else if quiet = 4 then theta - p.thetaStep else theta
  max p.thetaMin (min p.thetaMax moved)

/-- A ring's counts and threshold at a boundary (R54, R55); `rangeChanged` says that a commit applied at
it changed θmin or θmax. -/
def RingTrack.boundary (p : Profile) (failed rangeChanged : Bool) (x : RingTrack) : RingTrack :=
  if failed then
    { x with
      charges := 0
      detected := false
      theta := if rangeChanged then max p.thetaMin (min p.thetaMax x.theta) else x.theta }
  else
    let quiet := if x.detected then 0 else min (x.quiet + 1) 4
    { x with
      charges := 0
      detected := false
      quiet := quiet
      theta := adjustTheta p x.charges quiet x.theta }

/-- The threshold adjustment of the configured rings (R55). -/
def State.adjustThresholds (rangeChanged : Bool) (s : State) : State :=
  s.setStk { s.stk with
    rings := s.stk.rings.map fun r x =>
      if isConfigured s.active r then x.boundary s.active (s.health r == .failed) rangeChanged else x }

/-- Departed entries whose predicted arrival has passed are removed (R68). -/
def State.expireDeparted (t : Index) (s : State) : State :=
  s.setStk { s.stk with departed := s.stk.departed.filter fun e => !indexBefore e.predicted t }

/-- The number of records left is added to the occupancy sum (R63). -/
def State.addOccupancy (s : State) : State :=
  s.count fun c => { c with occupancy := satAdd c.occupancy s.stk.table.length }

/-- The tracker's work at a boundary, in the order of R63. -/
def State.trackerBoundary (rangeChanged : Bool) (s : State) : State :=
  let t := s.sfe.lastIndex
  ((((s.armFailed.staleSweep t).reAim).adjustThresholds rangeChanged).expireDeparted t).addOccupancy

/-- `x` scaled from rate `old` to rate `new`, rounded to the nearest with halves away from zero. -/
def rescaleInt (x : Int) (old new : Nat) : Int :=
  if 0 ≤ x then roundDiv (x.toNat * new) old else -(roundDiv ((-x).toNat * new) old : Int)

/-- What a geometry commit does to the tracker after its boundary work (R69); the predictions are rescaled
when fs has changed. -/
def State.trackerGeometry (old : Profile) (s : State) : State :=
  let t := s.sfe.lastIndex
  let p := s.active
  s.setStk { s.stk with
    rings := PerRing.fill (RingTrack.start p.thetaInit)
    table := []
    sumDistance := 0
    sumTransit := 0
    sumCount := 0
    departed :=
      if old.fs = p.fs then s.stk.departed
      else s.stk.departed.map fun e =>
        { e with predicted := t + BitVec.ofInt 32 (rescaleInt (indexDiff e.predicted t) old.fs p.fs) } }

/-- The window slug velocity, absent where no slug has completed (R65). -/
def State.windowSlugVelocity (s : State) : Option Nat :=
  if 1 ≤ s.stk.sumCount then
    some (slugVelocity s.stk.sumDistance s.active.fs s.stk.sumTransit)
  else none

end Sys2Proof.Machine
end

