-- ==== Sys2Proof/Machine/Solver.lean ====
section
/-!
DEFINITION. The flow solver (chapter 4): the velocity chain, the solids fraction, the flush and the
carrier reference, the flows, the deposition velocity and margin, the line state, and the flow record.
-/

namespace Sys2Proof.Machine

/-! ### Velocity (R76 to R79) -/

/-- The valid results of a set, each with its quality and pair velocity. -/
def validResults (rs : PerSlot (Option PairResult)) : List (Nat × Nat) :=
  rs.toList.filterMap fun r => r.bind fun x => x.vp?.map fun v => (x.q, v)

/-- The correlation velocity: the mean of the valid pair velocities weighted by quality, or their plain
mean when every quality is 0; absent without a valid result (R76). -/
def corrVelocity (rs : PerSlot (Option PairResult)) : Option Nat :=
  match validResults rs with
  | [] => none
  | l =>
    let q := (l.map (·.1)).sum
    if q = 0 then some (roundDiv (l.map (·.2)).sum l.length)
    else some (roundDiv (l.map fun x => x.1 * x.2).sum q)

/-- The status and velocity of a record (R77). -/
def velocityChain (vc vs : Option Nat) (lastV : Option Nat) (hold holdWindows : Nat) :
    VelStatus × Nat :=
  match vc, vs, lastV with
  | some v, _, _ => (.correlated, v)
  | none, some v, _ => (.slug, v)
  | none, none, some v => if hold < holdWindows then (.held, v) else (.lost, 0)
  | none, none, none => (.lost, 0)

/-- The hold counter after a record (R78). -/
def holdAfter (st : VelStatus) (hold : Nat) : Nat :=
  match st with
  | .correlated | .slug => 0
  | .held => hold + 1
  | .lost | .filling => hold

/-- The last measured velocity after a record (R78). -/
def lastAfter (st : VelStatus) (v : Nat) (lastV : Option Nat) : Option Nat :=
  match st with
  | .correlated | .slug => some v
  | .held | .lost | .filling => lastV

/-- The span of a record (R74). -/
def spanOf (window base : Index) : Nat := min 255 (window - base).toNat

/-! ### Solids fraction (R81 to R84) -/

/-- A ring's mean code as reported: 0 when not seeded (R21). -/
def RingSense.reportedMean (x : RingSense) : Nat := if x.seeded then meanCode x.mean else 0

/-- The mean code over the configured rings that are not FAILED; not computed when there is none (R81). -/
def State.meanOfRings (s : State) : Option Nat :=
  if s.chain = [] then none
  else some ((s.chain.map fun r => (s.sfe.rings.get r).reportedMean).sum / s.chain.length)

/-- The conductance ratio in units of 1/65,536 (R82). -/
def conductanceRatio (mbar sigma : Nat) : Nat := mbar * 65536 / sigma

/-- The solids fraction of a ratio (R82). -/
def phiOfRatio (r : Nat) : Nat :=
  if 65536 ≤ r then 0 else min 6000 (roundDiv (20000 * (65536 - r)) (131072 + r))

/-- The solids fraction and its source (R83). -/
def phiChoice (flush : Bool) (mbar : Option Nat) (sigma standing : Nat) : Nat × PhiSource :=
  if flush then (0, .flush)
  else match mbar with
    | none => (standing, .held)
    | some m => (phiOfRatio (conductanceRatio m sigma), .rings)

/-- The drift mark (R84). -/
def driftMark (mbar : Option Nat) (sigma : Nat) : Bool :=
  match mbar with
  | none => false
  | some m => 105 * 65536 < conductanceRatio m sigma * 100

/-- A mean code is added to the accumulator (R87). -/
def Accumulator.add (m : Nat) (a : Accumulator) : Accumulator where
  count := min (a.count + 1) 65535
  lo := if a.count = 0 then m else min a.lo m
  hi := if a.count = 0 then m else max a.hi m
  sum := a.sum + m

/-- The accumulator after a record (R87). -/
def accAfter (flush : Bool) (mbar : Option Nat) (a : Accumulator) : Accumulator :=
  match flush, mbar with
  | true, some m => a.add m
  | _, _ => a

/-- The judgement of the accumulator at FLUSH_END: the learned mean when the flush was stable (R88). -/
def Accumulator.judge (a : Accumulator) : Option Nat :=
  let mean := a.sum / a.count
  if 8 ≤ a.count ∧ (a.hi - a.lo) * 50 ≤ a.hi ∧ 1000 ≤ mean ∧ mean ≤ 65000 then some mean else none

/-! ### Flows, deposition velocity, margin (R89 to R92) -/

/-- The pipe area of a bore (R89). -/
def pipeArea (bore : Nat) : Nat := roundDiv (bore ^ 2 * 51472) 65536

/-- The slurry flow (R90). -/
def slurryFlow (v area : Nat) : Nat := roundDiv (v * area) 100000

/-- The solids rate (R90). -/
def solidsRate (v area phi rhoS : Nat) : Nat := roundDiv (v * area * phi * rhoS * 36) (10 ^ 13)

/-- The deposition velocity between two points (R91). -/
def interpolate (x y : DepPoint) (phi : Nat) : Nat :=
  ((x.vc : Int) + ((phi : Int) - x.phi) * ((y.vc : Int) - x.vc) / ((y.phi : Int) - x.phi)).toNat

/-- The deposition velocity from a point at or below φ onward (R91). -/
def depFrom (x : DepPoint) (phi : Nat) : List DepPoint → Nat
  | [] => x.vc
  | y :: l => if phi < y.phi then interpolate x y phi else depFrom y phi l

/-- The deposition velocity of a table at φ (R91). -/
def depositionVelocity (phi : Nat) : List DepPoint → Nat
  | [] => 0
  | x :: l => if phi < x.phi then x.vc else depFrom x phi l

/-- The margin of a record (R92). -/
def marginOf (st : VelStatus) (v vDep : Nat) : Option Int :=
  match st with
  | .correlated | .slug | .held => some ((v : Int) - vDep)
  | .lost | .filling => none

/-! ### Line state (R93) -/

/-- The line state and arm count after a record (R93). -/
def lineStep (p : Profile) (st : VelStatus) (v : Nat) (line : LineState) (arm : Nat) :
    LineState × Nat :=
  if st = .lost then (line, arm)
  else if v < p.stopVel then (.stopped, 0)
  else match line with
    | .stopped => if p.armWindows ≤ 1 then (.running, 1) else (.starting, 1)
    | .starting => if p.armWindows ≤ arm + 1 then (.running, p.armWindows) else (.starting, arm + 1)
    | .running => (.running, arm)

/-! ### The record (R73, R94) -/

/-- Whether any pair of a result set has RANGE_CUT set (R94). -/
def anyRangeCut (rs : PerSlot (Option PairResult)) : Bool :=
  rs.toList.any fun r => r.any PairResult.rangeCut

/-- The flow record of a completion of window `w`, before the guard has stepped on it (R73, R94). -/
def State.computeRecord (w : Index) (rs : PerSlot (Option PairResult)) (s : State) : FlowRecord :=
  let p := s.active
  let f := s.fsv
  let vc := corrVelocity rs
  let vs := s.windowSlugVelocity
  let chain := velocityChain vc vs f.lastV f.hold p.holdWindows
  let mbar := s.meanOfRings
  let phi := phiChoice f.flush mbar f.sigma f.record.phi
  let vDep := depositionVelocity phi.1 p.depTable
  { window := w
    span := spanOf w f.spanBase
    status := chain.1
    v := chain.2
    vc := vc
    vs := vs
    disagree := disagrees vc vs
    phi := phi.1
    phiSource := phi.2
    q := slurryFlow chain.2 f.area
    s := solidsRate chain.2 f.area phi.1 p.rhoS
    vDep := vDep
    margin := marginOf chain.1 chain.2 vDep
    line := (lineStep p chain.1 chain.2 f.line f.armCount).1
    guard := f.record.guard
    clockDegraded := s.sfe.degraded
    carrierDrift := driftMark mbar f.sigma
    rangeCut := anyRangeCut rs }

/-- The solver after a record has been computed (R73, R74, R78, R84, R87, R93). -/
def State.solverAfter (r : FlowRecord) (s : State) : Fsv :=
  let f := s.fsv
  let line := lineStep s.active r.status r.v f.line f.armCount
  { f with
    record := r
    spanBase := r.window
    hold := holdAfter r.status f.hold
    lastV := lastAfter r.status r.v f.lastV
    line := line.1
    armCount := line.2
    acc := accAfter f.flush s.meanOfRings f.acc
    drift := driftMark s.meanOfRings f.sigma }

/-- The records counter of a status (R73, R164). -/
def Stats.countRecord (st : VelStatus) (c : Stats) : Stats :=
  match st with
  | .correlated => { c with recCorrelated := satAdd c.recCorrelated 1 }
  | .slug => { c with recSlug := satAdd c.recSlug 1 }
  | .held => { c with recHeld := satAdd c.recHeld 1 }
  | .lost => { c with recLost := satAdd c.recLost 1 }
  | .filling => c

/-- The window slug sums return to 0 (R65). -/
def Stk.clearSums (k : Stk) : Stk := { k with sumDistance := 0, sumTransit := 0, sumCount := 0 }

/-- The solver computes the record, takes the slug velocity and the degraded flag, and the record replaces
the standing record (R73, R20, R65). -/
def State.solve (w : Index) (rs : PerSlot (Option PairResult)) (s : State) : State :=
  let r := s.computeRecord w rs
  (((s.setFsv (s.solverAfter r)).setSfe s.sfe.takeDegraded).setStk s.stk.clearSums).count
    (Stats.countRecord r.status)

/-! ### Amendments and replacements of the standing record (R75, R86, R96) -/

/-- FLUSH_BEGIN makes the standing record agree with the declared flush (R86). -/
def FlowRecord.amendForFlush (p : Profile) (r : FlowRecord) : FlowRecord :=
  let vDep := depositionVelocity 0 p.depTable
  { r with
    phi := 0
    phiSource := .flush
    s := 0
    vDep := vDep
    margin := r.margin.map fun _ => (r.v : Int) - vDep }

/-- A flush is declared (R86). -/
def Fsv.beginFlush (p : Profile) (f : Fsv) : Fsv :=
  { f with flush := true, acc := Accumulator.zero, record := f.record.amendForFlush p }

/-- A flush is ended: a stable one gives the learned reference (R88). -/
def Fsv.endFlush (f : Fsv) : Fsv :=
  match f.acc.judge with
  | some m => { f with flush := false, sigma := m, sigmaSource := .learned }
  | none => { f with flush := false }

/-- The FILLING record a geometry commit sets (R96). -/
def FlowRecord.geometryFilling (r : FlowRecord) (degraded drift : Bool) (g : GuardState) : FlowRecord :=
  { r with
    span := 0
    status := .filling
    v := 0
    vc := none
    vs := none
    disagree := false
    q := 0
    s := 0
    margin := none
    clockDegraded := degraded
    carrierDrift := drift
    guard := g }

/-- What a commit from `old` to `new` does to the solver at the boundary of window `w` (R96, R85, R89). -/
def Fsv.applyCommit (old new : Profile) (w : Index) (degraded : Bool) (g : GuardState) (f : Fsv) : Fsv :=
  let f1 :=
    if isGeometry old new then
      { f with
        record := f.record.geometryFilling degraded f.drift g
        hold := 0
        lastV := none
        spanBase := w }
    else f
  let f2 :=
    if old.carrierCode = new.carrierCode then f1
    else { f1 with sigma := new.carrierCode, sigmaSource := .profile }
  if old.bore = new.bore then f2 else { f2 with area := pipeArea new.bore }

/-- The solver after a POR or an NRST under the loaded profile (R97). -/
def Fsv.start (p : Profile) : Fsv where
  record := FlowRecord.filling .held (depositionVelocity 0 p.depTable) .clear false
  spanBase := 0
  hold := 0
  lastV := none
  line := .stopped
  armCount := 0
  sigma := p.carrierCode
  sigmaSource := .profile
  flush := false
  acc := Accumulator.zero
  area := pipeArea p.bore
  drift := false

/-- The solver after a RESTART (R97). -/
def Fsv.restart (p : Profile) (degraded : Bool) (g : GuardState) (f : Fsv) : Fsv :=
  { f with
    record := FlowRecord.filling (if f.flush then .flush else .held)
      (depositionVelocity 0 p.depTable) g degraded
    spanBase := 0
    hold := 0
    lastV := none
    line := .stopped
    armCount := 0
    drift := false }

end Sys2Proof.Machine
end

