-- ==== Sys2Proof/Machine/Guard.lean ====
section
/-!
DEFINITION. The deposit guard (chapter 5): the classes of a record, the step of each guard state, the
TRIP line, and the release.
-/

namespace Sys2Proof.Machine

/-! ### Classes of a record (R99) -/

/-- A danger record (R99). -/
def FlowRecord.isDanger (p : Profile) (r : FlowRecord) : Bool :=
  r.line == .running
    && ((match r.margin with
        | some m => decide (m < p.tripMargin)
        | none => false)
      || (r.status == .lost && p.lostIsDanger))

/-- A watch record (R99). -/
def FlowRecord.isWatch (p : Profile) (r : FlowRecord) : Bool :=
  r.line == .running
    && (match r.margin with
      | some m => decide (m < p.watchMargin)
      | none => false)

/-- A good-for-recovery record (R99). -/
def FlowRecord.isGood (p : Profile) (r : FlowRecord) : Bool :=
  (r.status == .correlated || r.status == .slug)
    && (match r.margin with
      | some m => decide (p.tripMargin + p.hysteresis ≤ m)
      | none => false)

/-! ### The step (R101 to R105) -/

/-- The guard in a state with its counts, TRIP driven by R98. -/
def Dgd.make (st : GuardState) (danger recovery : Nat) : Dgd := ⟨st, danger, recovery, st.trips⟩

/-- The guard after a published record (R101 to R104). -/
def Dgd.step (p : Profile) (r : FlowRecord) (g : Dgd) : Dgd :=
  match g.state with
  | .clear =>
    if r.isDanger p then
      if p.tripCount ≤ 1 then Dgd.make .tripped 0 0 else Dgd.make .watch 1 0
    else if r.isWatch p then Dgd.make .watch 0 0
    else Dgd.make .clear 0 0
  | .watch =>
    if r.isDanger p then
      if p.tripCount ≤ g.danger + 1 then Dgd.make .tripped 0 0
      else Dgd.make .watch (g.danger + 1) 0
    else if r.isWatch p then Dgd.make .watch 0 0
    else Dgd.make .clear 0 0
  | .tripped =>
    if r.isGood p then
      if p.clearCount ≤ g.recovery + 1 then Dgd.make .recovered 0 0
      else Dgd.make .tripped 0 (g.recovery + 1)
    else Dgd.make .tripped 0 0
  | .recovered => if r.isDanger p then Dgd.make .tripped 0 0 else Dgd.make .recovered 0 0

/-- The kinds a step posts (R105). -/
def guardEvents (p : Profile) (r : FlowRecord) (g : Dgd) : List EventKind :=
  match g.state with
  | .clear =>
    if r.isDanger p then
      if p.tripCount ≤ 1 then [.guardWatch, .guardTripped] else [.guardWatch]
    else if r.isWatch p then [.guardWatch] else []
  | .watch => if r.isDanger p && decide (p.tripCount ≤ g.danger + 1) then [.guardTripped] else []
  | .tripped => if r.isGood p && decide (p.clearCount ≤ g.recovery + 1) then [.guardRecovered] else []
  | .recovered => if r.isDanger p then [.guardTripped] else []

/-- Write a guard state into the standing record (R100, R107). -/
def Fsv.writeGuard (g : GuardState) (f : Fsv) : Fsv := { f with record := { f.record with guard := g } }

/-- The guard steps on the record just published, drives TRIP, writes its state into the record and posts
its events (R100). -/
def State.guardStep (s : State) : State :=
  let r := s.fsv.record
  let g := s.dgd.step s.active r
  (guardEvents s.active r s.dgd).foldl (fun s k => s.post k)
    ((s.setDgd g).setFsv (s.fsv.writeGuard g.state))

/-! ### Release (R106, R107) -/

/-- The status of a GUARD_RELEASE (R106). -/
def releaseStatus (g : GuardState) (line : LineState) : Status :=
  match g with
  | .recovered => .ok
  | .tripped => if line = .stopped then .ok else .danger
  | .clear | .watch => .state

/-- An accepted release: CLEAR, both counts 0, TRIP released, and the standing record agrees (R106,
R107). -/
def State.releaseGuard (s : State) : State :=
  (s.setDgd (Dgd.make .clear 0 0)).setFsv (s.fsv.writeGuard .clear)

end Sys2Proof.Machine
end

