-- ==== Sys2Proof/Machine/Totals.lean ====
section
/-!
DEFINITION. The totalizer and the pulse unit (chapter 6): integration with residues, checkpoints, the
clear, the pulse credit and the generator.
-/

namespace Sys2Proof.Machine

/-! ### Integration (R112 to R114) -/

/-- Whether a record is integrated (R112). -/
def isIntegrated : VelStatus → Bool
  | .correlated | .slug | .held => true
  | .lost | .filling => false

/-- The volume numerator of a record (R112). -/
def volumeNumerator (p : Profile) (area : Nat) (r : FlowRecord) : Nat := r.v * area * p.n * r.span

/-- The solids numerator of a record (R112). -/
def solidsNumerator (p : Profile) (area : Nat) (r : FlowRecord) : Nat :=
  volumeNumerator p area r * r.phi * p.rhoS

/-- The divisor of the volume residue (R113). -/
def volumeDivisor (rate : Nat) : Nat := rate * 10 ^ 6

/-- The divisor of the solids residue (R113). -/
def solidsDivisor (rate : Nat) : Nat := rate * 10 ^ 13

/-- The totals after a record's numerators: whole units gained up to the limit, remainders kept (R113). -/
def Tot.integrate (vn mn : Nat) (t : Tot) : Tot :=
  { t with
    volume := min Config.totalMax (t.volume + (t.volumeResidue + vn) / volumeDivisor t.rate)
    volumeResidue := (t.volumeResidue + vn) % volumeDivisor t.rate
    solids := min Config.totalMax (t.solids + (t.solidsResidue + mn) / solidsDivisor t.rate)
    solidsResidue := (t.solidsResidue + mn) % solidsDivisor t.rate }

/-- The totals after a published record (R112, R113). -/
def Tot.afterRecord (p : Profile) (area : Nat) (r : FlowRecord) (t : Tot) : Tot :=
  if isIntegrated r.status then
    t.integrate (volumeNumerator p area r) (solidsNumerator p area r)
  else t

/-- The residues rescaled to a new rate (R114). -/
def Tot.rescale (fs : Nat) (t : Tot) : Tot :=
  if fs = t.rate then t
  else { t with
    volumeResidue := t.volumeResidue * fs / t.rate
    solidsResidue := t.solidsResidue * fs / t.rate
    rate := fs }

/-- The totals after a clear (R120). -/
def Tot.cleared (t : Tot) : Tot :=
  { t with volume := 0, volumeResidue := 0, solids := 0, solidsResidue := 0, clearPending := false }

/-- The checkpoint count rises at a publication, and a checkpoint is queued at 64 (R115). -/
def State.countPublication (s : State) : State :=
  let s' := s.setTot { s.tot with checkpoint := s.tot.checkpoint + 1 }
  if Config.checkpointEvery ≤ s.tot.checkpoint + 1 then s'.queueCheckpoint else s'

/-- A pending clear is applied: totals and residues 0, a checkpoint queued, TOTALS_CLEARED posted (R120). -/
def State.applyClear (s : State) : State :=
  State.post .totalsCleared (s.setTot s.tot.cleared).queueCheckpoint

/-! ### Pulse unit (R121 to R124) -/

/-- An IDLE generator examines the credit (R122). -/
def Pls.examine (p : Profile) (x : Pls) : Pls :=
  if p.pulseWeight ≤ x.credit then
    { x with
      credit := x.credit - p.pulseWeight
      emitted := x.emitted + 1
      width := p.pulseWidth
      pulse := true
      gen := .high
      elapsed := 0 }
  else { x with gen := .idle, pulse := false, elapsed := 0 }

/-- The generator examines the credit if it is IDLE (R121, R122). -/
def Pls.examineIfIdle (p : Profile) (x : Pls) : Pls :=
  if x.gen = .idle then x.examine p else x

/-- The largest credit held (R121). -/
def creditCap (p : Profile) : Nat := 1000 * p.pulseWeight

/-- Credit is added up to the cap; the excess is lost (R121). -/
def Pls.addCredit (p : Profile) (k : Nat) (x : Pls) : Pls :=
  { x with
    credit := min (creditCap p) (x.credit + k)
    lost := x.lost + (x.credit + k - creditCap p) }

/-- The key under which a capped credit is recorded (R121). -/
def overrunKey : FaultKey := ⟨.pulseUnit, .pulseOverrun⟩

/-- The pulse unit gains the increment of a record; an increment of 0 adds no credit (R121). -/
def State.creditPulse (k : Nat) (s : State) : State :=
  let p := s.active
  let s1 := s.setPls ((s.pls.addCredit p k).examineIfIdle p)
  if k = 0 then s
  else if creditCap p < s.pls.credit + k then (s1.post .pulseOverrun).recordFault overrunKey
  else s1

/-- The width in use has elapsed since the pulse began (R122). -/
def Pls.endPulse (x : Pls) : Pls :=
  if x.gen = .high then { x with pulse := false, gen := .gap, elapsed := 0 } else x

/-- The width in use has elapsed since GAP began (R122). -/
def Pls.endGap (p : Profile) (x : Pls) : Pls :=
  if x.gen = .gap then Pls.examine p { x with gen := .idle } else x

/-- A unit start by a commit; the width in use stays until the next pulse (R124, assumption 35). -/
def Pls.unitStart (x : Pls) : Pls := Pls.start x.width

/-- The increment of the total that pulseBasis names (R113, R121). -/
def increment (p : Profile) (before after : Tot) : Nat :=
  match p.pulseBasis with
  | .volume => after.volume - before.volume
  | .solids => after.solids - before.solids

/-- The totalizer integrates the record just published, and the pulse unit takes the increment
(R112, R115, R121). -/
def State.integrateRecord (s : State) : State :=
  let after := s.tot.afterRecord s.active s.fsv.area s.fsv.record
  ((s.setTot after).countPublication).creditPulse (increment s.active s.tot after)

end Sys2Proof.Machine
end

