-- ==== Sys2Proof/Machine/Capture.lean ====
section
/-!
DEFINITION. The capture unit (chapter 9) apart from its trigger (Machine/Ops.lean): the copy of a
correlogram, copy completion, arming, release, and what commits and restarts do to it.
-/

namespace Sys2Proof.Machine

/-! ### Filling (R172 to R174) -/

/-- The largest magnitude in a correlogram. -/
def maxMagnitude (l : List Int) : Nat := l.foldl (fun m x => max m x.natAbs) 0

/-- The shift of a correlogram capture: the smallest from 0 to 8 that brings the largest magnitude below
2³¹ (R173). -/
def captureShift (m : Nat) : Nat := ((List.range 8).find? fun k => m / 2 ^ k < 2 ^ 31).getD 8

/-- A correlogram scaled by a shift, rounded toward minus infinity (R173). -/
def scaleValues (shift : Nat) (l : List Int) : List Int := l.map fun x => x / 2 ^ shift

/-- The header items of a copied correlogram (R173). -/
def corrHeader (r : PairResult) (shift : Nat) : CorrHeader where
  window := r.window
  slot := r.slot
  up := r.up
  down := r.down
  spacing := r.spacing
  lmin := r.lmin
  lmax := r.lmax
  rangeCut := r.rangeCut
  kp := r.kp
  reason := r.reason?
  shift := shift

/-- The correlogram of a slot is copied, or the capture is EMPTY where the slot is absent (R173). -/
def State.copyCorrelogram (c : Option InFlight) (slot : Slot) (s : State) : State :=
  match c.bind fun f => (f.pairs.get slot).map fun e => (f, e) with
  | none => s.completeEmpty
  | some (f, e) =>
    let g := s.sfe.correlogram f e
    let shift := captureShift (maxMagnitude g)
    let head := corrHeader (s.sfe.pairResult f e) shift
    (s.setCap { s.cap with
      header := s.cap.header.map fun h => { h with corr := some head } }).completeCapture
      (scaleValues shift g)

/-- A correlation completion reaches the capture unit; `c` is the in-flight record, none for a completion
without pairs (R173). -/
def State.captureCompletion (c : Option InFlight) (s : State) : State :=
  match s.cap.state, s.cap.content with
  | .filling, some (.correlogram slot) => s.copyCorrelogram c slot
  | _, _ => s

/-- The copy of a RAW capture ends (R172, R174). -/
def State.copyEnds (s : State) : State :=
  match s.cap.state, s.cap.content with
  | .filling, some (.raw _) => s.completeCapture s.cap.buffer
  | _, _ => s

/-- A geometry commit abandons a RAW copy: the capture completes with EMPTY (R177). -/
def State.captureGeometry (s : State) : State :=
  match s.cap.state, s.cap.content with
  | .filling, some (.raw _) => s.completeEmpty
  | _, _ => s

/-- A RESTART aborts an ARMED or FILLING capture and keeps a FULL one (R177, R178). -/
def Cap.restart (c : Cap) : Cap :=
  match c.state with
  | .armed | .filling => Cap.idle
  | .idle | .full => c

/-! ### Arming (R170) -/

/-- Whether a content may be armed: the ring of a RAW capture is configured (R170). -/
def contentAllowed (p : Profile) : Content → Bool
  | .raw r => isConfigured p r
  | .correlogram _ => true

/-- The content and trigger an ARM_CAPTURE carries, where its bytes name ones that may be armed (R170). -/
def armRequest (p : Profile) (content which trigger : Nat) : Option (Content × Trigger) :=
  match Content.ofCodes content which, Trigger.ofCode trigger with
  | some c, some t => if contentAllowed p c then some (c, t) else none
  | _, _ => none

/-- The unit is armed for a port; IMMEDIATE triggers it in the same action (R170, R171). -/
def State.arm (p : Port) (c : Content) (t : Trigger) (s : State) : State :=
  let s' := s.setCap ⟨some p, .armed, some c, some t, none, [], 0, false⟩
  if t = .immediate then s'.triggerCapture else s'

/-- The refusal an ARM_CAPTURE meets from the unit's owner and state (R170). -/
def Cap.armRefusal (p : Port) (c : Cap) : Option Status :=
  if c.owner.isSome ∧ c.owner ≠ some p then some .held
  else match c.state with
    | .filling => some .busy
    | .full => some .state
    | .idle | .armed => none

end Sys2Proof.Machine
end

