-- ==== Sys2Proof/Machine/Store.lean ====
section
/-!
DEFINITION. The profile store (chapter 7): the edit claim, the application of a commit with what it
changes in every block, the completion of a write, and the load of the profile.
-/

namespace Sys2Proof.Machine

/-! ### The claim (R133, R138) -/

/-- Whether a port holds the claim (R133). -/
def Pst.holds (x : Pst) (p : Port) : Bool := x.claim.any fun c => c.holder == p

/-- An accepted edit command of a port sets the expiry 120,000 ms later (R133). -/
def State.refreshClaim (p : Port) (s : State) : State :=
  s.setPst { s.pst with claim := some ⟨p, s.timebase + Config.claimMs⟩ }

/-- The claim ends without a commit: the staging profile is discarded (R132, R137, R138). -/
def Pst.endClaim (x : Pst) : Pst := { x with claim := none, staging := x.active }

/-- The claim expires, unless a commit is pending (R138). -/
def State.expireClaim (s : State) : State :=
  if s.pst.claim.isSome ∧ s.pst.commitPending = false then
    State.post .claimExpired (s.setPst s.pst.endClaim)
  else s

/-- The time left until a claim's expiry; once the expiry has passed it is a free value (assumption 12). -/
def State.timeLeft (s : State) (c : Claim) : Nat :=
  if s.timebase ≤ c.expiry then c.expiry - s.timebase
  else (Config.timeLeftAfterExpiry s.freeCount).toNat

/-- The counter of free values moves on where the time left of the claim was one. -/
def State.afterTimeLeft (s : State) : State :=
  if s.pst.claim.any fun c => decide (c.expiry < s.timebase) then s.setFreeCount (s.freeCount + 1)
  else s

/-! ### Application of a commit (R142, R143) -/

/-- The staging profile becomes the active profile, the claim is released, and a write of the profile
region is queued (R142). -/
def Pst.apply (x : Pst) : Pst :=
  { x with
    active := x.staging
    claim := none
    commitPending := false
    nv := x.nv.queue (.profile x.staging.image) }

/-- A commit applied at a boundary reaches every block (R142, R143): the front end (R14, R15), the
correlator (R36), the solver (R96), the totalizer (R114), the pulse unit (R124) and the capture unit
(R177). The tracker takes it up in its boundary work (R69). -/
def State.applyCommit (s : State) : State :=
  let old := s.pst.active
  let new := s.pst.staging
  let geo := isGeometry old new
  let s1 := State.post .profileApplied (s.setPst s.pst.apply)
  let s2 := if geo then (s1.setSfe (s1.sfe.flush.dropTallies new)).setXcr { s1.xcr with state := .idle }
    else s1
  let s3 := s2.setFsv
    (s2.fsv.applyCommit old new s2.xcr.windowNumber s2.sfe.degraded s2.dgd.state)
  let s4 := if old.fs = new.fs then s3 else s3.setTot (s3.tot.rescale new.fs)
  let s5 := if old.pulseBasis = new.pulseBasis ∧ old.pulseWeight = new.pulseWeight then s4
    else s4.setPls s4.pls.unitStart
  if geo then s5.captureGeometry else s5

/-! ### The non-volatile device (R146) -/

/-- The region holds the snapshot of a write (R146). -/
def Nv.keep (v : Nv) : NvJob → Nv
  | .profile x => { v with profileRegion := some x }
  | .totals c => { v with totalsRegion := some c }

/-- The region holds what a failed write left, a free value (R146, R118, assumption 10). -/
def Nv.spoil (n : Nat) (v : Nv) : NvJob → Nv
  | .profile _ => { v with profileRegion := Config.profileAfterFailedWrite n }
  | .totals _ => { v with totalsRegion := Config.checkpointAfterFailedWrite n }

/-- The device starts the oldest waiting write, or goes IDLE (R145). -/
def Nv.next (v : Nv) : Nv :=
  match v.waiting with
  | [] => { v with writing := none }
  | j :: l => { v with writing := some j, waiting := l }

/-- The key under which a failed write of a region is recorded (R146). -/
def nvKey (g : Region) : FaultKey := ⟨.region g, .nvWriteFailed⟩

/-- A write completes and is read back (R146, R116). -/
def State.nvComplete (agrees : Bool) (s : State) : State :=
  match s.pst.nv.writing with
  | none => s
  | some j =>
    if agrees then s.mapNv fun v => (v.keep j).next
    else
      let s1 := (s.mapNv fun v => (v.spoil s.freeCount j).next).setFreeCount (s.freeCount + 1)
      (s1.recordFault (nvKey j.region)).post .nvWriteFailed

/-! ### Loading (R148, R118) -/

/-- The stored profile, where a load accepts it: its CRC-16 matches, every field lies in its range and
every cross-field check passes (R148). -/
def Nv.storedProfile (v : Nv) : Option Profile :=
  v.profileRegion.bind fun x => if x.passes && x.profile.accepted then some x.profile else none

/-- The profile a load makes active: the stored one if it is accepted, and the default otherwise (R148). -/
def Nv.loadProfile (v : Nv) : Profile := v.storedProfile.getD Profile.default

/-- Whether a load finds no acceptable profile, so that PROFILE_LOST is recorded (R148). -/
def Nv.profileLost (v : Nv) : Bool := v.storedProfile.isNone

/-- A checkpoint from which the totals may be restored: it passes its check, and its rate and residues lie
in their ranges (R118). -/
def Checkpoint.usable (c : Checkpoint) : Bool :=
  c.passes && 100 ≤ c.rate && c.rate ≤ 2000 && c.volumeResidue < volumeDivisor c.rate
    && c.solidsResidue < solidsDivisor c.rate

/-- The totals after a POR under a loaded frame rate: restored and rescaled, or 0 (R118). -/
def Nv.restoreTotals (fs : Nat) (v : Nv) : Tot :=
  match v.totalsRegion with
  | some c =>
    if c.usable then
      Tot.rescale fs ⟨c.volume.toNat, c.volumeResidue, c.solids.toNat, c.solidsResidue, c.rate, 0, false⟩
    else ⟨0, 0, 0, 0, fs, 0, false⟩
  | none => ⟨0, 0, 0, 0, fs, 0, false⟩

/-- Whether a POR finds no usable checkpoint, so that TOTALS_LOST is recorded (R118). -/
def Nv.totalsLost (v : Nv) : Bool :=
  match v.totalsRegion with
  | some c => !c.usable
  | none => true

end Sys2Proof.Machine
end

