-- ==== Sys2Proof/Machine/Boundary.lean ====
section
/-!
DEFINITION. What several blocks do at one event: the publication of a flow record (R73), a correlation
completion (R44, R31), and the window boundary (R8) with the orders that the spec leaves open.
-/

namespace Sys2Proof.Machine

/-! ### Publication and completion -/

/-- A flow record is computed and published: RECORD_PUBLISHED, VELOCITY_LOST (R80), the guard's step, the
totals and the pulse credit follow (R73). -/
def State.publish (w : Index) (rs : PerSlot (Option PairResult)) (s : State) : State :=
  let s1 := State.post .recordPublished (s.solve w rs)
  let lost := s1.fsv.record.status == .lost && s.fsv.record.status != .lost
  let s2 := if lost then s1.post .velocityLost else s1
  s2.guardStep.integrateRecord

/-- A correlation completion with its result set; the capture unit copies before the publication, so a
completion whose publication triggers it is not copied (R44, R173). -/
def State.complete (c : Option InFlight) (w : Index) (rs : PerSlot (Option PairResult)) (s : State) :
    State :=
  ((s.publishResults w rs).captureCompletion c).publish w rs

/-- The correlation in flight completes (R44). -/
def State.completeCorrelation (s : State) : State :=
  match s.xcr.state.inFlight with
  | none => s
  | some f => s.complete (some f) f.window (s.sfe.resultSet f)

/-- A completion without pairs, given at the boundary itself (R31). -/
def State.completeWithoutPairs (s : State) : State :=
  s.complete none s.xcr.windowNumber (PerSlot.fill none)

/-! ### The recordings of a boundary (R159 to R161) -/

/-- A recording that reaches the fault map at a boundary: a condition report with whether it holds, or an
occurrence (`none`). -/
abbrev Note := FaultKey × Option Bool

/-- Take one recording. -/
def State.takeNote (s : State) (x : Note) : State :=
  match x.2 with
  | some holds => s.reportFault x.1 holds
  | none => s.recordFault x.1

/-- Whether a recording needs a new entry in the map. -/
def State.needsEntry (s : State) (x : Note) : Bool :=
  !s.efu.holdsKey x.1 && x.2 != some false

/-- Insert a recording by the free ranks of its boundary. -/
def insertNote (n : Nat) (x : Note) : List Note → List Note
  | [] => [x]
  | y :: l => if Config.reportRank n x.1 ≤ Config.reportRank n y.1 then x :: y :: l
    else y :: insertNote n x l

/-- Recordings in the order of the free ranks of their boundary; one alone has no order. -/
def orderNotes (n : Nat) : List Note → List Note
  | [] => []
  | [x] => [x]
  | x :: y :: l => (x :: y :: l).foldr (insertNote n) []

/-- The recordings of a boundary reach the map one after another, in no fixed order (R160): those on keys
present, whose order does not matter, and then those that need an entry, in the order of their free
ranks (assumption 9). -/
def State.takeNotes (n : Nat) (l : List Note) (s : State) : State :=
  let s' := (l.filter fun x => !s.needsEntry x).foldl State.takeNote s
  (orderNotes n (l.filter s.needsEntry)).foldl State.takeNote s'

/-- The solver's report of CARRIER_DRIFT from the drift mark as it stands (R84). -/
def State.driftNote (s : State) : Note := (⟨.carrier, .carrierDrift⟩, some s.fsv.drift)

/-- The front end's reports on the closing window (R11, R19), and CORRELATION_LATE where the boundary skips
past or abandons a correlation (R33, R34). `closing` is the front end before the boundary. -/
def boundaryNotes (p : Profile) (closing settled : Sfe) (late : Bool) : List Note :=
  (Ring.all.flatMap (ringReports p closing)).map (fun x => (x.1, some x.2))
    ++ [(⟨.clock, .clockFallback⟩, some (settled.clock == .fallback))]
    ++ (if late then [(lateKey, none)] else [])

/-! ### The window boundary (R8) -/

/-- Whether the pending commit is a geometry commit (R143). -/
def Pst.geometryPending (x : Pst) : Bool := x.commitPending && isGeometry x.active x.staging

/-- The front end's and the window number's part of a boundary: the window is counted (R8, R22), graded
(R11, R12, R15), the clock source settled (R19). -/
def State.closeWindow (s : State) : State :=
  let s1 := (s.count fun c => { c with windowsClosed := satAdd c.windowsClosed 1 }).setXcr
    { s.xcr with windowNumber := s.xcr.windowNumber + 1 }
  State.postHealth s.sfe.rings
    (s1.setSfe (s.sfe.closeWindow s.active s.pst.geometryPending).settleClock)

/-- The totalizer applies a pending clear (R120). -/
def State.applyClearIfPending (s : State) : State := if s.tot.clearPending then s.applyClear else s

/-- The commit and, where the free choice puts it first, the totals clear (R142, R120). -/
def State.applyPending (n : Nat) (s : State) : State :=
  if s.pst.commitPending then
    (if s.tot.clearPending && Config.takenFirst .clearBeforeCommit n then s.applyClear
      else s).applyCommit
  else s

/-- The tracker's boundary work, with what a geometry commit from `old` adds to it (R63, R69). -/
def State.trackerWork (old : Profile) (geometry : Bool) (s : State) : State :=
  let changed := old.thetaMin != s.active.thetaMin || old.thetaMax != s.active.thetaMax
  let s' := s.trackerBoundary changed
  if geometry then s'.trackerGeometry old else s'

/-- The end of a boundary that gives no completion: tracker, clear, recordings. -/
def State.finishBoundary (n : Nat) (old : Profile) (geometry : Bool) (notes : List Note) (s : State) :
    State :=
  let s' := (s.trackerWork old geometry).applyClearIfPending
  s'.takeNotes n (s'.driftNote :: notes)

/-- The end of a boundary that gives a completion without pairs (R31): the tracker's work, the clear and
each condition report come before or after its publication, as the free choices say (R59, R65, R120,
R160, assumption 9). CORRELATION_LATE is recorded with the discard, before the completion (R29, R34). -/
def State.finishWithCompletion (n : Nat) (old : Profile) (notes : List Note) (s : State) : State :=
  let early := fun x : Note => x.2.isNone || Config.reportBeforePublication n x.1
  let trackFirst := Config.takenFirst .trackerBeforePublication n
  let s1 := if trackFirst then s.trackerWork old false else s
  let s2 := if Config.takenFirst .clearBeforePublication n then s1.applyClearIfPending else s1
  let s3 := s2.takeNotes n ((s2.driftNote :: notes).filter early)
  let s4 := s3.completeWithoutPairs
  let s5 := if trackFirst then s4 else s4.trackerWork old false
  let s6 := s5.applyClearIfPending
  s6.takeNotes n ((s6.driftNote :: notes).filter fun x => !early x)

/-- The window boundary (R8): the front end and the window number, the commit that is waiting (R142), the
pair table and the correlation (R27, R29), and then the tracker, the totals clear, the recordings, and a
completion without pairs where one is due. -/
def State.boundary (s : State) : State :=
  let n := s.freeCount
  let old := s.active
  let geometry := s.pst.geometryPending
  let s1 := (s.setFreeCount (n + 1)).closeWindow
  let notes := boundaryNotes old s.sfe s1.sfe (s.xcr.state != .idle && !geometry)
  let s2 := ((s1.applyPending n).rebuildTable).correlatorBoundary
  if s2.completesWithoutPairs then s2.finishWithCompletion n old notes
  else s2.finishBoundary n old geometry notes

/-! ### The end of a frame -/

/-- A frame whose replies are all handled is stored, its samples reach the detectors, and a full window
closes (R5, R8, R48). -/
def State.closeFrame (fr : Frame) (s : State) : State :=
  let s' := (s.storeFrame fr).trackFrame
  if s'.sfe.windowPos = s'.active.n then s'.boundary else s'

/-- The reply of a ring to the open frame; the frame closes with the last configured ring's reply. A reply
outside an open frame, from a ring that is not configured, or beyond a ring's first reply is ignored (R1,
assumption 5). -/
def State.takeReply (r : Ring) (x : Reply) (s : State) : State :=
  match s.sfe.frame with
  | none => s
  | some fr =>
    if isConfigured s.active r && (fr.replies.get r).isNone then
      let fr' : Frame := { fr with replies := fr.replies.set r (some x) }
      if fr'.complete s.active then s.closeFrame fr'
      else s.setSfe { s.sfe with frame := some fr' }
    else s

/-- The reply deadline of the open frame: every ring without a reply is given a substituted sample (R1,
R3). -/
def State.takeDeadline (s : State) : State :=
  match s.sfe.frame with
  | none => s
  | some fr => s.closeFrame fr

/-- The frame clock strobes a frame; none is strobed while one is open (R2). -/
def State.strobeFrame (s : State) : State :=
  match s.sfe.frame with
  | none => s.setSfe (s.sfe.openFrame s.active)
  | some _ => s

end Sys2Proof.Machine
end

