-- ==== Sys2Proof/Machine/Resets.lean ====
section
/-!
DEFINITION. The resets and the loss of power (spec 0.7; R17, R47, R72, R97, R111, R127, R128, R149, R168,
R178, R194 and R16, R35, R147, R191).
-/

namespace Sys2Proof.Machine

/-- The store after a load: staging a copy of the active profile, no claim, no commit (R148, R149). -/
def Pst.start (v : Nv) : Pst := ⟨v.loadProfile, v.loadProfile, none, false, v⟩

/-- What a POR and an NRST have in common: the blocks take their values under the loaded profile, and
PROFILE_LOST is recorded where no stored profile is accepted (R148, R167). -/
def State.startBlocks (straps : PerPort StrapPair) (s : State) : State :=
  let v := s.pst.nv.cut
  let p := v.loadProfile
  let s' : State :=
    { s with
      power := .running
      timebase := 0
      sfe := Sfe.reset
      xcr := Xcr.reset
      stk := Stk.start p.thetaInit 255
      fsv := Fsv.start p
      dgd := Dgd.reset
      pls := Pls.start p.pulseWidth
      pst := Pst.start v
      efu := Efu.reset
      cap := Cap.idle
      mpt := straps.map fun _ x => PortState.start (Speed.ofStraps x) }
  if v.profileLost then s'.recordFault ⟨.region .profile, .profileLost⟩ else s'

/-- Power is applied: the blocks start, and the totals are restored or lost (R17, R118, R147). -/
def State.powerOn (straps : PerPort StrapPair) (s : State) : State :=
  let s' := s.startBlocks straps
  let s'' := s'.setTot (s'.pst.nv.restoreTotals s'.active.fs)
  if s'.pst.nv.totalsLost then s''.recordFault ⟨.totalizer, .totalsLost⟩ else s''

/-- Every port leaves its line undriven and receives no byte (R194). -/
def PortState.silence (x : PortState) : PortState := { x.endFrame with tx := .free, response := [] }

/-- The lines of an unpowered or held part: strobes low, TRIP, PULSE and every ATN line released, ports
silent, and a write in progress cut short (R1, R98, R122, R155, R147, R194, R195). -/
def State.releaseLines (s : State) : State :=
  { s with
    sfe := { s.sfe with frame := none, strobe := PerRing.fill false }
    dgd := { s.dgd with trip := false }
    pls := { s.pls with pulse := false }
    pst := { s.pst with nv := s.pst.nv.cut }
    efu := { s.efu with ports := s.efu.ports.map fun _ a => { a with atn := false } }
    mpt := s.mpt.map fun _ x => x.silence }

/-- NRST is asserted: the guard is CLEAR at once, the fault map empty, the lines released (R98, R111,
R167). -/
def State.holdReset (s : State) : State :=
  let s' := s.releaseLines
  { s' with
    power := .held
    dgd := Dgd.reset
    efu := { s'.efu with faults := [], full := false } }

/-- NRST is released: the blocks start, and a checkpoint of the kept totals is queued under the loaded
rate (R117, R127, R148). -/
def State.endReset (straps : PerPort StrapPair) (s : State) : State :=
  let s' := s.startBlocks straps
  (s'.setTot { s'.tot.rescale s'.active.fs with clearPending := false }).queueCheckpoint

/-- Power is lost (R118, R116, R195). -/
def State.losePower (s : State) : State := s.releaseLines.setPower .off

/-- The measurement computation is restarted in every block (R191; R16, R35, R72, R97, R177). -/
def State.restartBlocks (s : State) : State :=
  { s with
    sfe := s.sfe.restart
    xcr := Xcr.reset
    stk := Stk.start s.active.thetaInit s.stk.tagCounter
    fsv := s.fsv.restart s.active s.sfe.degraded s.dgd.state
    cap := s.cap.restart }

end Sys2Proof.Machine
end

