-- ==== Sys2Proof/Machine/Requests.lean ====
section
/-!
DEFINITION. What each request of R189 is answered and what it changes: one `answer…` for each command,
taken at the moment of the request, with the payloads of R187, R192 and R193.
-/

namespace Sys2Proof.Machine

/-! ### Records on the wire -/

/-- A flow record in its 30 bytes (R192). -/
def FlowRecord.bytes (r : FlowRecord) : List Byte :=
  u32 r.window.toNat ++ u8 r.span ++ u8 r.status.code ++ u16 r.v ++ u16 (r.vc.getD 0)
    ++ u16 (r.vs.getD 0) ++ u16 r.phi ++ u8 r.phiSource.code ++ u8 r.line.code ++ u8 r.guard.code
    ++ u8 r.flags ++ u32 r.q ++ u32 r.s ++ u16 r.vDep ++ i16 (r.margin.getD 0)

/-- The solver's working state in the 25 bytes that follow the record (R95, R192). -/
def Fsv.workingBytes (f : Fsv) : List Byte :=
  u8 f.hold ++ optItem 2 u16 f.lastV ++ u8 f.armCount ++ u16 f.sigma ++ u8 f.sigmaSource.code
    ++ flag f.flush ++ u16 f.acc.count ++ u16 f.acc.lo ++ u16 f.acc.hi ++ u48 f.acc.sum ++ u32 f.area

/-- A pair entry with the fields of R24 (R46). -/
def PairEntry.bytes (e : PairEntry) : List Byte :=
  u8 e.slot.num ++ u8 e.up.num ++ u8 e.down.num ++ flag e.bridged ++ u16 e.spacing ++ u16 e.lmin
    ++ u16 e.lmax ++ flag e.rangeCut

/-- A pair result record with the fields of R44 (R46). -/
def PairResult.bytes (r : PairResult) : List Byte :=
  u32 r.window.toNat ++ u8 r.slot.num ++ u8 r.up.num ++ u8 r.down.num ++ u16 r.spacing ++ u16 r.lmin
    ++ u16 r.lmax ++ flag r.rangeCut ++ u16 r.kp ++ i16 r.delta ++ u32 r.tau
    ++ optItem 6 u48 (r.energies.map (·.1)) ++ optItem 6 u48 (r.energies.map (·.2)) ++ u16 r.q
    ++ flag r.reason?.isNone ++ optItem 1 u8 (r.reason?.map Reason.code) ++ optItem 2 u16 r.vp?

/-- One of the three arrival slots of a slug record, zero beyond the arrivals (R193). -/
def arrivalBytes (l : List Arrival) (i : Nat) : List Byte :=
  match l[i]? with
  | some a => u8 a.ring.num ++ u32 a.onset.toNat
  | none => List.replicate 5 0

/-- A slug record in its 40 bytes (R193). -/
def SlugRecord.bytes (x : SlugRecord) : List Byte :=
  u8 x.tag.toNat ++ u8 x.origin.num ++ u8 x.next.num ++ u8 x.basis.code ++ u32 x.onset.toNat
    ++ u32 x.reference.toNat ++ u32 x.eMin.toNat ++ u32 x.eMax.toNat ++ u16 x.peak ++ u16 x.width
    ++ u8 x.arrivals.length ++ arrivalBytes x.arrivals 0 ++ arrivalBytes x.arrivals 1
    ++ arrivalBytes x.arrivals 2

/-- A departed entry with the fields of R66 (R71). -/
def Departed.bytes (e : Departed) : List Byte :=
  u8 e.tag.toNat ++ u16 e.peak ++ u16 e.width ++ u32 e.departure.toNat ++ u16 e.vs
    ++ u32 e.predicted.toNat

/-- A fault map entry with the fields of R158 (R163). -/
def FaultEntry.bytes (e : FaultEntry) : List Byte :=
  u8 e.key.source.code ++ u8 e.key.kind.code ++ u32 e.first.toNat ++ u32 e.last.toNat
    ++ u16 e.occurrences ++ flag e.active

/-- The counters in the order of their numbers (R164, R166). -/
def Stats.toList (c : Stats) : List Nat :=
  [c.windowsClosed, c.completed, c.skipped, c.discardedLate, c.unformable, c.recCorrelated, c.recSlug,
   c.recHeld, c.recLost] ++ c.valid.toList
    ++ [c.slugsCreated, c.slugsCompleted, c.stale, c.evicted, c.unmatched, c.runts, c.long,
      c.departedDropped, c.occupancy, c.transitSum, c.transitCount]
    ++ c.substituted.toList ++ c.saturated.toList ++ c.checkErrors.toList ++ c.overruns.toList

/-- The 37 counters on the wire (R166). -/
def Stats.bytes (c : Stats) : List Byte := c.toList.flatMap u32

/-- One ring's items in READ_HEALTH (R21). -/
def RingSense.bytes (configured : Bool) (x : RingSense) : List Byte :=
  flag configured ++ u8 x.health.code ++ u8 x.badRun ++ u8 x.goodRun ++ u16 x.lastGood
    ++ u16 x.reportedMean ++ u16 x.closed.missing ++ u16 x.closed.saturated ++ u48 x.closed.energy

/-! ### Reading requests -/

/-- A request that only reads is answered OK with a payload. -/
def State.report (payload : State → List Byte) (s : State) : Answer := ⟨.ok, payload s, s⟩

/-- The payload of IDENTIFY on a port (R190). -/
def identifyPayload (p : Port) (s : State) : List Byte :=
  u16 0x0E21 ++ u16 0x0420 ++ u8 1 ++ u8 4 ++ u16 2048 ++ u16 512 ++ u8 16 ++ u8 8 ++ u8 12 ++ u8 16
    ++ u8 p.num ++ u32 (s.mpt.get p).speed.baud

/-- The payload of READ_FLOW (R95). -/
def flowPayload (s : State) : List Byte := s.fsv.record.bytes ++ s.fsv.workingBytes

/-- The payload of READ_PAIRS (R46). -/
def pairsPayload (s : State) : List Byte :=
  u8 s.xcr.state.code ++ optItem 4 (fun w : Index => u32 w.toNat) (s.xcr.state.inFlight.map (·.window))
    ++ u32 s.xcr.windowNumber.toNat ++ s.xcr.table.toList.flatMap (optItem 11 PairEntry.bytes)
    ++ u32 s.xcr.resultWindow.toNat ++ s.xcr.results.toList.flatMap (optItem 44 PairResult.bytes)

/-- READ_SLUGS is answered with up to 8 records from a start index (R70). -/
def State.answerSlugs (start : Byte) (s : State) : Answer :=
  if 15 < start.toNat then ⟨.range, [], s⟩
  else ⟨.ok, u8 s.stk.table.length ++ u8 s.stk.tagCounter.toNat ++ [start]
      ++ ((s.stk.table.drop start.toNat).take 8).flatMap SlugRecord.bytes, s⟩

/-- The payload of READ_DEPARTED (R71). -/
def departedPayload (s : State) : List Byte :=
  u8 s.stk.departed.length ++ u32 s.sfe.lastIndex.toNat ++ s.stk.departed.flatMap Departed.bytes

/-- The payload of READ_HEALTH (R21). -/
def healthPayload (s : State) : List Byte :=
  u8 s.active.ringCount ++ u8 s.sfe.clock.code ++ u16 s.sfe.stable ++ u16 s.sfe.fill
    ++ flag s.sfe.ready ++ u32 s.sfe.lastIndex.toNat
    ++ Ring.all.flatMap fun r => (s.sfe.rings.get r).bytes (isConfigured s.active r)

/-- The payload of READ_TOTALS (R126). -/
def totalsPayload (s : State) : List Byte :=
  u48 s.tot.volume ++ u48 s.tot.solids ++ u32 s.tot.volumeResidue ++ u64 s.tot.solidsResidue
    ++ u16 s.tot.rate ++ flag s.tot.clearPending ++ u8 s.tot.checkpoint ++ u8 s.active.pulseBasis.code
    ++ u32 s.active.pulseWeight ++ u16 s.active.pulseWidth ++ u32 s.pls.credit ++ u64 s.pls.emitted
    ++ u64 s.pls.lost ++ u8 s.pls.gen.code ++ u16 s.pls.width

/-- The payload of READ_STATS (R166). -/
def statsPayload (s : State) : List Byte := s.efu.stats.bytes

/-- The payload of READ_FAULTS (R163). -/
def faultsPayload (s : State) : List Byte :=
  flag s.efu.full ++ u8 s.efu.faults.length ++ u32 s.xcr.windowNumber.toNat
    ++ s.efu.faults.flatMap FaultEntry.bytes

/-! ### Events (R154, R156) -/

/-- Change one port's attention items and drive its ATN line (R155). -/
def State.setAttention (p : Port) (a : Attention) (s : State) : State :=
  s.setEfu { s.efu with ports := s.efu.ports.set p a.drive }

/-- TAKE_EVENTS reads the pending set and then removes the kinds named (R156). -/
def State.answerTake (p : Port) (remove : EventSet) (s : State) : Answer :=
  let a := s.efu.ports.get p
  let left := a.posted &&& ~~~remove
  ⟨.ok, u16 a.posted.toNat ++ u16 left.toNat, s.setAttention p { a with posted := left }⟩

/-- The items a SET_ATTENTION response carries (R154). The threshold has the two bytes that R187 gives to
thresholds, though a request carries it in one (R189); assumption 15. -/
def Attention.bytes (a : Attention) : List Byte :=
  u16 a.enable.toNat ++ u16 a.threshold ++ u16 a.posted.toNat ++ flag a.atn

/-- SET_ATTENTION replaces the port's enable set and threshold (R154). -/
def State.answerAttention (p : Port) (enable : EventSet) (threshold : Byte) (s : State) : Answer :=
  let a := s.efu.ports.get p
  if 7 < threshold.toNat then ⟨.range, a.bytes, s⟩
  else
    let s' := s.setAttention p { a with enable := enable, threshold := threshold.toNat }
    ⟨.ok, (s'.efu.ports.get p).bytes, s'⟩

/-! ### The edit claim (R134 to R139) -/

/-- OPEN_EDIT takes or refreshes the claim (R134). -/
def State.answerOpen (p : Port) (s : State) : Answer :=
  match s.pst.claim with
  | none =>
    ⟨.ok, u32 Config.claimMs ++ flag s.pst.commitPending,
      (s.setPst { s.pst with staging := s.pst.active }).refreshClaim p⟩
  | some c =>
    if c.holder = p then
      ⟨.ok, u32 Config.claimMs ++ flag s.pst.commitPending, s.refreshClaim p⟩
    else ⟨.held, u8 c.holder.num ++ u32 (s.timeLeft c) ++ flag s.pst.commitPending, s.afterTimeLeft⟩

/-- The value a WRITE_FIELD response carries: what the staging profile holds for the field; for a number
that names no field a free value (R135, assumption 13). -/
def State.stagingWord (s : State) (field : Byte) : BitVec 32 :=
  if isField field.toNat then s.pst.staging.word field.toNat
  else Config.valueOfNoField s.freeCount

/-- A WRITE_FIELD response (R135); the counter of free values moves on where one was carried. -/
def State.fieldAnswer (st : Status) (field : Byte) (s : State) : Answer :=
  ⟨st, [field] ++ u32 (s.stagingWord field).toNat,
    if isField field.toNat then s else s.setFreeCount (s.freeCount + 1)⟩

/-- WRITE_FIELD writes one field of the staging profile (R135). -/
def State.answerWrite (p : Port) (field : Byte) (value : BitVec 32) (s : State) : Answer :=
  if s.pst.holds p = false then s.fieldAnswer .notHolder field
  else if s.pst.commitPending then s.fieldAnswer .busy field
  else match s.pst.staging.write field.toNat value with
    | none => s.fieldAnswer .range field
    | some x => ((s.setPst { s.pst with staging := x }).refreshClaim p).fieldAnswer .ok field

/-- The payload of an accepted READ_FIELD (R136). -/
def State.fieldPayload (x : Profile) (field : Byte) (s : State) : List Byte :=
  u32 (x.word field.toNat).toNat ++ u8 (portCode (s.pst.claim.map (·.holder)))
    ++ optItem 4 (fun c => u32 (s.timeLeft c)) s.pst.claim ++ flag s.pst.commitPending
    ++ u8 (nvCode s.pst.nv.writing) ++ u8 (waitingCode s.pst.nv.waiting)

/-- READ_FIELD returns one field of the active or the staging profile (R136). -/
def State.answerRead (field slot : Byte) (s : State) : Answer :=
  if isField field.toNat = false then ⟨.range, [], s⟩
  else if slot = 0 then ⟨.ok, s.fieldPayload s.pst.active field, s.afterTimeLeft⟩
  else if slot = 1 then ⟨.ok, s.fieldPayload s.pst.staging field, s.afterTimeLeft⟩
  else ⟨.range, [], s⟩

/-- Whether a write of the profile region is in progress or waiting (R139). -/
def Nv.profileBusy (v : Nv) : Bool :=
  (v.writing.map NvJob.region == some .profile) || v.waiting.any fun j => j.region == .profile

/-- COMMIT_EDIT sets a commit pending when the staging profile passes every check (R139). -/
def State.answerCommit (p : Port) (s : State) : Answer :=
  if s.pst.holds p = false then ⟨.notHolder, [], s⟩
  else if s.pst.commitPending then ⟨.busy, [], s⟩
  else if s.pst.nv.profileBusy then ⟨.busy, [], s⟩
  else match s.pst.staging.firstFailure with
    | some (k, gap) => ⟨.invalid, u8 k ++ optItem 1 u8 gap, s⟩
    | none =>
      ⟨.ok, flag (isGeometry s.pst.active s.pst.staging),
        (s.setPst { s.pst with commitPending := true }).refreshClaim p⟩

/-- DROP_EDIT releases the claim and discards the edits (R137). -/
def State.answerDrop (p : Port) (s : State) : Answer :=
  if s.pst.holds p = false then ⟨.notHolder, [], s⟩
  else if s.pst.commitPending then ⟨.state, [], s⟩
  else ⟨.ok, [], s.setPst s.pst.endClaim⟩

/-- CLEAR_TOTALS sets a clear pending (R119). -/
def State.answerClearTotals (p : Port) (s : State) : Answer :=
  let totals := u48 s.tot.volume ++ u48 s.tot.solids
  if s.pst.holds p = false then ⟨.notHolder, totals, s⟩
  else ⟨.ok, totals, s.setTot { s.tot with clearPending := true }⟩

/-! ### Guard and flush (R106, R86, R88) -/

/-- GUARD_RELEASE releases the guard where R106 allows it. -/
def State.answerRelease (s : State) : Answer :=
  let st := releaseStatus s.dgd.state s.fsv.line
  let s' := if st = .ok then s.releaseGuard else s
  ⟨st, u8 s'.dgd.state.code ++ u8 s.fsv.line.code, s'⟩

/-- FLUSH_BEGIN declares a flush (R86). -/
def State.answerFlushBegin (s : State) : Answer :=
  if s.fsv.flush then ⟨.state, [], s⟩
  else ⟨.ok, [], s.setFsv (s.fsv.beginFlush s.active)⟩

/-- The key under which an unstable flush is recorded (R88). -/
def flushKey : FaultKey := ⟨.carrier, .flushUnstable⟩

/-- FLUSH_END ends a flush and judges the accumulator (R88). -/
def State.answerFlushEnd (s : State) : Answer :=
  if s.fsv.flush then
    let stable := s.fsv.acc.judge.isSome
    let f := s.fsv.endFlush
    let s1 := s.setFsv f
    let s2 := if stable then s1 else s1.recordFault flushKey
    ⟨.ok, u8 (if stable then 0 else 1) ++ u16 f.acc.count ++ u16 f.acc.lo ++ u16 f.acc.hi
      ++ u16 f.sigma, s2⟩
  else ⟨.state, [], s⟩

/-- RESTART restarts the measurement computation (R191). -/
def State.answerRestart (s : State) : Answer := ⟨.ok, [], s.restartBlocks⟩

/-! ### Capture (R170, R175, R176) -/

/-- A content with its ring or slot, two bytes as in the request (R170). -/
def Content.bytes (c : Content) : List Byte := u8 c.code ++ u8 c.which

/-- The items every ARM_CAPTURE response carries (R170). -/
def Cap.armBytes (c : Cap) : List Byte :=
  u8 (portCode c.owner) ++ u8 c.state.code ++ optItem 2 Content.bytes c.content
    ++ optItem 1 u8 (c.trigger.map Trigger.code)

/-- ARM_CAPTURE arms the unit, or triggers it at once for IMMEDIATE (R170). -/
def State.answerArm (p : Port) (content which trigger : Byte) (s : State) : Answer :=
  match s.cap.armRefusal p with
  | some st => ⟨st, s.cap.armBytes, s⟩
  | none =>
    match armRequest s.active content.toNat which.toNat trigger.toNat with
    | none => ⟨.range, s.cap.armBytes, s⟩
    | some (c, t) =>
      let s' := s.arm p c t
      ⟨.ok, s'.cap.armBytes, s'⟩

/-- The header items of a RAW capture, each with its presence byte (R174). -/
def rawHeaderBytes (h : Option RawHeader) : List Byte :=
  optItem 1 u8 (h.map (·.ring.num)) ++ optItem 4 u32 (h.map (·.newest.toNat))
    ++ optItem 2 u16 (h.map (·.stored))

/-- The header items of a correlogram, each with its presence byte (R174). -/
def corrHeaderBytes (h : Option CorrHeader) : List Byte :=
  optItem 4 u32 (h.map (·.window.toNat)) ++ optItem 1 u8 (h.map (·.slot.num))
    ++ optItem 1 u8 (h.map (·.up.num)) ++ optItem 1 u8 (h.map (·.down.num))
    ++ optItem 2 u16 (h.map (·.spacing)) ++ optItem 2 u16 (h.map (·.lmin))
    ++ optItem 2 u16 (h.map (·.lmax)) ++ optItem 1 flag (h.map (·.rangeCut))
    ++ optItem 2 u16 (h.map (·.kp)) ++ optItem 1 u8 (h.bind fun x => x.reason.map Reason.code)
    ++ optItem 1 u8 (h.map (·.shift))

/-- The capture header in the order of its table (R174). -/
def Cap.headerBytes (c : Cap) : List Byte :=
  u8 ((c.content.map Content.code).getD 0) ++ u8 ((c.trigger.map Trigger.code).getD 0)
    ++ u32 ((c.header.map (·.window.toNat)).getD 0) ++ u32 ((c.header.map (·.index.toNat)).getD 0)
    ++ flag c.empty ++ u16 c.count ++ rawHeaderBytes (c.header.bind (·.raw))
    ++ corrHeaderBytes (c.header.bind (·.corr))

/-- A buffer value at the width of its content (R187). -/
def valueBytes : Option Content → Int → List Byte
  | some (.raw _), x => i16 x
  | _, x => i32 x

/-- The buffer values from an offset, up to 60 of them, ending at the value count (R175). -/
def Cap.chunk (c : Cap) (offset : Nat) : List Int := ((c.buffer.take c.count).drop offset).take 60

/-- READ_CAPTURE reads the header and a chunk of a FULL capture (R175). Refused with STATE, it carries the
content and the trigger without presence bytes, since the unit has both in ARMED and FILLING
(assumption 15). -/
def State.answerReadCapture (p : Port) (offset : BitVec 16) (s : State) : Answer :=
  let c := s.cap
  if c.owner ≠ some p then ⟨.notHolder, u8 (portCode c.owner) ++ u8 c.state.code, s⟩
  else if c.state = .armed ∨ c.state = .filling then
    ⟨.state, u8 c.state.code ++ ((c.content.map Content.bytes).getD [])
      ++ ((c.trigger.map fun t => u8 t.code).getD []), s⟩
  else if 1023 < offset.toNat then ⟨.range, u8 c.state.code, s⟩
  else
    ⟨.ok, c.headerBytes ++ u16 offset.toNat ++ u8 (c.chunk offset.toNat).length
      ++ (c.chunk offset.toNat).flatMap (valueBytes c.content), s⟩

/-- RELEASE_CAPTURE returns the unit to IDLE (R176). -/
def State.answerReleaseCapture (p : Port) (s : State) : Answer :=
  match s.cap.owner with
  | none => ⟨.state, [], s⟩
  | some o => if o = p then ⟨.ok, [], s.setCap Cap.idle⟩ else ⟨.notHolder, u8 o.num, s⟩

/-! ### Faults and statistics (R162, R166) -/

/-- CLEAR_FAULTS removes the inactive entries and clears FULL (R162). -/
def State.answerClearFaults (s : State) : Answer :=
  let kept := s.efu.faults.filter (·.active)
  ⟨.ok, u8 (s.efu.faults.length - kept.length) ++ u8 kept.length,
    s.setEfu { s.efu with faults := kept, full := false }⟩

/-- CLEAR_STATS reads and zeroes the counters in one action (R166). -/
def State.answerClearStats (s : State) : Answer :=
  ⟨.ok, s.efu.stats.bytes, s.count fun _ => Stats.zero⟩

end Sys2Proof.Machine
end

