-- ==== Sys2Proof/Machine/Ports.lean ====
section
/-!
DEFINITION. The master ports (chapter 10): the receiver and its frame check, the handling of a taken
request by its code and length, the response, and the port's timers.
-/

namespace Sys2Proof.Machine

/-! ### Handling a request (R183, R189) -/

/-- The request length of a command: the payload bytes it must carry (R189). -/
def requestLength : Nat → Option Nat
  | 0x01 | 0x10 | 0x11 | 0x13 | 0x14 | 0x15 | 0x16 | 0x17 => some 0
  | 0x12 => some 1
  | 0x20 => some 2
  | 0x21 => some 3
  | 0x30 | 0x33 | 0x34 | 0x35 | 0x40 | 0x41 | 0x42 | 0x43 => some 0
  | 0x31 => some 5
  | 0x32 => some 2
  | 0x50 => some 3
  | 0x51 => some 2
  | 0x52 | 0x60 | 0x61 => some 0
  | _ => none

/-- The 16-bit item of two payload bytes, most significant first (R187). -/
def word16 (x y : Byte) : BitVec 16 := x ++ y

/-- The 32-bit item of four payload bytes, most significant first (R187). -/
def word32 (x y z w : Byte) : BitVec 32 := x ++ y ++ z ++ w

/-- The owning rule of a command answers a request of the right length (R189). -/
def State.dispatch (p : Port) (code : Nat) (payload : List Byte) (s : State) : Answer :=
  match code, payload with
  | 0x01, _ => s.report (identifyPayload p)
  | 0x10, _ => s.report flowPayload
  | 0x11, _ => s.report pairsPayload
  | 0x12, [x] => s.answerSlugs x
  | 0x13, _ => s.report departedPayload
  | 0x14, _ => s.report healthPayload
  | 0x15, _ => s.report totalsPayload
  | 0x16, _ => s.report statsPayload
  | 0x17, _ => s.report faultsPayload
  | 0x20, [x, y] => s.answerTake p (word16 x y)
  | 0x21, [x, y, z] => s.answerAttention p (word16 x y) z
  | 0x30, _ => s.answerOpen p
  | 0x31, [f, x, y, z, w] => s.answerWrite p f (word32 x y z w)
  | 0x32, [f, x] => s.answerRead f x
  | 0x33, _ => s.answerCommit p
  | 0x34, _ => s.answerDrop p
  | 0x35, _ => s.answerClearTotals p
  | 0x40, _ => s.answerRelease
  | 0x41, _ => s.answerFlushBegin
  | 0x42, _ => s.answerFlushEnd
  | 0x43, _ => s.answerRestart
  | 0x50, [x, y, z] => s.answerArm p x y z
  | 0x51, [x, y] => s.answerReadCapture p (word16 x y)
  | 0x52, _ => s.answerReleaseCapture p
  | 0x60, _ => s.answerClearFaults
  | 0x61, _ => s.answerClearStats
  | _, _ => ⟨.length, [], s⟩

/-- A taken request is handled by the first row of R183 whose condition holds. -/
def State.handle (p : Port) (code : Byte) (payload : List Byte) (s : State) : Answer :=
  match requestLength code.toNat with
  | none => ⟨.unknown, [], s⟩
  | some k => if payload.length = k then s.dispatch p code.toNat payload else ⟨.length, [], s⟩

/-- A request whose command byte names no command is answered UNKNOWN (R183). -/
def State.answerUnknown (s : State) : Answer := ⟨.unknown, [], s⟩

/-! ### The receiver (R180 to R182, R185) -/

/-- A frame is abandoned or fails its check: counted, and the receiver is WAIT_IDLE (R181, R182). -/
def State.dropFrame (p : Port) (s : State) : State :=
  (s.countCheckError p).setPort p (s.mpt.get p).endFrame

/-- Whether the two bytes after the payload carry the CRC of the length, command and payload bytes
(R182). `buf` is the whole frame from its SOF. -/
def crcAgrees (buf : List Byte) : Bool :=
  let body := (buf.drop 1).dropLast.dropLast
  buf.drop (1 + body.length) == u16 (crc16 body).toNat

/-- A whole frame, its last byte stored: an overrun while the port is busy, dropped where the check fails,
and taken otherwise (R182, R183, R185). -/
def State.frameEnds (p : Port) (buf : List Byte) (s : State) : State :=
  if (s.mpt.get p).tx ≠ .free then s.overrunFrame p
  else if crcAgrees buf then
    match buf with
    | _ :: _ :: code :: rest => s.answer p code (State.handle p code rest.dropLast.dropLast)
    | _ => s.dropFrame p
  else s.dropFrame p

/-- The length byte of a frame in reception is outside 1 to 251 (R181). -/
def badLength (buf : List Byte) : Bool :=
  match buf with
  | [_, l] => l.toNat == 0 || 251 < l.toNat
  | _ => false

/-- The bytes in the buffer are a whole frame: L + 4 of them from the SOF (R181). -/
def frameWhole (buf : List Byte) : Bool :=
  match buf with
  | _ :: l :: _ => buf.length == l.toNat + 4
  | _ => false

/-- A byte is received on a port (R180, R181). -/
def State.receive (p : Port) (x : Byte) (framingError : Bool) (s : State) : State :=
  let c := s.mpt.get p
  if c.tx = .sending then s
  else match c.rx with
    | .waitIdle => s.setPort p { c with idle := 0 }
    | .ready =>
      if x = sof ∧ framingError = false then
        s.setPort p { c with rx := .receiving, idle := 0, buffer := [x] }
      else s.setPort p c.endFrame
    | .receiving =>
      let buf := c.buffer ++ [x]
      if framingError then s.dropFrame p
      else if badLength buf then s.dropFrame p
      else if frameWhole buf then s.frameEnds p buf
      else s.setPort p { c with idle := 0, buffer := buf }

/-- The line has been idle for 2 ms in WAIT_IDLE; the receiver is held there while the port is SENDING
(R180). -/
def PortState.idleGap (c : PortState) : PortState :=
  if c.rx = .waitIdle ∧ c.tx ≠ .sending then { c with rx := .ready, idle := Config.gapMs } else c

/-- 2 ms have passed after a byte while RECEIVING (R180, R181). -/
def State.byteTimeout (p : Port) (s : State) : State :=
  if (s.mpt.get p).rx = .receiving then s.dropFrame p else s

/-! ### The response (R184, R185) -/

/-- A prepared response begins; a frame in reception is abandoned and counted as an overrun (R184,
R185). -/
def State.startResponse (p : Port) (s : State) : State :=
  let c := s.mpt.get p
  if c.tx = .preparing then
    (if c.rx = .receiving then s.countOverrun p else s).setPort p { c.endFrame with tx := .sending }
  else s

/-- The last stop bit of a response has been sent (R184). -/
def PortState.endResponse (c : PortState) : PortState :=
  if c.tx = .sending then { c.endFrame with tx := .free, response := [] } else c

end Sys2Proof.Machine
end

