-- ==== Sys2Proof/Machine/Time.lean ====
section
/-!
DEFINITION. One tick of the 1 ms timebase (spec 0.7): what a step does on an empty queue (assumption 1).
It counts the stable time (R19), the claim expiry (R138), the pulse width (R122) and the idle time of the
ports (R180), and what is due at the tick happens.
-/

namespace Sys2Proof.Machine

/-- The claim expires at the tick that reaches its expiry (R138). -/
def State.tickClaim (s : State) : State :=
  match s.pst.claim with
  | some c => if c.expiry ≤ s.timebase then s.expireClaim else s
  | none => s

/-- The stable time counts on the fallback, up to 1,024 (R19). No item of the state says whether the crystal
runs: every tick without a failure finding counts, and a crystal that stays stopped is told by CRYSTAL_FAILURE
again (assumption 40). -/
def Sfe.tick (f : Sfe) : Sfe :=
  match f.clock with
  | .crystal => f
  | .fallback => { f with stable := min (f.stable + 1) Config.stableMs }

/-- The pulse or the gap in progress runs for one ms more (R122). -/
def Pls.tick (p : Profile) (x : Pls) : Pls :=
  if x.gen = .idle then x
  else
    let x' := { x with elapsed := x.elapsed + 1 }
    if x.width ≤ x.elapsed + 1 then (if x.gen = .high then x'.endPulse else x'.endGap p) else x'

/-- The idle time of a port counts one ms more (R180). -/
def State.tickPort (p : Port) (s : State) : State :=
  let c := s.mpt.get p
  if c.tx = .sending then s
  else match c.rx with
    | .ready => s
    | .waitIdle =>
      s.setPort p (if Config.gapMs ≤ c.idle + 1 then c.idleGap else { c with idle := c.idle + 1 })
    | .receiving =>
      if Config.gapMs ≤ c.idle + 1 then s.byteTimeout p
      else s.setPort p { c with idle := c.idle + 1 }

/-- One tick of the 1 ms timebase on a running part. -/
def State.tick : State → State :=
  State.whenRunning fun s =>
    let s1 := (s.setTimebase (s.timebase + 1)).tickClaim
    let s2 := (s1.setSfe s1.sfe.tick).setPls (s1.pls.tick s1.active)
    ((s2.tickPort .p1).tickPort .p2).tickPort .p3

end Sys2Proof.Machine
end

