-- ==== Sys2Proof/Machine/ResetCommands.lean ====
section
/-!
DEFINITION. The meanings of the reset and power commands: POWER_ON_RESET, NRST_ASSERTED, NRST_RELEASED and
POWER_LOSS.
-/

namespace Sys2Proof.Machine

/-- The outcome of a command. -/
abbrev Result := Host.Outcome State Fault Refusal

/-- POWER_ON_RESET: power is applied, whatever the part was doing (R17). -/
def execPowerOnReset (straps : PerPort StrapPair) (s : State) : Result := .next (s.powerOn straps)

/-- NRST_ASSERTED: a part with power is held in reset (R111); an unpowered part takes nothing. -/
def execNrstAsserted (s : State) : Result :=
  .next (match s.power with
    | .off => s
    | .held | .running => s.holdReset)

/-- NRST_RELEASED: a part held in reset starts again (R148). -/
def execNrstReleased (straps : PerPort StrapPair) (s : State) : Result :=
  .next (match s.power with
    | .held => s.endReset straps
    | .off | .running => s)

/-- POWER_LOSS: power is removed (R118). -/
def execPowerLoss (s : State) : Result := .next s.losePower

end Sys2Proof.Machine
end

