-- ==== Sys2Proof/Machine/EventCommands.lean ====
section
/-!
DEFINITION. The meanings of the commands that are events inside the part: frames and replies, the
completion of an operation, and the timers of the pulse unit, the clock, the claim and the capture unit.
An event that cannot arise in the state it finds changes nothing (assumption 2).
-/

namespace Sys2Proof.Machine

/-- FRAME_STROBE (R2). -/
def execFrameStrobe (s : State) : Result := .next (s.whenRunning State.strobeFrame)

/-- RING_REPLY: a ring's sixteen code bits and its parity bit (R1). -/
def execRingReply (r : Ring) (code : BitVec 16) (parity : Bool) (s : State) : Result :=
  .next (s.whenRunning (State.takeReply r (Reply.ofBits code parity)))

/-- REPLY_DEADLINE (R3). -/
def execReplyDeadline (s : State) : Result := .next (s.whenRunning State.takeDeadline)

/-- CORRELATION_COMPLETION (R44). -/
def execCorrelationCompletion (s : State) : Result :=
  .next (s.whenRunning State.completeCorrelation)

/-- PULSE_WIDTH_ELAPSED (R122). -/
def execPulseWidthElapsed (s : State) : Result :=
  .next (s.whenRunning fun s => s.setPls s.pls.endPulse)

/-- GAP_ELAPSED (R122). -/
def execGapElapsed (s : State) : Result :=
  .next (s.whenRunning fun s => s.setPls (s.pls.endGap s.active))

/-- CRYSTAL_FAILURE (R18). -/
def execCrystalFailure (s : State) : Result := .next (s.whenRunning State.crystalFails)

/-- STABLE_TIME_REACHED (R19). -/
def execStableTimeReached (s : State) : Result :=
  .next (s.whenRunning fun s => s.setSfe s.sfe.stableReached)

/-- The 1 ms timebase stands at the expiry of a held claim, if it had not reached it (assumption 29). -/
def State.reachExpiry (s : State) : State :=
  match s.pst.claim with
  | some c => if s.pst.commitPending then s else s.setTimebase (max s.timebase c.expiry)
  | none => s

/-- CLAIM_EXPIRY: the timebase reaches the claim's expiry (R138). -/
def execClaimExpiry (s : State) : Result := .next (s.whenRunning fun s => s.reachExpiry.expireClaim)

/-- NV_WRITE_COMPLETION: a write ends and its read-back agrees with the snapshot or not (R146). -/
def execNvWriteCompletion (agrees : Bool) (s : State) : Result :=
  .next (s.whenRunning (State.nvComplete agrees))

/-- CAPTURE_COPY_COMPLETION (R172). -/
def execCaptureCopyCompletion (s : State) : Result := .next (s.whenRunning State.copyEnds)

end Sys2Proof.Machine
end

