-- ==== Sys2Proof/Machine/PortCommands.lean ====
section
/-!
DEFINITION. The meanings of the commands that are events of a master port: bytes, gaps, and the start and
end of a response; and of a request that names no command.
-/

namespace Sys2Proof.Machine

/-- BYTE_RECEIVED: a byte with or without a framing error (R180, R181). -/
def execByteReceived (p : Port) (x : Byte) (framingError : Bool) (s : State) : Result :=
  .next (s.whenRunning (State.receive p x framingError))

/-- IDLE_GAP_ELAPSED (R180). -/
def execIdleGapElapsed (p : Port) (s : State) : Result :=
  .next (s.whenRunning fun s => s.setPort p (s.mpt.get p).idleGap)

/-- INTER_BYTE_TIMEOUT (R181). -/
def execInterByteTimeout (p : Port) (s : State) : Result :=
  .next (s.whenRunning (State.byteTimeout p))

/-- UNKNOWN_COMMAND: a frame whose command byte is no code of R189; one that is a code is no such frame
and nothing happens (R183). -/
def execUnknownCommand (p : Port) (code : Byte) (s : State) : Result :=
  .next (if (requestLength code.toNat).isSome then s else s.request p code State.answerUnknown)

/-- RESPONSE_START (R184). -/
def execResponseStart (p : Port) (s : State) : Result :=
  .next (s.whenRunning (State.startResponse p))

/-- RESPONSE_END (R184). -/
def execResponseEnd (p : Port) (s : State) : Result :=
  .next (s.whenRunning fun s => s.setPort p (s.mpt.get p).endResponse)

end Sys2Proof.Machine
end

