-- ==== Sys2Proof/Machine/RequestCommands.lean ====
section
/-!
DEFINITION. The meanings of the 26 requests of R189, each taken on a port by `State.request` under its
command code and answered by its owning rule.
-/

namespace Sys2Proof.Machine

/-- IDENTIFY (R190). -/
def execIdentify (p : Port) (s : State) : Result :=
  .next (s.request p 0x01 (State.report (identifyPayload p)))

/-- READ_FLOW (R95). -/
def execReadFlow (p : Port) (s : State) : Result :=
  .next (s.request p 0x10 (State.report flowPayload))

/-- READ_PAIRS (R46). -/
def execReadPairs (p : Port) (s : State) : Result :=
  .next (s.request p 0x11 (State.report pairsPayload))

/-- READ_SLUGS (R70). -/
def execReadSlugs (p : Port) (start : Byte) (s : State) : Result :=
  .next (s.request p 0x12 (State.answerSlugs start))

/-- READ_DEPARTED (R71). -/
def execReadDeparted (p : Port) (s : State) : Result :=
  .next (s.request p 0x13 (State.report departedPayload))

/-- READ_HEALTH (R21). -/
def execReadHealth (p : Port) (s : State) : Result :=
  .next (s.request p 0x14 (State.report healthPayload))

/-- READ_TOTALS (R126). -/
def execReadTotals (p : Port) (s : State) : Result :=
  .next (s.request p 0x15 (State.report totalsPayload))

/-- READ_STATS (R166). -/
def execReadStats (p : Port) (s : State) : Result :=
  .next (s.request p 0x16 (State.report statsPayload))

/-- READ_FAULTS (R163). -/
def execReadFaults (p : Port) (s : State) : Result :=
  .next (s.request p 0x17 (State.report faultsPayload))

/-- TAKE_EVENTS (R156). -/
def execTakeEvents (p : Port) (remove : BitVec 16) (s : State) : Result :=
  .next (s.request p 0x20 (State.answerTake p remove))

/-- SET_ATTENTION (R154). -/
def execSetAttention (p : Port) (enable : BitVec 16) (threshold : Byte) (s : State) : Result :=
  .next (s.request p 0x21 (State.answerAttention p enable threshold))

/-- OPEN_EDIT (R134). -/
def execOpenEdit (p : Port) (s : State) : Result := .next (s.request p 0x30 (State.answerOpen p))

/-- WRITE_FIELD (R135). -/
def execWriteField (p : Port) (field : Byte) (value : BitVec 32) (s : State) : Result :=
  .next (s.request p 0x31 (State.answerWrite p field value))

/-- READ_FIELD (R136). -/
def execReadField (p : Port) (field : Byte) (slot : Byte) (s : State) : Result :=
  .next (s.request p 0x32 (State.answerRead field slot))

/-- COMMIT_EDIT (R139). -/
def execCommitEdit (p : Port) (s : State) : Result :=
  .next (s.request p 0x33 (State.answerCommit p))

/-- DROP_EDIT (R137). -/
def execDropEdit (p : Port) (s : State) : Result := .next (s.request p 0x34 (State.answerDrop p))

/-- CLEAR_TOTALS (R119). -/
def execClearTotals (p : Port) (s : State) : Result :=
  .next (s.request p 0x35 (State.answerClearTotals p))

/-- GUARD_RELEASE (R106). -/
def execGuardRelease (p : Port) (s : State) : Result := .next (s.request p 0x40 State.answerRelease)

/-- FLUSH_BEGIN (R86). -/
def execFlushBegin (p : Port) (s : State) : Result :=
  .next (s.request p 0x41 State.answerFlushBegin)

/-- FLUSH_END (R88). -/
def execFlushEnd (p : Port) (s : State) : Result := .next (s.request p 0x42 State.answerFlushEnd)

/-- RESTART (R191). -/
def execRestart (p : Port) (s : State) : Result := .next (s.request p 0x43 State.answerRestart)

/-- ARM_CAPTURE (R170). -/
def execArmCapture (p : Port) (content : Byte) (which : Byte) (trigger : Byte) (s : State) : Result :=
  .next (s.request p 0x50 (State.answerArm p content which trigger))

/-- READ_CAPTURE (R175). -/
def execReadCapture (p : Port) (offset : BitVec 16) (s : State) : Result :=
  .next (s.request p 0x51 (State.answerReadCapture p offset))

/-- RELEASE_CAPTURE (R176). -/
def execReleaseCapture (p : Port) (s : State) : Result :=
  .next (s.request p 0x52 (State.answerReleaseCapture p))

/-- CLEAR_FAULTS (R162). -/
def execClearFaults (p : Port) (s : State) : Result :=
  .next (s.request p 0x60 State.answerClearFaults)

/-- CLEAR_STATS (R166). -/
def execClearStats (p : Port) (s : State) : Result :=
  .next (s.request p 0x61 State.answerClearStats)

end Sys2Proof.Machine
end

