-- ==== Sys2Proof/Machine/Dispatch.lean ====
section
/-!
DEFINITION. One arm for each command: the call of its meaning.
-/

namespace Sys2Proof.Machine

def exec (i : Instr) (s : State) : Host.Outcome State Fault Refusal :=
  match i with
  | .powerOnReset straps => Sys2Proof.Machine.execPowerOnReset straps s
  | .nrstAsserted => Sys2Proof.Machine.execNrstAsserted s
  | .nrstReleased straps => Sys2Proof.Machine.execNrstReleased straps s
  | .frameStrobe => Sys2Proof.Machine.execFrameStrobe s
  | .ringReply r code parity => Sys2Proof.Machine.execRingReply r code parity s
  | .replyDeadline => Sys2Proof.Machine.execReplyDeadline s
  | .correlationCompletion => Sys2Proof.Machine.execCorrelationCompletion s
  | .pulseWidthElapsed => Sys2Proof.Machine.execPulseWidthElapsed s
  | .gapElapsed => Sys2Proof.Machine.execGapElapsed s
  | .crystalFailure => Sys2Proof.Machine.execCrystalFailure s
  | .stableTimeReached => Sys2Proof.Machine.execStableTimeReached s
  | .claimExpiry => Sys2Proof.Machine.execClaimExpiry s
  | .nvWriteCompletion agrees => Sys2Proof.Machine.execNvWriteCompletion agrees s
  | .captureCopyCompletion => Sys2Proof.Machine.execCaptureCopyCompletion s
  | .byteReceived p x framingError => Sys2Proof.Machine.execByteReceived p x framingError s
  | .idleGapElapsed p => Sys2Proof.Machine.execIdleGapElapsed p s
  | .interByteTimeout p => Sys2Proof.Machine.execInterByteTimeout p s
  | .unknownCommand p code => Sys2Proof.Machine.execUnknownCommand p code s
  | .responseStart p => Sys2Proof.Machine.execResponseStart p s
  | .responseEnd p => Sys2Proof.Machine.execResponseEnd p s
  | .identify p => Sys2Proof.Machine.execIdentify p s
  | .readFlow p => Sys2Proof.Machine.execReadFlow p s
  | .readPairs p => Sys2Proof.Machine.execReadPairs p s
  | .readSlugs p start => Sys2Proof.Machine.execReadSlugs p start s
  | .readDeparted p => Sys2Proof.Machine.execReadDeparted p s
  | .readHealth p => Sys2Proof.Machine.execReadHealth p s
  | .readTotals p => Sys2Proof.Machine.execReadTotals p s
  | .readStats p => Sys2Proof.Machine.execReadStats p s
  | .readFaults p => Sys2Proof.Machine.execReadFaults p s
  | .takeEvents p remove => Sys2Proof.Machine.execTakeEvents p remove s
  | .setAttention p enable threshold => Sys2Proof.Machine.execSetAttention p enable threshold s
  | .openEdit p => Sys2Proof.Machine.execOpenEdit p s
  | .writeField p field value => Sys2Proof.Machine.execWriteField p field value s
  | .readField p field slot => Sys2Proof.Machine.execReadField p field slot s
  | .commitEdit p => Sys2Proof.Machine.execCommitEdit p s
  | .dropEdit p => Sys2Proof.Machine.execDropEdit p s
  | .clearTotals p => Sys2Proof.Machine.execClearTotals p s
  | .guardRelease p => Sys2Proof.Machine.execGuardRelease p s
  | .flushBegin p => Sys2Proof.Machine.execFlushBegin p s
  | .flushEnd p => Sys2Proof.Machine.execFlushEnd p s
  | .restart p => Sys2Proof.Machine.execRestart p s
  | .armCapture p content which trigger => Sys2Proof.Machine.execArmCapture p content which trigger s
  | .readCapture p offset => Sys2Proof.Machine.execReadCapture p offset s
  | .releaseCapture p => Sys2Proof.Machine.execReleaseCapture p s
  | .clearFaults p => Sys2Proof.Machine.execClearFaults p s
  | .clearStats p => Sys2Proof.Machine.execClearStats p s
  | .powerLoss => Sys2Proof.Machine.execPowerLoss s

end Sys2Proof.Machine
end

