-- ==== Sys2Proof/Safety.lean ====
section
/-!
DEFINITION. What counts as a good state of the LC-420, in the terms the statements use: invariants that
every command keeps, read from the rules that say "exactly when", "at most" or "never".
-/

namespace Sys2Proof.Machine

/-- The TRIP line of a running part is asserted exactly in TRIPPED and RECOVERED, and is released on a part
held in reset or without power (R98). -/
def State.TripAgrees (s : State) : Prop :=
  s.dgd.trip = (decide (s.power = .running) && s.dgd.state.trips)

/-- Every ATN line of a running part is asserted exactly when its port's set holds an enabled kind of a
level above its threshold, and every one is released otherwise (R155). -/
def State.AttentionAgrees (s : State) : Prop :=
  ∀ p, (s.efu.ports.get p).atn =
    (decide (s.power = .running) && (s.efu.ports.get p).qualifies)

/-- The guard state field of the standing record of a running part is the guard's state (R100, R107). -/
def State.RecordShowsGuard (s : State) : Prop :=
  s.power = .running → s.fsv.record.guard = s.dgd.state

/-- The fault map holds at most 12 entries with pairwise distinct keys (R158). -/
def Efu.MapWf (e : Efu) : Prop :=
  e.faults.length ≤ Config.faultCapacity ∧ (e.faults.map (·.key)).Nodup

/-- The active profile satisfies every range and every cross-field check (R129, R131). -/
def Pst.ActiveAccepted (x : Pst) : Prop := x.active.accepted = true

/-- The profile store: the active profile is acceptable, every field of the staging profile lies in its
range, the staging profile equals the active one while no port holds the claim, and a pending commit is
held by a port and acceptable (R129, R131, R132, R141). -/
def Pst.Wf (x : Pst) : Prop :=
  x.active.accepted = true ∧ x.staging.inRange = true
    ∧ (x.claim = none → x.staging = x.active ∧ x.commitPending = false)
    ∧ (x.commitPending = true → x.staging.accepted = true)

/-- The capture unit is ARMED, FILLING or FULL only while it has an owner, and in IDLE it has no owner,
content, trigger, header or values (R169). -/
def Cap.Wf (c : Cap) : Prop :=
  (c.state = .idle → c = Cap.idle)
    ∧ (c.state ≠ .idle → c.owner.isSome = true ∧ c.content.isSome = true ∧ c.trigger.isSome = true)

/-- The departed list holds at most 8 entries and the slug table at most 16 (R57, R66). -/
def Stk.WithinCapacity (k : Stk) : Prop :=
  k.table.length ≤ Config.slugCapacity ∧ k.departed.length ≤ Config.departedCapacity

end Sys2Proof.Machine
end

