-- ==== Sys2Proof/Certificates/Slice0/Obligations.lean ====
section
/-!
DEFINITION. The statements about the LC-420, each a proposition without a proof, with the few words they
are said in: which blocks a command changes, what a port answers, what a payload carries at an offset,
and which kinds have been posted.
-/

namespace Sys2Proof.Claim

open Sys2Proof.Machine

/-! ### Frames -/

/-- The blocks of the state. -/
inductive Block where
  | power | timebase | freeCount | sfe | xcr | stk | fsv | dgd | tot | pls | pst | efu | cap | mpt
  | pending
deriving DecidableEq, Repr

/-- A block is the same in two states. -/
def Block.Same (s t : State) : Block → Prop
  | .power => t.power = s.power
  | .timebase => t.timebase = s.timebase
  | .freeCount => t.freeCount = s.freeCount
  | .sfe => t.sfe = s.sfe
  | .xcr => t.xcr = s.xcr
  | .stk => t.stk = s.stk
  | .fsv => t.fsv = s.fsv
  | .dgd => t.dgd = s.dgd
  | .tot => t.tot = s.tot
  | .pls => t.pls = s.pls
  | .pst => t.pst = s.pst
  | .efu => t.efu = s.efu
  | .cap => t.cap = s.cap
  | .mpt => t.mpt = s.mpt
  | .pending => t.pending = s.pending

/-- Every block but those named is unchanged. -/
def OnlyChanges (blocks : List Block) (s t : State) : Prop := ∀ b, b ∉ blocks → Block.Same s t b

/-! ### Requests and responses -/

/-- The part runs and the port can take a request. -/
def Free (p : Port) (s : State) : Prop := s.power = .running ∧ (s.mpt.get p).tx = .free

/-- The port has taken a request and prepares its response; the other ports are untouched (R183, R184). -/
def Answered (p : Port) (echo : Byte) (st : Status) (payload : List Byte) (s t : State) : Prop :=
  t.mpt = s.mpt.set p
    ⟨(s.mpt.get p).speed, .waitIdle, 0, [], .preparing, responseFrame echo st payload⟩

/-- The unsigned number that bytes spell, most significant first (R187). -/
def beNat (l : List Byte) : Nat := l.foldl (fun n x => 256 * n + x.toNat) 0

/-- The `w` bytes of a payload from offset `o` carry `x`, modulo their width; a negative `x` in two's
complement (R187). -/
def At (l : List Byte) (o w : Nat) (x : Int) : Prop :=
  o + w ≤ l.length ∧ (beNat ((l.drop o).take w) : Int) = x % 256 ^ w

/-- An item with its presence byte: 1 and the value, or 0 and zeros (R187). -/
def AtOpt (l : List Byte) (o w : Nat) (x : Option Int) : Prop :=
  At l o 1 (if x.isSome then 1 else 0) ∧ At l (o + 1) w (x.getD 0)

/-- A yes/no or set/clear item (R188). -/
def ofFlag (b : Bool) : Int := if b then 1 else 0

/-! ### Events -/

/-- The kinds that every port's set has gained are those listed; CAPTURE_DONE, which goes to one port, is
not spoken of. The enable sets and thresholds stand (R152). -/
def Posted (kinds : List EventKind) (s t : State) : Prop :=
  ∀ p,
    (∀ k, k ≠ .captureDone →
      hasKind (t.efu.ports.get p).posted k
        = (hasKind (s.efu.ports.get p).posted k || kinds.contains k))
    ∧ (t.efu.ports.get p).enable = (s.efu.ports.get p).enable
    ∧ (t.efu.ports.get p).threshold = (s.efu.ports.get p).threshold

/-- A counter increased by `k`, saturating (R164). -/
def plus (c k : Nat) : Nat := if c + k ≤ 4294967295 then c + k else 4294967295

/-- A counter increased by one `k` times, left alone when `k` is 0. -/
def bump (k c : Nat) : Nat := if k = 0 then c else plus c k

/-- FAULT_MAP_FULL is posted to every port exactly when FULL changes from clear to set (R161). -/
def FullPosted (s t : State) : Prop :=
  ∀ p, hasKind (t.efu.ports.get p).posted .faultMapFull
    = (hasKind (s.efu.ports.get p).posted .faultMapFull || (!s.efu.full && t.efu.full))

/-- The recording of an occurrence between boundaries, by the table of R159: an entry with the key counts
on, a key without one gains one where the map has room, and otherwise nothing is recorded and FULL is set
(R161). -/
def Recorded (key : FaultKey) (s t : State) : Prop :=
  let w := s.xcr.windowNumber
  let present := ∃ e ∈ s.efu.faults, e.key = key
  let room := s.efu.faults.length < 12
  (present → t.efu.faults = s.efu.faults.map fun e =>
    if e.key = key then
      { e with last := w, occurrences := min (e.occurrences + 1) 65535, active := false }
    else e)
  ∧ (¬ present → room → t.efu.faults = s.efu.faults ++ [⟨key, w, w, 1, false⟩])
  ∧ (¬ present → ¬ room → t.efu.faults = s.efu.faults)
  ∧ (t.efu.full = true ↔ s.efu.full = true ∨ (¬ present ∧ ¬ room))
  ∧ FullPosted s t

/-- The records counters after a record of a status: one rises, that of the status (R73, R164). -/
def CountsRecord (st : VelStatus) (c d : Stats) : Prop :=
  let one := fun x : VelStatus => if st = x then 1 else 0
  d.recCorrelated = bump (one .correlated) c.recCorrelated
  ∧ d.recSlug = bump (one .slug) c.recSlug
  ∧ d.recHeld = bump (one .held) c.recHeld
  ∧ d.recLost = bump (one .lost) c.recLost

/-- `x / y` rounded to the nearest integer, halves up (spec 0.7). -/
def round (x y : Nat) : Nat := (x + y / 2) / y

/-- The `w` bytes of `x`, most significant first (R187). -/
def be (w x : Nat) : List Byte := (List.range w).map fun i => BitVec.ofNat 8 (x / 256 ^ (w - 1 - i))

/-- The CRC-16 that follows the values of a profile in the profile region (R144). -/
def profileCheck (p : Profile) : BitVec 16 :=
  crc16 ((List.range 42).flatMap fun k => be 4 (p.word (k + 1)).toNat)

/-- The CRC-16 over the five items of a checkpoint (R115). -/
def totalsCheck (c : Checkpoint) : BitVec 16 :=
  crc16 (be 6 c.volume.toNat ++ be 4 c.volumeResidue ++ be 6 c.solids.toNat ++ be 8 c.solidsResidue
    ++ be 2 c.rate)

/-- The snapshot of a profile, with its check (R144). -/
def imageOf (p : Profile) : ProfileImage := ⟨p, profileCheck p⟩

/-- A checkpoint of the given items, with its check (R115). -/
def checkpointOf (volume volumeResidue solids solidsResidue rate : Nat) : Checkpoint :=
  let c : Checkpoint :=
    ⟨BitVec.ofNat 48 volume, volumeResidue, BitVec.ofNat 48 solids, solidsResidue, rate, 0⟩
  { c with check := totalsCheck c }

/-- The part runs, and the replies to a strobed frame are awaited (R1). -/
def FrameOpen (fr : Frame) (s : State) : Prop := s.power = .running ∧ s.sfe.frame = some fr

end Sys2Proof.Claim

open Sys2Proof Sys2Proof.Machine Sys2Proof.Claim

/-! ### The queue -/

/-- Spec 0.7 (Events and time), in the model's form (assumption 1): a step takes the command at the front of
the queue and answers what the command does with the rest of the queue waiting. -/
def Obligations.StepRunsFront : Prop :=
  ∀ (c : Instr) (rest : List Instr) (s : State),
    s.pending = c :: rest → step s = exec c { s with pending := rest }

/-- MODEL'S CHOICE (assumption 1): on an empty queue one tick of the 1 ms timebase passes. What the tick
does to the stable time, the pulse, the claim and the ports is R19, R122, R138 and R180; that every tick on
the fallback counts as stable unless a failure is found anew is the model's choice too (assumption 40). -/
def Obligations.IdleStepTicks : Prop :=
  ∀ s : State, s.pending = [] →
    (s.power ≠ .running → step s = .next s)
    ∧ (s.power = .running → ∃ t, step s = .next t
      ∧ OnlyChanges [.timebase, .sfe, .pls, .pst, .efu, .mpt] s t
      ∧ t.timebase = s.timebase + 1
      ∧ t.sfe = { s.sfe with stable :=
          if s.sfe.clock = .crystal then s.sfe.stable else min (s.sfe.stable + 1) 1024 }
      ∧ (s.pls.gen = .idle → t.pls = s.pls)
      ∧ (s.pls.gen ≠ .idle → s.pls.elapsed + 1 < s.pls.width →
          t.pls = { s.pls with elapsed := s.pls.elapsed + 1 })
      ∧ (s.pls.gen = .high → s.pls.width ≤ s.pls.elapsed + 1 →
          t.pls = { s.pls with gen := .gap, elapsed := 0, pulse := false })
      ∧ (s.pls.gen = .gap → s.pls.width ≤ s.pls.elapsed + 1 →
          s.pst.active.pulseWeight ≤ s.pls.credit →
          t.pls = ⟨s.pls.credit - s.pst.active.pulseWeight, s.pls.emitted + 1, s.pls.lost, .high,
            s.pst.active.pulseWidth, 0, true⟩)
      ∧ (s.pls.gen = .gap → s.pls.width ≤ s.pls.elapsed + 1 →
          s.pls.credit < s.pst.active.pulseWeight →
          t.pls = { s.pls with gen := .idle, elapsed := 0, pulse := false })
      ∧ (∀ c, s.pst.claim = some c → c.expiry ≤ s.timebase + 1 → s.pst.commitPending = false →
          t.pst = { s.pst with claim := none, staging := s.pst.active } ∧ Posted [.claimExpired] s t)
      ∧ ((∀ c, s.pst.claim = some c → s.timebase + 1 < c.expiry ∨ s.pst.commitPending = true) →
          t.pst = s.pst)
      ∧ (∀ p, (s.mpt.get p).tx ≠ .sending → (s.mpt.get p).rx = .waitIdle →
          (t.mpt.get p).rx = (if 2 ≤ (s.mpt.get p).idle + 1 then .ready else .waitIdle)
          ∧ (t.mpt.get p).idle = (if 2 ≤ (s.mpt.get p).idle + 1 then 2 else (s.mpt.get p).idle + 1))
      ∧ (∀ p, (s.mpt.get p).tx ≠ .sending → (s.mpt.get p).rx = .receiving →
          2 ≤ (s.mpt.get p).idle + 1 →
          (t.mpt.get p).rx = .waitIdle ∧ (t.mpt.get p).buffer = []
          ∧ t.efu.stats.checkErrors.get p = plus (s.efu.stats.checkErrors.get p) 1)
      ∧ (∀ p, (s.mpt.get p).tx ≠ .sending → (s.mpt.get p).rx = .receiving →
          (s.mpt.get p).idle + 1 < 2 →
          t.mpt.get p = { s.mpt.get p with idle := (s.mpt.get p).idle + 1 })
      ∧ (∀ p, (s.mpt.get p).tx = .sending ∨ (s.mpt.get p).rx = .ready → t.mpt.get p = s.mpt.get p))

/-! ### Frames of the ports -/

/-- R184, R182: the bytes of a response, its length and check high byte first; and what the check is worth:
a message followed by its own check leaves a check of 0, and a frame in which one byte has been changed
never has the check of the frame it was. -/
def Obligations.ResponseFormAndCheck : Prop :=
  (∀ (echo : Byte) (st : Status) (payload : List Byte), payload.length ≤ 510 →
    ∃ hi lo ch cl : Byte,
      responseFrame echo st payload
        = [0xA5#8, hi, lo, echo, BitVec.ofNat 8 st.code] ++ payload ++ [ch, cl]
      ∧ 256 * hi.toNat + lo.toNat = payload.length + 2
      ∧ payload.length + 2 ≤ 512 ∧ st.code ≤ 9
      ∧ ch ++ cl = crc16 ([hi, lo, echo, BitVec.ofNat 8 st.code] ++ payload))
  ∧ (∀ l : List Byte, crc16 (l ++ [(crc16 l).extractLsb' 8 8, (crc16 l).extractLsb' 0 8]) = 0#16)
  ∧ ∀ (l m : List Byte) (x y : Byte), x ≠ y → crc16 (l ++ x :: m) ≠ crc16 (l ++ y :: m)

namespace Sys2Proof.Claim

/-- What receiving bytes one after another does, each without a framing error. -/
def feed (p : Port) : List Byte → State → Host.Outcome State Fault Refusal
  | [], s => .next s
  | x :: l, s =>
    match exec (.byteReceived p x false) s with
    | .next t => feed p l t
    | o => o

/-- The length, command and payload bytes of a request frame (R181). -/
def bodyOf (code : Byte) (payload : List Byte) : List Byte :=
  BitVec.ofNat 8 (payload.length + 1) :: code :: payload

/-- The bytes of a request frame: SOF, length, command, payload and the check of the last three (R181,
R182). -/
def frameOf (code : Byte) (payload : List Byte) : List Byte :=
  let body := bodyOf code payload
  0xA5#8 :: body ++ [(crc16 body).extractLsb' 8 8, (crc16 body).extractLsb' 0 8]

/-- A port after the end of a frame (R181). -/
def portAfterFrame (x : PortState) : PortState := { x with rx := .waitIdle, idle := 0, buffer := [] }

/-- The state after a frame of a port is dropped for its check (R181, R182). -/
def checkErrorAt (p : Port) (s : State) : State :=
  { s with
    mpt := s.mpt.set p (portAfterFrame (s.mpt.get p))
    efu := { s.efu with stats := { s.efu.stats with
      checkErrors := s.efu.stats.checkErrors.set p (plus (s.efu.stats.checkErrors.get p) 1) } } }

/-- The state after a frame of a port is dropped for overrun (R185). -/
def overrunAt (p : Port) (s : State) : State :=
  { s with
    mpt := s.mpt.set p (portAfterFrame (s.mpt.get p))
    efu := { s.efu with stats := { s.efu.stats with
      overruns := s.efu.stats.overruns.set p (plus (s.efu.stats.overruns.get p) 1) } } }

/-- The two bytes of a 16-bit item. -/
def two (x : BitVec 16) : List Byte := [x.extractLsb' 8 8, x.extractLsb' 0 8]

/-- The four bytes of a 32-bit item. -/
def four (x : BitVec 32) : List Byte :=
  [x.extractLsb' 24 8, x.extractLsb' 16 8, x.extractLsb' 8 8, x.extractLsb' 0 8]

/-- The 26 requests: port, code and payload (R189). -/
def requestOf : Instr → Option (Port × Byte × List Byte)
  | .identify p => some (p, 0x01, [])
  | .readFlow p => some (p, 0x10, [])
  | .readPairs p => some (p, 0x11, [])
  | .readSlugs p start => some (p, 0x12, [start])
  | .readDeparted p => some (p, 0x13, [])
  | .readHealth p => some (p, 0x14, [])
  | .readTotals p => some (p, 0x15, [])
  | .readStats p => some (p, 0x16, [])
  | .readFaults p => some (p, 0x17, [])
  | .takeEvents p remove => some (p, 0x20, two remove)
  | .setAttention p enable threshold => some (p, 0x21, two enable ++ [threshold])
  | .openEdit p => some (p, 0x30, [])
  | .writeField p field value => some (p, 0x31, field :: four value)
  | .readField p field slot => some (p, 0x32, [field, slot])
  | .commitEdit p => some (p, 0x33, [])
  | .dropEdit p => some (p, 0x34, [])
  | .clearTotals p => some (p, 0x35, [])
  | .guardRelease p => some (p, 0x40, [])
  | .flushBegin p => some (p, 0x41, [])
  | .flushEnd p => some (p, 0x42, [])
  | .restart p => some (p, 0x43, [])
  | .armCapture p content which trigger => some (p, 0x50, [content, which, trigger])
  | .readCapture p offset => some (p, 0x51, two offset)
  | .releaseCapture p => some (p, 0x52, [])
  | .clearFaults p => some (p, 0x60, [])
  | .clearStats p => some (p, 0x61, [])
  | .powerOnReset _ | .nrstAsserted | .nrstReleased _ | .frameStrobe | .ringReply _ _ _
  | .replyDeadline | .correlationCompletion | .pulseWidthElapsed | .gapElapsed | .crystalFailure
  | .stableTimeReached | .claimExpiry | .nvWriteCompletion _ | .captureCopyCompletion
  | .byteReceived _ _ _ | .idleGapElapsed _ | .interByteTimeout _ | .unknownCommand _ _
  | .responseStart _ | .responseEnd _ | .powerLoss => none

/-- The codes of R189. -/
def codes : List Nat :=
  [0x01, 0x10, 0x11, 0x12, 0x13, 0x14, 0x15, 0x16, 0x17, 0x20, 0x21, 0x30, 0x31, 0x32, 0x33, 0x34,
   0x35, 0x40, 0x41, 0x42, 0x43, 0x50, 0x51, 0x52, 0x60, 0x61]

end Sys2Proof.Claim

/-- R180 to R183, R189: the bytes of a request frame, received one after another on a READY port, do what
the request's own command does; a frame with a code outside R189 is answered UNKNOWN, and one with a wrong
payload length LENGTH, and neither changes anything outside the port. The model's reading: a request's row
stands for its whole frame (assumption 3). -/
def Obligations.BytesMakeTheRequest : Prop :=
  ∀ (p : Port) (code : Byte) (payload : List Byte) (s : State),
    s.power = .running → (s.mpt.get p).rx = .ready → payload.length ≤ 250 →
    (∀ c, (s.mpt.get p).tx ≠ .sending → requestOf c = some (p, code, payload) →
      feed p (frameOf code payload) s = exec c s)
    ∧ (∀ hi lo : Byte, (s.mpt.get p).tx = .free → hi ++ lo ≠ crc16 (bodyOf code payload) →
        feed p (0xA5#8 :: bodyOf code payload ++ [hi, lo]) s = .next (checkErrorAt p s))
    ∧ (∀ hi lo : Byte, (s.mpt.get p).tx = .preparing →
        feed p (0xA5#8 :: bodyOf code payload ++ [hi, lo]) s = .next (overrunAt p s))
    ∧ (code.toNat ∉ codes → (s.mpt.get p).tx = .free →
        feed p (frameOf code payload) s = exec (.unknownCommand p code) s
        ∧ ∃ t, exec (.unknownCommand p code) s = .next t ∧ OnlyChanges [.mpt] s t
          ∧ Answered p code .unknown [] s t)
    ∧ (code.toNat ∈ codes → (s.mpt.get p).tx = .free →
        (∀ c q pl, requestOf c = some (q, code, pl) → pl.length ≠ payload.length) →
        ∃ t, feed p (frameOf code payload) s = .next t ∧ OnlyChanges [.mpt] s t
          ∧ Answered p code .length [] s t)

/-- R185, R194: a request whose frame is complete while its port is PREPARING is counted and does nothing
else; while the port is SENDING, or on a part that does not run, none is received. The model's reading: a
request's row stands for its whole frame (assumption 3). -/
def Obligations.RequestsNotTaken : Prop :=
  ∀ (p : Port) (code : Byte) (payload : List Byte) (c : Instr) (s : State),
    requestOf c = some (p, code, payload) →
    (s.power = .running → (s.mpt.get p).tx = .preparing →
      ∃ t, exec c s = .next t ∧ OnlyChanges [.efu, .mpt] s t
        ∧ t.mpt = s.mpt.set p { s.mpt.get p with rx := .waitIdle, idle := 0, buffer := [] }
        ∧ t.efu = { s.efu with stats := { s.efu.stats with
            overruns := s.efu.stats.overruns.set p (plus (s.efu.stats.overruns.get p) 1) } })
    ∧ (s.power ≠ .running ∨ (s.mpt.get p).tx = .sending → exec c s = .next s)

/-- R180, R181, R184, R185: what one received byte does in each receiver state, but for the last byte of a
frame, and what the gaps of a port and the start and end of a response do. The model's reading: a frame's
end or abandonment leaves the idle time 0 (assumption 27), an event out of place changes nothing (assumption
2), and the response is held to its end (assumption 20). -/
def Obligations.BytesAndPortEvents : Prop :=
  (∀ (p : Port) (x : Byte) (bad : Bool) (s : State), s.power = .running →
    (s.mpt.get p).tx ≠ .sending →
    ((s.mpt.get p).rx = .waitIdle →
      exec (.byteReceived p x bad) s
        = .next (s.setPort p { s.mpt.get p with idle := 0 }))
    ∧ ((s.mpt.get p).rx = .ready → x = 0xA5#8 → bad = false →
      exec (.byteReceived p x bad) s
        = .next (s.setPort p { s.mpt.get p with rx := .receiving, idle := 0, buffer := [x] }))
    ∧ ((s.mpt.get p).rx = .ready → x ≠ 0xA5#8 ∨ bad = true →
      exec (.byteReceived p x bad) s
        = .next (s.setPort p { s.mpt.get p with rx := .waitIdle, idle := 0, buffer := [] }))
    ∧ ((s.mpt.get p).rx = .receiving →
      (bad = true ∨ ((s.mpt.get p).buffer.length = 1 ∧ (x.toNat = 0 ∨ 251 < x.toNat))) →
      exec (.byteReceived p x bad) s
        = .next { s with
            mpt := (s.mpt.set p { s.mpt.get p with rx := .waitIdle, idle := 0, buffer := [] }),
            efu := { s.efu with stats := { s.efu.stats with
              checkErrors :=
                s.efu.stats.checkErrors.set p (plus (s.efu.stats.checkErrors.get p) 1) } } })
    ∧ (∀ sof len rest, (s.mpt.get p).rx = .receiving → bad = false →
      (s.mpt.get p).buffer ++ [x] = sof :: len :: rest →
      (rest = [] → len.toNat ≠ 0 ∧ len.toNat ≤ 251) →
      rest.length ≠ len.toNat + 2 →
      exec (.byteReceived p x bad) s
        = .next (s.setPort p { s.mpt.get p with idle := 0, buffer := (s.mpt.get p).buffer ++ [x] }))
    ∧ (∀ sof len body hi lo, (s.mpt.get p).rx = .receiving → bad = false →
      (s.mpt.get p).buffer ++ [x] = sof :: len :: body ++ [hi, lo] →
      body.length = len.toNat → 1 ≤ len.toNat →
      ((s.mpt.get p).tx = .preparing → exec (.byteReceived p x bad) s = .next (overrunAt p s))
      ∧ ((s.mpt.get p).tx = .free → hi ++ lo ≠ crc16 (len :: body) →
        exec (.byteReceived p x bad) s = .next (checkErrorAt p s))))
  ∧ ∀ (p : Port) (s : State), s.power = .running →
    ((s.mpt.get p).rx = .waitIdle → (s.mpt.get p).tx ≠ .sending →
      exec (.idleGapElapsed p) s
        = .next (s.setPort p { s.mpt.get p with rx := .ready, idle := 2 }))
    ∧ ((s.mpt.get p).rx ≠ .waitIdle ∨ (s.mpt.get p).tx = .sending →
      exec (.idleGapElapsed p) s = .next s)
    ∧ ((s.mpt.get p).rx = .receiving →
      exec (.interByteTimeout p) s
        = .next { s with
            mpt := (s.mpt.set p { s.mpt.get p with rx := .waitIdle, idle := 0, buffer := [] }),
            efu := { s.efu with stats := { s.efu.stats with
              checkErrors :=
                s.efu.stats.checkErrors.set p (plus (s.efu.stats.checkErrors.get p) 1) } } })
    ∧ ((s.mpt.get p).tx = .preparing → (s.mpt.get p).rx ≠ .receiving →
      exec (.responseStart p) s
        = .next (s.setPort p { s.mpt.get p with rx := .waitIdle, idle := 0, buffer := [], tx := .sending }))
    ∧ ((s.mpt.get p).tx = .preparing → (s.mpt.get p).rx = .receiving →
      exec (.responseStart p) s
        = .next { s with
            mpt := (s.mpt.set p
              { s.mpt.get p with rx := .waitIdle, idle := 0, buffer := [], tx := .sending }),
            efu := { s.efu with stats := { s.efu.stats with
              overruns := s.efu.stats.overruns.set p (plus (s.efu.stats.overruns.get p) 1) } } })
    ∧ ((s.mpt.get p).tx = .sending →
      exec (.responseEnd p) s
        = .next (s.setPort p { s.mpt.get p with
            rx := .waitIdle, idle := 0, buffer := [], tx := .free, response := [] }))

/-- R190: IDENTIFY. -/
def Obligations.Identify : Prop :=
  ∀ (p : Port) (s : State), Free p s →
    ∃ t payload, exec (.identify p) s = .next t ∧ OnlyChanges [.mpt] s t
      ∧ Answered p 0x01 .ok payload s t ∧ payload.length = 19
      ∧ At payload 0 2 0x0E21 ∧ At payload 2 2 0x0420 ∧ At payload 4 1 1 ∧ At payload 5 1 4
      ∧ At payload 6 2 2048 ∧ At payload 8 2 512 ∧ At payload 10 1 16 ∧ At payload 11 1 8
      ∧ At payload 12 1 12 ∧ At payload 13 1 16
      ∧ At payload 14 1 (match p with | .p1 => 1 | .p2 => 2 | .p3 => 3)
      ∧ At payload 15 4 (match (s.mpt.get p).speed with
          | .b19200 => 19200 | .b38400 => 38400 | .b57600 => 57600 | .b115200 => 115200)

/-! ### Resets -/

namespace Sys2Proof.Claim

/-- The straps' speed (R179). -/
def speedOf (x : StrapPair) : Speed :=
  if x.high then (if x.low then .b115200 else .b57600) else (if x.low then .b38400 else .b19200)

/-- A row of the table of R129: a field's number, its range and its default. -/
structure FieldRow where
  field : Nat
  least : Int
  greatest : Int
  default : Int

/-- The fields of R129 that are not deposition points, named values by their codes (R188); field 6, N, takes
128, 256 and 512 only. -/
def fieldTable : List FieldRow :=
  [⟨1, 2, 4, 4⟩, ⟨2, 100, 5000, 800⟩, ⟨3, 100, 5000, 800⟩, ⟨4, 100, 5000, 800⟩,
   ⟨5, 100, 2000, 500⟩, ⟨6, 128, 512, 512⟩, ⟨7, 4, 12, 8⟩, ⟨8, 0, 65535, 16⟩,
   ⟨9, 100, 19999, 1000⟩, ⟨10, 200, 20000, 8000⟩, ⟨11, 0, 1024, 300⟩, ⟨12, 0, 64, 8⟩,
   ⟨13, 50, 1500, 600⟩, ⟨14, 1000, 65000, 40000⟩, ⟨15, 1500, 6000, 2700⟩, ⟨16, 1, 8, 3⟩,
   ⟨25, -2000, 5000, 600⟩, ⟨26, -2000, 5000, 150⟩, ⟨27, 0, 5000, 200⟩, ⟨28, 1, 32, 3⟩,
   ⟨29, 1, 255, 10⟩, ⟨30, 0, 1, 1⟩, ⟨31, 50, 10000, 300⟩, ⟨32, 1, 255, 20⟩, ⟨33, 1, 32767, 800⟩,
   ⟨34, 0, 8000, 100⟩, ⟨35, 1, 32767, 200⟩, ⟨36, 1, 32767, 8000⟩, ⟨37, 2, 64, 4⟩,
   ⟨38, 5, 50, 25⟩, ⟨39, 0, 60000, 0⟩, ⟨40, 0, 1, 0⟩, ⟨41, 1, 100000, 1000⟩, ⟨42, 10, 500, 50⟩]

/-- The defaults of the deposition points, fields 17 to 24: φ and Vc (R129). -/
def pointDefaults : List (Nat × Nat × Nat) :=
  [(17, 0, 1800), (18, 1500, 2400), (19, 3000, 2900), (20, 0, 0), (21, 0, 0), (22, 0, 0), (23, 0, 0),
   (24, 0, 0)]

/-- A profile holds the defaults of R129 in its 42 fields, as READ_FIELD carries them (R187). -/
def IsDefault (p : Profile) : Prop :=
  (∀ row ∈ fieldTable, p.word row.field = BitVec.ofInt 32 row.default)
  ∧ ∀ x ∈ pointDefaults, p.word x.1 = BitVec.ofNat 32 (65536 * x.2.1 + x.2.2)

/-- A POR and an NRST that ends, each with what the state is after it. -/
def AfterStart (s : State) (straps : PerPort StrapPair) (post : State → Prop) : Prop :=
  (∃ t, exec (.powerOnReset straps) s = .next t ∧ t.power = .running ∧ post t)
  ∧ (s.power = .held → ∃ t, exec (.nrstReleased straps) s = .next t ∧ t.power = .running ∧ post t)

/-- A RESTART on a port that can take it, with what the state is after it. -/
def AfterRestart (s : State) (p : Port) (post : State → Prop) : Prop :=
  Free p s → ∃ t, exec (.restart p) s = .next t ∧ Answered p 0x43 .ok [] s t ∧ post t

/-- A region after a reset: one that was being written fails its check (R147). -/
def profileAfterCut (v : Nv) : Option ProfileImage :=
  match v.writing with
  | some (.profile _) => none
  | _ => v.profileRegion

/-- The totals region after a reset (R116). -/
def totalsAfterCut (v : Nv) : Option Checkpoint :=
  match v.writing with
  | some (.totals _) => none
  | _ => v.totalsRegion

/-- A stored profile is accepted: its CRC-16 matches, and it lies in its ranges and passes the cross-field
checks (R148). -/
def Loadable (x : ProfileImage) : Prop := x.check = profileCheck x.profile ∧ x.profile.accepted = true

/-- A stored checkpoint is restored from: its check matches, and its rate and residues lie in their ranges
(R118). -/
def Restorable (c : Checkpoint) : Prop :=
  c.check = totalsCheck c ∧ 100 ≤ c.rate ∧ c.rate ≤ 2000
    ∧ c.volumeResidue < c.rate * 10 ^ 6 ∧ c.solidsResidue < c.rate * 10 ^ 13

end Sys2Proof.Claim

/-- R17 with R14 and R16, R47 with R28 and R35, R72: the front end, the correlator and the tracker after
each kind of reset. The model's reading: the last stored index reads 0 before the first frame (assumption
16), and a POR is taken in any power state (assumption 33). -/
def Obligations.MeasurementAfterReset : Prop :=
  ∀ (straps : PerPort StrapPair) (p : Port) (s : State),
    let emptied := fun t : State =>
      t.sfe.nextIndex = 0 ∧ t.sfe.lastIndex = 0 ∧ t.sfe.fill = 0 ∧ t.sfe.windowPos = 0
      ∧ t.sfe.ready = false ∧ t.sfe.frame = none
      ∧ (∀ r, (t.sfe.rings.get r).hist = [] ∧ (t.sfe.rings.get r).seeded = false
        ∧ (t.sfe.rings.get r).health = .healthy ∧ (t.sfe.rings.get r).badRun = 0
        ∧ (t.sfe.rings.get r).goodRun = 0 ∧ (t.sfe.rings.get r).tally = ⟨0, 0, 0⟩)
      ∧ t.xcr.windowNumber = 0 ∧ (∀ k, t.xcr.table.get k = none) ∧ t.xcr.state = .idle
      ∧ (∀ k, t.xcr.results.get k = none) ∧ t.xcr.resultWindow = 0
      ∧ (∀ r, (t.stk.rings.get r).detector = .armed
        ∧ (t.stk.rings.get r).theta = t.pst.active.thetaInit
        ∧ (t.stk.rings.get r).charges = 0 ∧ (t.stk.rings.get r).quiet = 0)
      ∧ t.stk.table = [] ∧ t.stk.departed = [] ∧ t.stk.sumDistance = 0 ∧ t.stk.sumTransit = 0
      ∧ t.stk.sumCount = 0
    AfterStart s straps (fun t => emptied t ∧ t.stk.tagCounter = 255
      ∧ t.sfe.clock = .crystal ∧ t.sfe.stable = 0 ∧ t.sfe.degraded = false
      ∧ ∀ r, (t.sfe.rings.get r).lastGood = 32768 ∧ (t.sfe.rings.get r).closed = ⟨0, 0, 0⟩)
    ∧ AfterRestart s p (fun t => emptied t ∧ t.stk.tagCounter = s.stk.tagCounter
      ∧ t.sfe.clock = s.sfe.clock ∧ t.sfe.stable = s.sfe.stable ∧ t.sfe.degraded = s.sfe.degraded
      ∧ ∀ r, (t.sfe.rings.get r).lastGood = (s.sfe.rings.get r).lastGood
        ∧ (t.sfe.rings.get r).closed = (s.sfe.rings.get r).closed)

/-- R97, R89, R111: the solver and the guard after each kind of reset. After a RESTART the deposition
velocity is that of φ 0 under an active profile that is acceptable. The model's choice: a POR is taken in
any power state (assumption 33). -/
def Obligations.SolverAndGuardAfterReset : Prop :=
  ∀ (straps : PerPort StrapPair) (p : Port) (s : State),
    let filling := fun (t : State) =>
      t.fsv.record.status = .filling ∧ t.fsv.record.window = 0 ∧ t.fsv.record.span = 0
      ∧ t.fsv.record.v = 0 ∧ t.fsv.record.vc = none ∧ t.fsv.record.vs = none
      ∧ t.fsv.record.q = 0 ∧ t.fsv.record.s = 0 ∧ t.fsv.record.phi = 0
      ∧ t.fsv.record.margin = none ∧ t.fsv.record.line = .stopped
      ∧ t.fsv.record.rangeCut = false
      ∧ t.fsv.record.guard = t.dgd.state ∧ t.fsv.record.clockDegraded = t.sfe.degraded
      ∧ t.fsv.spanBase = 0 ∧ t.fsv.hold = 0 ∧ t.fsv.lastV = none ∧ t.fsv.line = .stopped
      ∧ t.fsv.armCount = 0 ∧ t.fsv.drift = false
    AfterStart s straps (fun t => filling t
      ∧ t.fsv.record.phiSource = .held ∧ t.fsv.record.vDep = t.pst.active.dep1.vc
      ∧ t.fsv.sigma = t.pst.active.carrierCode ∧ t.fsv.sigmaSource = .profile
      ∧ t.fsv.flush = false ∧ t.fsv.acc = ⟨0, 0, 0, 0⟩
      ∧ t.fsv.area = round (t.pst.active.bore ^ 2 * 51472) 65536
      ∧ t.dgd = ⟨.clear, 0, 0, false⟩)
    ∧ (s.pst.active.accepted = true → AfterRestart s p (fun t => filling t
      ∧ t.fsv.record.phiSource = (if s.fsv.flush then .flush else .held)
      ∧ t.fsv.record.vDep = s.pst.active.dep1.vc
      ∧ t.fsv.sigma = s.fsv.sigma ∧ t.fsv.sigmaSource = s.fsv.sigmaSource
      ∧ t.fsv.flush = s.fsv.flush ∧ t.fsv.acc = s.fsv.acc ∧ t.fsv.area = s.fsv.area
      ∧ t.dgd = s.dgd))

/-- R127, R118, R117, R114, R128: the totals and the pulse unit after a POR, an NRST and a RESTART. The
model's choice: a POR is taken in any power state and cuts a write short (assumption 33). The model's
reading: the order and widths of the items under a checkpoint's CRC-16 (assumption 11). -/
def Obligations.TotalsAndPulseAfterReset : Prop :=
  ∀ (straps : PerPort StrapPair) (p : Port) (s : State),
    (∃ t, exec (.powerOnReset straps) s = .next t
      ∧ t.tot.rate = t.pst.active.fs ∧ t.tot.checkpoint = 0 ∧ t.tot.clearPending = false
      ∧ t.pls = ⟨0, 0, 0, .idle, t.pst.active.pulseWidth, 0, false⟩
      ∧ (∀ c, totalsAfterCut s.pst.nv = some c → Restorable c →
          t.tot.volume = c.volume.toNat ∧ t.tot.solids = c.solids.toNat
          ∧ t.tot.volumeResidue = c.volumeResidue * t.pst.active.fs / c.rate
          ∧ t.tot.solidsResidue = c.solidsResidue * t.pst.active.fs / c.rate)
      ∧ ((∀ c, totalsAfterCut s.pst.nv = some c → ¬ Restorable c) →
          t.tot.volume = 0 ∧ t.tot.solids = 0 ∧ t.tot.volumeResidue = 0 ∧ t.tot.solidsResidue = 0
          ∧ ⟨⟨.totalizer, .totalsLost⟩, 0, 0, 1, false⟩ ∈ t.efu.faults))
    ∧ (s.power = .held → ∃ t, exec (.nrstReleased straps) s = .next t
      ∧ t.tot = ⟨s.tot.volume, s.tot.volumeResidue * t.pst.active.fs / s.tot.rate, s.tot.solids,
          s.tot.solidsResidue * t.pst.active.fs / s.tot.rate, t.pst.active.fs, 0, false⟩
      ∧ t.pls = ⟨0, 0, 0, .idle, t.pst.active.pulseWidth, 0, false⟩
      ∧ t.pst.nv.writing = some (.totals (checkpointOf t.tot.volume t.tot.volumeResidue t.tot.solids
          t.tot.solidsResidue t.tot.rate)))
    ∧ AfterRestart s p (fun t => t.tot = s.tot ∧ t.pls = s.pls)

/-- R148, R149, R147, R129: the profile store after each kind of reset, with the defaults that a load takes
where the region holds no acceptable profile. The model's choice: a POR is taken in any power state and cuts
a write short (assumption 33). The model's reading: the order and widths of the values under a profile's
CRC-16 (assumption 11). -/
def Obligations.StoreAfterReset : Prop :=
  ∀ (straps : PerPort StrapPair) (p : Port) (s : State),
    AfterStart s straps (fun t =>
      t.pst.staging = t.pst.active ∧ t.pst.claim = none ∧ t.pst.commitPending = false
      ∧ t.pst.nv.waiting = []
      ∧ t.pst.nv.profileRegion = profileAfterCut s.pst.nv
      ∧ t.pst.nv.totalsRegion = totalsAfterCut s.pst.nv
      ∧ (∀ x, profileAfterCut s.pst.nv = some x → Loadable x → t.pst.active = x.profile
          ∧ ∀ e ∈ t.efu.faults, e.key ≠ ⟨.region .profile, .profileLost⟩)
      ∧ ((∀ x, profileAfterCut s.pst.nv = some x → ¬ Loadable x) →
          t.pst.active = Profile.default ∧ IsDefault t.pst.active
          ∧ ⟨⟨.region .profile, .profileLost⟩, 0, 0, 1, false⟩ ∈ t.efu.faults))
    ∧ (∃ t, exec (.powerOnReset straps) s = .next t ∧ t.pst.nv.writing = none)
    ∧ AfterRestart s p (fun t => t.pst = s.pst)

/-- R167, R168, R178, R194, R179: the reports, the capture unit and the ports after each kind of reset. The
model's choice: the straps are operands of the starts (assumption 30), and a POR is taken in any power state
(assumption 33). -/
def Obligations.ReportsCaptureAndPortsAfterReset : Prop :=
  ∀ (straps : PerPort StrapPair) (p : Port) (s : State),
    AfterStart s straps (fun t =>
      (∀ q, t.efu.ports.get q = ⟨0, 0, 0, false⟩)
      ∧ (∀ e ∈ t.efu.faults, (e.key = ⟨.region .profile, .profileLost⟩
          ∨ e.key = ⟨.totalizer, .totalsLost⟩) ∧ e = ⟨e.key, 0, 0, 1, false⟩)
      ∧ t.efu.full = false
      ∧ t.efu.stats.toList = List.replicate 37 0
      ∧ t.cap = ⟨none, .idle, none, none, none, [], 0, false⟩
      ∧ ∀ q, t.mpt.get q = ⟨speedOf (straps.get q), .waitIdle, 0, [], .free, []⟩)
    ∧ AfterRestart s p (fun t =>
      OnlyChanges [.sfe, .xcr, .stk, .fsv, .cap, .mpt] s t
      ∧ (s.cap.state = .armed ∨ s.cap.state = .filling →
          t.cap = ⟨none, .idle, none, none, none, [], 0, false⟩)
      ∧ (s.cap.state = .idle ∨ s.cap.state = .full → t.cap = s.cap))

/-- R98, R111, R122, R155, R167, R194, R195: what a part held in reset and a part without power show on
their lines; R116 and R147: what is left of a write. The totals and the profile in use stand. The model's
reading: what happens at NRST's assertion and what at its release (assumption 31), the fields an unpowered
part keeps (assumption 21), and the strobes' fall (assumption 6). -/
def Obligations.ResetHeldAndPowerLost : Prop :=
  ∀ s : State,
    let silent := fun t : State =>
      t.dgd.trip = false ∧ t.pls.pulse = false ∧ (∀ p, (t.efu.ports.get p).atn = false)
      ∧ (∀ r, t.sfe.strobe.get r = false) ∧ t.sfe.frame = none
      ∧ (∀ p, (t.mpt.get p).tx = .free ∧ (t.mpt.get p).rx = .waitIdle
        ∧ (t.mpt.get p).response = [] ∧ (t.mpt.get p).buffer = [])
      ∧ t.pst.nv = ⟨none, [], profileAfterCut s.pst.nv, totalsAfterCut s.pst.nv⟩
      ∧ t.pst.active = s.pst.active ∧ t.tot = s.tot
    (s.power ≠ .off → ∃ t, exec .nrstAsserted s = .next t ∧ t.power = .held ∧ silent t
      ∧ t.dgd = ⟨.clear, 0, 0, false⟩ ∧ t.efu.faults = [] ∧ t.efu.full = false
      ∧ OnlyChanges [.power, .sfe, .dgd, .pls, .pst, .efu, .mpt] s t)
    ∧ (∃ t, exec .powerLoss s = .next t ∧ t.power = .off ∧ silent t
      ∧ OnlyChanges [.power, .sfe, .dgd, .pls, .pst, .efu, .mpt] s t)

/-! ### The sample front end -/

namespace Sys2Proof.Claim

/-- What a ring returned: its code when the seventeen code and parity bits hold an odd number of ones, and
a parity error otherwise (R1). -/
def replyOf (code : BitVec 16) (parity : Bool) : Reply :=
  if ((List.range 16).countP (code.getLsbD ·) + (if parity then 1 else 0)) % 2 = 1 then .good code.toNat
  else .parityError

/-- A configured ring (spec 0.5). -/
def Configured (s : State) (r : Ring) : Prop := r.num < s.pst.active.ringCount

/-- A ring is live: configured and not FAILED (R13, R23). -/
def live (s : State) (r : Ring) : Bool :=
  decide (r.num < s.pst.active.ringCount) && decide ((s.sfe.rings.get r).health ≠ .failed)

/-- The code a frame uses for a ring (R3). -/
def usedCode (x : RingSense) (reply : Option Reply) : Nat :=
  match reply with
  | some (.good c) => c
  | _ => x.lastGood

/-- The sample is substituted (R3). -/
def Substituted (reply : Option Reply) : Prop := ∀ c, reply ≠ some (.good c)

/-- The sample is saturated (R3). -/
def Saturated (reply : Option Reply) : Prop := reply = some (.good 0) ∨ reply = some (.good 65535)

/-- The running mean of a ring after a frame: seeded at its first sample (R4). -/
def newMean (p : Profile) (reply : Option Reply) (x : RingSense) : Int :=
  let c : Int := usedCode x reply
  if x.seeded then x.mean + (256 * c - x.mean) / 2 ^ p.meanShift else 256 * c

/-- The detrended sample of a frame, with the mean rounded, halves up (R5). -/
def newSample (p : Profile) (reply : Option Reply) (x : RingSense) : Int :=
  max (-32767) (min 32767 ((usedCode x reply : Int) - (newMean p reply x + 128) / 256))

/-- What a configured ring `x` is as `y` once it has stored the sample of the frame at `index`: the code used,
the mean and the sample in front of its history. For a frame whose index follows the last one, the history
answers the new sample for that index, what it answered before for the 2,047 indices below it, and 0 for
every other (R3 to R6). -/
def Stored (p : Profile) (reply : Option Reply) (index last : Index) (x y : RingSense) : Prop :=
  let d := newSample p reply x
  y.lastGood = usedCode x reply ∧ (y.mean : Int) = newMean p reply x ∧ y.seeded = true
  ∧ y.hist = d :: x.hist.take 2047
  ∧ (index = last + 1 → ∀ i : Index,
      histAt index y.hist i
        = if i = index then d
          else if (index - i).toNat < 2048 then histAt last x.hist i
          else 0)

/-- The three tallies of a ring once the sample of a frame is counted in them (R3, R5, R7). -/
def Tallied (p : Profile) (reply : Option Reply) (x : RingSense) (z : Tally) : Prop :=
  (Substituted reply → z.missing = x.tally.missing + 1)
  ∧ (¬ Substituted reply → z.missing = x.tally.missing)
  ∧ (Saturated reply → z.saturated = x.tally.saturated + 1)
  ∧ (¬ Saturated reply → z.saturated = x.tally.saturated)
  ∧ z.energy = x.tally.energy + (newSample p reply x).natAbs ^ 2

/-- The two sample counters of a configured ring after a frame (R3, R164). -/
def SampleCounted (r : Ring) (reply : Option Reply) (c d : Stats) : Prop :=
  (Substituted reply → d.substituted.get r = plus (c.substituted.get r) 1)
  ∧ (¬ Substituted reply → d.substituted.get r = c.substituted.get r)
  ∧ (Saturated reply → d.saturated.get r = plus (c.saturated.get r) 1)
  ∧ (¬ Saturated reply → d.saturated.get r = c.saturated.get r)

/-- A frame that closes the window. -/
def AtBoundary (fr : Frame) (s : State) : Prop :=
  FrameOpen fr s ∧ s.sfe.windowPos + 1 = s.pst.active.n

/-- A frame that closes the window, with no geometry commit waiting for the boundary (R143). -/
def Closes (fr : Frame) (s : State) : Prop :=
  AtBoundary fr s
  ∧ (s.pst.commitPending = true → s.pst.staging.fs = s.pst.active.fs ∧ s.pst.staging.n = s.pst.active.n
    ∧ s.pst.staging.ringCount = s.pst.active.ringCount)

end Sys2Proof.Claim

/-- R1, R2: a strobed frame takes the next index and raises the strobes of the configured rings; a strobe
while a frame is open does not arise and changes nothing (the model's choice, assumption 2). R1, R3: a
ring's first reply to the open frame is held until every configured ring has replied; the last one closes
the frame as its deadline would (the model's reading, assumption 4). A second reply of a ring and a reply
of a ring that is not configured are ignored (the model's reading, assumption 5). A reply is judged by its
parity alone (the model's reading, assumption 38). -/
def Obligations.FrameStrobeAndReply : Prop :=
  (∀ s : State, s.power = .running →
    (s.sfe.frame = none → ∃ t, exec .frameStrobe s = .next t ∧ OnlyChanges [.sfe] s t
      ∧ t.sfe.frame = some ⟨s.sfe.nextIndex, PerRing.fill none⟩
      ∧ t.sfe.nextIndex.toNat = (s.sfe.nextIndex.toNat + 1) % 2 ^ 32
      ∧ (∀ r, t.sfe.strobe.get r = decide (r.num < s.pst.active.ringCount))
      ∧ t.sfe = { s.sfe with frame := t.sfe.frame, nextIndex := t.sfe.nextIndex,
                             strobe := t.sfe.strobe })
    ∧ (∀ fr, s.sfe.frame = some fr → exec .frameStrobe s = .next s))
  ∧ ∀ (r : Ring) (code : BitVec 16) (parity : Bool) (fr : Frame) (s : State), FrameOpen fr s →
    let held : State := { s with sfe := { s.sfe with
      frame := some { fr with replies := fr.replies.set r (some (replyOf code parity)) } } }
    (Configured s r → fr.replies.get r = none →
      (∃ x, x ≠ r ∧ Configured s x ∧ fr.replies.get x = none) →
      exec (.ringReply r code parity) s = .next held)
    ∧ (Configured s r → fr.replies.get r = none →
      (∀ x, x ≠ r → Configured s x → fr.replies.get x ≠ none) →
      exec (.ringReply r code parity) s = exec .replyDeadline held)
    ∧ (¬ Configured s r ∨ fr.replies.get r ≠ none → exec (.ringReply r code parity) s = .next s)

/-- R3 to R8, R164: what a frame stores and counts for every ring. R48, R51: where it does not close the
window, the density proxy -x of each live ring goes to that ring's detector and to no other, runts and long
slugs are counted, and the detections are then handled in ring order, each as DetectionHandled says; a frame
that closes it does the same before the boundary, as TrackerBoundaryWork says. R14, R15: at a geometry commit
the last good codes and the counters are those of the frame, and the history is flushed. The model's reading:
the history is a list, newest first (assumption 7), handled with the frame's replies (assumption 4). -/
def Obligations.FrameStored : Prop :=
  (∀ (fr : Frame) (s : State), FrameOpen fr s → s.sfe.windowPos + 1 ≠ s.pst.active.n →
    ∃ t, exec .replyDeadline s = .next t ∧ OnlyChanges [.sfe, .stk, .efu, .cap] s t
      ∧ t.sfe.frame = none ∧ t.sfe.lastIndex = fr.index ∧ t.sfe.nextIndex = s.sfe.nextIndex
      ∧ t.sfe.windowPos = s.sfe.windowPos + 1 ∧ t.sfe.fill = min (s.sfe.fill + 1) 2048
      ∧ t.sfe.ready = s.sfe.ready ∧ t.sfe.clock = s.sfe.clock ∧ t.sfe.stable = s.sfe.stable
      ∧ t.sfe.degraded = s.sfe.degraded
      ∧ (∀ r, ¬ Configured s r → t.sfe.rings.get r = s.sfe.rings.get r
        ∧ t.efu.stats.substituted.get r = s.efu.stats.substituted.get r
        ∧ t.efu.stats.saturated.get r = s.efu.stats.saturated.get r)
      ∧ (let out := fun r =>
          if live s r then
            detectorStep s.pst.active (s.stk.rings.get r).theta fr.index
              (-((t.sfe.rings.get r).hist.headD 0)) (s.stk.rings.get r).detector
          else ((s.stk.rings.get r).detector, .nothing)
        let counted := fun what => Ring.all.countP fun r => decide ((out r).2 = what)
        let base : State := { s with
          sfe := t.sfe
          stk := { s.stk with rings := s.stk.rings.map fun r x => { x with detector := (out r).1 } }
          efu := { s.efu with stats := { s.efu.stats with
            substituted := t.efu.stats.substituted
            saturated := t.efu.stats.saturated
            runts := bump (counted .runt) s.efu.stats.runts
            long := bump (counted .long) s.efu.stats.long } } }
        (∀ r, (t.stk.rings.get r).detector = (out r).1
          ∧ (t.stk.rings.get r).theta = (s.stk.rings.get r).theta
          ∧ (t.stk.rings.get r).quiet = (s.stk.rings.get r).quiet)
        ∧ t.efu.stats.runts = bump (counted .runt) s.efu.stats.runts
        ∧ t.efu.stats.long = bump (counted .long) s.efu.stats.long
        ∧ t = Ring.all.foldl (fun u r => match (out r).2 with
            | .detection onset peak width => u.detection r onset peak width
            | _ => u) base)
      ∧ ∀ r, Configured s r →
        let x := s.sfe.rings.get r
        let y := t.sfe.rings.get r
        let reply := fr.replies.get r
        Stored s.pst.active reply fr.index s.sfe.lastIndex x y
          ∧ Tallied s.pst.active reply x y.tally
          ∧ SampleCounted r reply s.efu.stats t.efu.stats
          ∧ y.closed = x.closed ∧ y.health = x.health ∧ y.badRun = x.badRun ∧ y.goodRun = x.goodRun)
  ∧ ∀ (fr : Frame) (s : State), AtBoundary fr s →
    ∃ t, exec .replyDeadline s = .next t
      ∧ t.sfe.frame = none ∧ t.sfe.lastIndex = fr.index ∧ t.sfe.nextIndex = s.sfe.nextIndex
      ∧ (∀ r, ¬ Configured s r → (t.sfe.rings.get r).lastGood = (s.sfe.rings.get r).lastGood
        ∧ t.efu.stats.substituted.get r = s.efu.stats.substituted.get r
        ∧ t.efu.stats.saturated.get r = s.efu.stats.saturated.get r)
      ∧ (∀ r, Configured s r →
        (t.sfe.rings.get r).lastGood = usedCode (s.sfe.rings.get r) (fr.replies.get r)
        ∧ SampleCounted r (fr.replies.get r) s.efu.stats t.efu.stats)
      ∧ (Closes fr s → t.sfe.fill = min (s.sfe.fill + 1) 2048
        ∧ (∀ r, ¬ Configured s r → t.sfe.rings.get r = s.sfe.rings.get r)
        ∧ ∀ r, Configured s r → Stored s.pst.active (fr.replies.get r) fr.index s.sfe.lastIndex
            (s.sfe.rings.get r) (t.sfe.rings.get r))

namespace Sys2Proof.Claim

/-- The table of R12: how health and runs move on a bad or a good window. -/
def HealthMoves (bad : Prop) (x y : RingSense) : Prop :=
  (x.health = .healthy → ¬ bad → y.health = .healthy ∧ y.badRun = 0 ∧ y.goodRun = 0)
  ∧ (x.health = .healthy → bad → y.health = .suspect ∧ y.badRun = 1 ∧ y.goodRun = 0)
  ∧ (x.health = .suspect → bad → x.badRun + 1 < 3 →
      y.health = .suspect ∧ y.badRun = x.badRun + 1 ∧ y.goodRun = 0)
  ∧ (x.health = .suspect → bad → 3 ≤ x.badRun + 1 →
      y.health = .failed ∧ y.badRun = 0 ∧ y.goodRun = 0)
  ∧ (x.health = .suspect → ¬ bad → x.goodRun + 1 < 4 →
      y.health = .suspect ∧ y.badRun = 0 ∧ y.goodRun = x.goodRun + 1)
  ∧ (x.health = .suspect → ¬ bad → 4 ≤ x.goodRun + 1 →
      y.health = .healthy ∧ y.badRun = 0 ∧ y.goodRun = 0)
  ∧ (x.health = .failed → ¬ bad → x.goodRun + 1 < 4 →
      y.health = .failed ∧ y.goodRun = x.goodRun + 1)
  ∧ (x.health = .failed → ¬ bad → 4 ≤ x.goodRun + 1 → y.health = .healthy ∧ y.goodRun = 0)
  ∧ (x.health = .failed → bad → y.health = .failed ∧ y.goodRun = 0)

/-- The history is ready at the boundary that a frame brings (R10). -/
def ReadyAt (s : State) : Prop :=
  s.sfe.ready = true ∨ 2048 - s.pst.active.n ≤ min (s.sfe.fill + 1) 2048

/-- The boundary from `s` to `t` gives a completion without pairs: the history is ready, the table just
built is empty, and no correlation is skipped past (R29, R31, R33, R34). -/
def EmptyCompletion (s t : State) : Prop :=
  ReadyAt s ∧ (∀ k, t.xcr.table.get k = none) ∧ ∀ f, s.xcr.state ≠ .running f

/-- What one recording, or one report of a condition that held, does to the fault map at the boundary from
`s` to `t` (R159 to R161): an entry with the key takes the boundary's window number and counts on; a key
without one gains one, unless the map is full. -/
def Noted (active : Bool) (key : FaultKey) (s t : State) : Prop :=
  let w := s.xcr.windowNumber + 1
  (∀ e ∈ s.efu.faults, e.key = key →
    { e with last := w, occurrences := min (e.occurrences + 1) 65535, active := active }
      ∈ t.efu.faults)
  ∧ ((∀ e ∈ s.efu.faults, e.key ≠ key) →
    ⟨key, w, w, 1, active⟩ ∈ t.efu.faults
      ∨ (12 ≤ t.efu.faults.length ∧ t.efu.full = true ∧ ∀ e ∈ t.efu.faults, e.key ≠ key))

/-- What one condition report of the boundary from `s` to `t` does to the fault map (R160): its entry is
active exactly when the condition held. -/
def Reported (key : FaultKey) (holds : Prop) (s t : State) : Prop :=
  (holds → Noted true key s t)
  ∧ (¬ holds →
    (∀ e ∈ s.efu.faults, e.key = key → { e with active := false } ∈ t.efu.faults)
    ∧ ((∀ e ∈ s.efu.faults, e.key ≠ key) → ∀ e ∈ t.efu.faults, e.key ≠ key))

end Sys2Proof.Claim

/-- R8 to R12, R19, R22, R7: the window boundary in the front end, with no geometry commit applied at it: a
commit that is no geometry commit changes nothing of it, and the closing window is judged by the N and
flatFloor that were active while it was open. The last closed tallies after any boundary are those of the
window just closed (R15), dropped for a ring that a geometry commit leaves out (R7), and the rings are judged
by them. R11, R19, R84, R160, R161: at every boundary, a commit's among them, each condition is reported to
the fault map; the reports of a ring that a geometry commit leaves out are not spoken of. FULL stays set, is
newly set only on a map of twelve entries, and FAULT_MAP_FULL is posted when it is. The model's reading: the
order of the blocks at a boundary (assumption 8), and which drift mark is reported beside a completion
without pairs (assumption 9). -/
def Obligations.BoundaryGradesRings : Prop :=
  (∀ (fr : Frame) (s : State), Closes fr s →
    ∃ t, exec .replyDeadline s = .next t
      ∧ t.sfe.windowPos = 0 ∧ (t.sfe.ready = true ↔ ReadyAt s)
      ∧ t.xcr.windowNumber = s.xcr.windowNumber + 1
      ∧ t.efu.stats.windowsClosed = plus s.efu.stats.windowsClosed 1
      ∧ (s.sfe.clock = .fallback → s.sfe.stable = 1024 → t.sfe.clock = .crystal ∧ t.sfe.stable = 0)
      ∧ (s.sfe.clock = .crystal ∨ s.sfe.stable ≠ 1024 →
          t.sfe.clock = s.sfe.clock ∧ t.sfe.stable = s.sfe.stable)
      ∧ (∀ r, ¬ Configured s r → t.sfe.rings.get r = s.sfe.rings.get r)
      ∧ ∀ r, Configured s r →
        let x := s.sfe.rings.get r
        let y := t.sfe.rings.get r
        let bad := s.pst.active.n / 16 < y.closed.saturated ∨ s.pst.active.n / 16 < y.closed.missing
          ∨ y.closed.energy < s.pst.active.flatFloor * s.pst.active.n
        y.tally = ⟨0, 0, 0⟩ ∧ Tallied s.pst.active (fr.replies.get r) x y.closed ∧ HealthMoves bad x y
        ∧ (x.health = .suspect → y.health = .failed →
            ∀ p, hasKind (t.efu.ports.get p).posted .ringFailed = true)
        ∧ (x.health = .failed → y.health = .healthy →
            ∀ p, hasKind (t.efu.ports.get p).posted .ringRestored = true))
  ∧ ∀ (fr : Frame) (s : State), AtBoundary fr s →
    ∃ t, exec .replyDeadline s = .next t
      ∧ (∀ r, Configured s r → (t.sfe.rings.get r).tally = ⟨0, 0, 0⟩
        ∧ (r.num < t.pst.active.ringCount →
          Tallied s.pst.active (fr.replies.get r) (s.sfe.rings.get r) (t.sfe.rings.get r).closed)
        ∧ (t.pst.active.ringCount ≤ r.num → (t.sfe.rings.get r).closed = ⟨0, 0, 0⟩))
      ∧ (∀ r, Configured s r → r.num < t.pst.active.ringCount →
          let y := (t.sfe.rings.get r).closed
          Reported ⟨.ring r, .sampleSaturated⟩ (s.pst.active.n / 16 < y.saturated) s t
          ∧ Reported ⟨.ring r, .sampleMissing⟩ (s.pst.active.n / 16 < y.missing) s t
          ∧ Reported ⟨.ring r, .signalFlat⟩ (y.energy < s.pst.active.flatFloor * s.pst.active.n) s t)
      ∧ (∀ r, ¬ Configured s r → ∀ k ∈ [FaultKind.sampleSaturated, .sampleMissing, .signalFlat],
          Reported ⟨.ring r, k⟩ False s t)
      ∧ Reported ⟨.clock, .clockFallback⟩ (t.sfe.clock = .fallback) s t
      ∧ (¬ EmptyCompletion s t → Reported ⟨.carrier, .carrierDrift⟩ (s.fsv.drift = true) s t)
      ∧ (Reported ⟨.carrier, .carrierDrift⟩ (s.fsv.drift = true) s t
        ∨ Reported ⟨.carrier, .carrierDrift⟩ (t.fsv.drift = true) s t)
      ∧ (s.efu.full = true → t.efu.full = true)
      ∧ (t.efu.full = true → s.efu.full = true ∨ 12 ≤ t.efu.faults.length)
      ∧ FullPosted s t

/-- R18, R19: the crystal fails, and the stable time is reached. The model's choice: the end of the stable
time told on the crystal changes nothing (assumption 2), and a failure found while a frame's replies are
awaited switches the clock source at once, with the frame open (assumption 36). -/
def Obligations.ClockChanges : Prop :=
  ∀ s : State, s.power = .running →
    (s.sfe.clock = .crystal → ∃ t, exec .crystalFailure s = .next t
      ∧ OnlyChanges [.sfe, .efu] s t ∧ Posted [.clockFallback] s t
      ∧ t.sfe = { s.sfe with clock := .fallback, stable := 0, degraded := true })
    ∧ (s.sfe.clock = .fallback →
      exec .crystalFailure s = .next { s with sfe := { s.sfe with stable := 0 } })
    ∧ (s.sfe.clock = .fallback →
      exec .stableTimeReached s = .next { s with sfe := { s.sfe with stable := 1024 } })
    ∧ (s.sfe.clock = .crystal → exec .stableTimeReached s = .next s)

namespace Sys2Proof.Claim

/-- Every ring that is not configured is HEALTHY, with its last closed tallies 0 (R7, R13, R21), and, by the
model's choice (assumption 18), unseeded with its runs 0, as R14 leaves the configured rings. -/
def UnconfiguredAtRest (s : State) : Prop :=
  ∀ r, ¬ Configured s r →
    let x := s.sfe.rings.get r
    x.health = .healthy ∧ x.badRun = 0 ∧ x.goodRun = 0 ∧ x.seeded = false ∧ x.closed = ⟨0, 0, 0⟩

end Sys2Proof.Claim

/-- R21 with the widths of R187: READ_HEALTH. A ring that is not configured is reported HEALTHY, with runs,
mean code and tallies 0, by the invariant that TrackerAndRingsKept states (R7, R13; its runs and mean code by
assumption 18). The model's reading: the layout of the payload (assumption 15). -/
def Obligations.ReadHealth : Prop :=
  ∀ (p : Port) (s : State), Free p s →
    ∃ t payload, exec (.readHealth p) s = .next t ∧ OnlyChanges [.mpt] s t
      ∧ Answered p 0x14 .ok payload s t ∧ payload.length = 83
      ∧ At payload 0 1 s.pst.active.ringCount
      ∧ At payload 1 1 (match s.sfe.clock with | .crystal => 0 | .fallback => 1)
      ∧ At payload 2 2 s.sfe.stable ∧ At payload 4 2 s.sfe.fill ∧ At payload 6 1 (ofFlag s.sfe.ready)
      ∧ At payload 7 4 s.sfe.lastIndex.toNat
      ∧ ∀ r, let x := s.sfe.rings.get r
        let o := 11 + 18 * r.num
        At payload o 1 (if r.num < s.pst.active.ringCount then 1 else 0)
        ∧ At payload (o + 1) 1 (match x.health with | .healthy => 0 | .suspect => 1 | .failed => 2)
        ∧ At payload (o + 2) 1 x.badRun ∧ At payload (o + 3) 1 x.goodRun
        ∧ At payload (o + 4) 2 x.lastGood
        ∧ At payload (o + 6) 2 (if x.seeded then round x.mean 256 else 0)
        ∧ At payload (o + 8) 2 x.closed.missing ∧ At payload (o + 10) 2 x.closed.saturated
        ∧ At payload (o + 12) 6 x.closed.energy
        ∧ (UnconfiguredAtRest s → ¬ Configured s r →
          At payload o 4 0 ∧ At payload (o + 6) 2 0 ∧ At payload (o + 8) 10 0)

/-! ### The correlator -/

namespace Sys2Proof.Claim

/-- `x / y` rounded up. -/
def ceil (x y : Nat) : Nat := (x + y - 1) / y

/-- The sum of the gaps that two rings span (R24). -/
def gapsBetween (p : Profile) (up down : Ring) : Nat :=
  (([(0, p.spacingAB), (1, p.spacingBC), (2, p.spacingCD)].filter
    fun g => decide (up.num ≤ g.1) && decide (g.1 < down.num)).map (·.2)).sum

/-- A proposition about states that every step keeps. -/
def KeptByEveryStep (inv : State → Prop) : Prop :=
  ∀ s t : State, inv s → step s = .next t → inv t

/-- A correlation in flight works on windows of at most 512 samples, over pairs whose lag ranges are not
empty and start at 1 or above (R25, R26, R29). -/
def InFlightFits (s : State) : Prop :=
  ∀ f, s.xcr.state = .running f ∨ s.xcr.state = .late f →
    f.n ≤ 512 ∧ ∀ k e, f.pairs.get k = some e → 1 ≤ e.lmin ∧ e.lmin ≤ e.lmax

/-- The history entry of a ring at a sample index, as R6 answers it. -/
def sampleAt (sfe : Sfe) (r : Ring) (i : Index) : Int := histAt sfe.lastIndex (sfe.rings.get r).hist i

/-- The sample index of place `j` of the window that a correlation works on: t - N + 1 + j (R30). -/
def indexOf (f : InFlight) (j : Nat) : Index := f.t - BitVec.ofNat 32 f.n + 1 + BitVec.ofNat 32 j

/-- R(k): the sum of u[t - N + 1 - k + j] × d[t - N + 1 + j] over j = 0 to N - 1, on the histories as they
stand (R30). -/
def sumAt (sfe : Sfe) (f : InFlight) (e : PairEntry) (k : Nat) : Int :=
  ((List.range f.n).map fun j =>
    sampleAt sfe e.up (indexOf f j - BitVec.ofNat 32 k) * sampleAt sfe e.down (indexOf f j)).sum

/-- The sum of the squares of a ring's N entries that end `k` samples before t (R41). -/
def energyAt (sfe : Sfe) (f : InFlight) (r : Ring) (k : Nat) : Nat :=
  ((List.range f.n).map fun j => (sampleAt sfe r (indexOf f j - BitVec.ofNat 32 k)).natAbs ^ 2).sum

end Sys2Proof.Claim

/-- R23 to R26 with R30: what the pair table of any chain holds under an acceptable profile. A slot holds
the slot's two neighbours of the chain, or it is absent since there are no such two or their pair is
unformable, and only a bridged pair can be unformable. So every step keeps the window and the lag ranges of
a correlation in flight within their bounds (R29). -/
def Obligations.PairTableOfChain : Prop :=
  KeptByEveryStep (fun s => s.pst.Wf ∧ InFlightFits s)
  ∧ ∀ (p : Profile) (live : Ring → Bool) (k : Slot), p.accepted = true →
    (∀ r, live r = true → r.num < p.ringCount) →
    let chain := Ring.all.filter live
    let lmin := fun s : Nat => s * p.fs / p.vMax
    (∀ e, (buildTable p chain).get k = some e →
      chain[k.num]? = some e.up ∧ chain[k.num + 1]? = some e.down ∧ e.slot = k
      ∧ (e.bridged = true ↔ e.up.num + 1 < e.down.num)
      ∧ e.spacing = gapsBetween p e.up e.down
      ∧ e.lmin = lmin e.spacing
      ∧ 1 ≤ e.lmin ∧ e.lmin ≤ e.lmax ∧ e.lmax ≤ 2048 - 2 * p.n ∧ e.lmax - e.lmin + 1 ≤ 512
      ∧ (p.n + e.lmax - 1) + p.n < 2048
      ∧ (e.rangeCut = false → e.lmax = ceil (e.spacing * p.fs) p.vMin)
      ∧ (e.rangeCut = true → e.lmax < ceil (e.spacing * p.fs) p.vMin
        ∧ (e.lmax = 2048 - 2 * p.n ∨ e.lmax = e.lmin + 511)))
    ∧ ((buildTable p chain).get k = none → ∀ up down, chain[k.num]? = some up →
        chain[k.num + 1]? = some down →
        up.num + 1 < down.num ∧ (lmin (gapsBetween p up down) < 1
          ∨ 2048 - 2 * p.n ≤ lmin (gapsBetween p up down)))

namespace Sys2Proof.Claim

/-- A correlation in flight on a running part (R29, R33). -/
def InFlightNow (f : InFlight) (s : State) : Prop :=
  s.power = .running ∧ (s.xcr.state = .running f ∨ s.xcr.state = .late f)

/-- How many neighbours of a chain form no pair: their Lmin is below 1, or 2,048 - 2N or more (R25, R26). -/
def unformableIn (p : Profile) (chain : List Ring) : Nat :=
  (chain.zip chain.tail).countP fun x =>
    let lmin := gapsBetween p x.1 x.2 * p.fs / p.vMax
    decide (lmin < 1 ∨ 2048 - 2 * p.n ≤ lmin)

/-- The profile store once a commit that waits has been applied (R142). -/
def storeApplied (s : State) : Pst :=
  if s.pst.commitPending = true then
    { s.pst with
      active := s.pst.staging
      claim := none
      commitPending := false
      nv := s.pst.nv.queue (.profile (imageOf s.pst.staging)) }
  else s.pst

/-- The solver once a commit without a change of geometry to the profile `new` has been applied (R85, R89). -/
def solverApplied (new : Profile) (s : State) : Fsv :=
  let old := s.pst.active
  { s.fsv with
    sigma := if old.carrierCode = new.carrierCode then s.fsv.sigma else new.carrierCode
    sigmaSource := if old.carrierCode = new.carrierCode then s.fsv.sigmaSource else .profile
    area := if old.bore = new.bore then s.fsv.area else round (new.bore ^ 2 * 51472) 65536 }

/-- The pulse unit once a commit to the profile `new` has been applied (R124). -/
def pulseApplied (new : Profile) (s : State) : Pls :=
  let old := s.pst.active
  if old.pulseBasis = new.pulseBasis ∧ old.pulseWeight = new.pulseWeight then s.pls
  else ⟨0, 0, 0, .idle, s.pls.width, 0, false⟩

/-- The kind a trigger waits for (R170, R171). -/
def waitsOn : Trigger → Option EventKind
  | .immediate => none
  | .guardTripped => some .guardTripped
  | .velocityLost => some .velocityLost
  | .ringFailed => some .ringFailed
  | .slugDeparted => some .slugDeparted

/-- The capture unit is ARMED on a kind. -/
def ArmedOn (k : EventKind) (c : Cap) : Prop :=
  c.state = .armed ∧ ∃ x, c.trigger = some x ∧ waitsOn x = some k

/-- A completion without pairs at the boundary from `s` to `t` is a correlation completion in every respect
that other blocks see (R31): what CORRELATION_COMPLETION makes of `b`, the state at that boundary with a
correlation over no pair in flight, is `c`, and `t` is `c` but for what the boundary does after it. The
tracker's work and a pending clear come before or after it (assumption 9). -/
def PublishesWithoutPairs (s b c t : State) : Prop :=
  let new := t.pst.active
  let changed := decide (s.pst.active.thetaMin ≠ new.thetaMin ∨ s.pst.active.thetaMax ≠ new.thetaMax)
  let cleared : Tot := ⟨0, 0, 0, 0, s.tot.rate, 0, false⟩
  let checkpoint : NvJob := .totals (checkpointOf 0 0 0 0 s.tot.rate)
  (∃ f, InFlightNow f b ∧ f.window = s.xcr.windowNumber + 1 ∧ ∀ k, f.pairs.get k = none)
  ∧ exec .correlationCompletion b = .next c
  ∧ b.xcr.windowNumber = s.xcr.windowNumber + 1 ∧ t.xcr = c.xcr
  ∧ b.sfe = { t.sfe with degraded := s.sfe.degraded } ∧ t.sfe = c.sfe
  ∧ b.fsv = solverApplied new s ∧ t.fsv = c.fsv
  ∧ b.dgd = s.dgd ∧ t.dgd = c.dgd
  ∧ b.pls = pulseApplied new s ∧ t.pls = c.pls
  ∧ b.pst.active = new
  ∧ (s.tot.clearPending = false →
      b.tot = s.tot ∧ t.tot = c.tot ∧ b.pst = storeApplied s ∧ t.pst = c.pst)
  ∧ (s.tot.clearPending = true →
      (∀ p, hasKind (t.efu.ports.get p).posted .totalsCleared = true)
      ∧ ((b.tot = cleared ∧ t.tot = c.tot ∧ t.pst = c.pst
          ∧ b.pst = { storeApplied s with nv := b.pst.nv }
          ∧ (b.pst.nv = (storeApplied s).nv.queue checkpoint
            ∨ (s.pst.commitPending = true
              ∧ b.pst.nv = (s.pst.nv.queue checkpoint).queue (.profile (imageOf new)))))
        ∨ (b.tot = s.tot ∧ t.tot = cleared ∧ b.pst = storeApplied s
          ∧ t.pst = { c.pst with nv := c.pst.nv.queue checkpoint })))
  ∧ (s.pst.active.n ≠ 1 →
      ∃ u, exec .replyDeadline { s with sfe := { s.sfe with windowPos := 0 } } = .next u
        ∧ ((b.stk = u.stk ∧ t.stk = (State.trackerBoundary changed c).stk)
          ∨ (b.stk = (State.trackerBoundary changed
              { u with sfe := b.sfe, fsv := b.fsv, pst := b.pst }).stk ∧ t.stk = c.stk)))
  ∧ (¬ ArmedOn .slugDeparted s.cap → ¬ ArmedOn .ringFailed s.cap → b.cap = s.cap ∧ t.cap = c.cap)
  ∧ (∀ p, ∀ k ∈ [EventKind.recordPublished, .velocityLost, .guardWatch, .guardTripped, .guardRecovered,
        .pulseOverrun],
      hasKind (b.efu.ports.get p).posted k = hasKind (s.efu.ports.get p).posted k
      ∧ hasKind (t.efu.ports.get p).posted k = hasKind (c.efu.ports.get p).posted k)
  ∧ (∀ e, e.key = ⟨.pulseUnit, .pulseOverrun⟩ →
      (e ∈ b.efu.faults ↔ e ∈ s.efu.faults) ∧ (e ∈ t.efu.faults ↔ e ∈ c.efu.faults))
  ∧ CountsRecord t.fsv.record.status s.efu.stats t.efu.stats
  ∧ ∀ k p, s.cap.state = .filling → s.cap.owner = some p → s.cap.content = some (.correlogram k) →
      t.cap = { s.cap with
        state := .full, buffer := [], count := 0, empty := true
        header := s.cap.header.map fun h => { h with raw := none, corr := none } }
      ∧ hasKind (t.efu.ports.get p).posted .captureDone = true

end Sys2Proof.Claim

/-- R27, R29, R31, R33, R34, R36, R45, R159: what a boundary without a geometry commit does to the
correlation; a correlation that it begins works under the profile that it applies. R23, R26: the pair table
that every boundary builds, and the unformable pairs that it counts. R31, R73, R173: what a completion
without pairs publishes at a boundary without a geometry commit; the statements about CORRELATION_COMPLETION
say what it makes of the solver, guard, totals, pulse unit and capture, and CaptureAtCompletion speaks of a
capture ARMED on RING_FAILED. The model's reading: the order of the blocks at a boundary (assumption 8), that
of the tracker's work, a pending clear and the publication (assumption 9), a correlation in flight without a
ready history (assumption 34), the bytes under the CRC-16 of the queued writes (assumption 11), and the
width in use that a unit start by a commit keeps (assumption 35). -/
def Obligations.CorrelatorAtBoundary : Prop :=
  (∀ (fr : Frame) (s : State), Closes fr s →
    ∃ t, exec .replyDeadline s = .next t ∧ t.pst.active = (storeApplied s).active
      ∧ (∀ f, s.xcr.state = .running f →
          t.xcr.state = .late f ∧ t.xcr.results = s.xcr.results
          ∧ t.efu.stats.skipped = plus s.efu.stats.skipped 1
          ∧ t.efu.stats.completed = s.efu.stats.completed
          ∧ t.fsv = solverApplied t.pst.active s
          ∧ Noted false ⟨.correlator, .correlationLate⟩ s t)
      ∧ (∀ f, s.xcr.state = .late f →
          t.efu.stats.discardedLate = plus s.efu.stats.discardedLate 1
          ∧ Noted false ⟨.correlator, .correlationLate⟩ s t)
      ∧ (s.xcr.state = .idle ∨ (∃ f, s.xcr.state = .late f) →
          (ReadyAt s → (∃ k, t.xcr.table.get k ≠ none) →
            t.xcr.state = .running ⟨s.xcr.windowNumber + 1, fr.index, t.xcr.table, s.pst.active.n,
              s.pst.active.fs, t.pst.active.qMin⟩
            ∧ t.xcr.results = s.xcr.results ∧ t.efu.stats.completed = s.efu.stats.completed
            ∧ t.fsv = solverApplied t.pst.active s)
          ∧ (ReadyAt s → (∀ k, t.xcr.table.get k = none) →
            t.xcr.state = .idle ∧ (∀ k, t.xcr.results.get k = none)
            ∧ t.xcr.resultWindow = s.xcr.windowNumber + 1
            ∧ t.efu.stats.completed = plus s.efu.stats.completed 1
            ∧ t.fsv.record.window = s.xcr.windowNumber + 1)
          ∧ (¬ ReadyAt s → t.xcr.state = .idle ∧ t.xcr.results = s.xcr.results
            ∧ t.efu.stats.completed = s.efu.stats.completed ∧ t.fsv = solverApplied t.pst.active s)))
  ∧ ∀ (fr : Frame) (s : State), AtBoundary fr s →
    ∃ t, exec .replyDeadline s = .next t
      ∧ (let chain := Ring.all.filter (live t)
        t.xcr.table = buildTable t.pst.active chain
        ∧ t.efu.stats.unformable = plus s.efu.stats.unformable (unformableIn t.pst.active chain))
      ∧ (EmptyCompletion s t → t.pst.active.fs = s.pst.active.fs → t.pst.active.n = s.pst.active.n →
          t.pst.active.ringCount = s.pst.active.ringCount →
          t.fsv.record.vc = none ∧ ∃ b c, PublishesWithoutPairs s b c t)

/-- R44, R45, R73, R74, R20, R65, R80, R94, R115, R164: a completion publishes the result set of its window
and one flow record, counts it by its status, and the correlator is IDLE. The model's choice: the order within
a publication (assumption 28). The model's reading: the order and widths of the items under the CRC-16 of the
queued checkpoint (assumption 11). -/
def Obligations.CompletionPublishes : Prop :=
  ∀ (f : InFlight) (s : State), InFlightNow f s →
    ∃ t, exec .correlationCompletion s = .next t
      ∧ OnlyChanges [.sfe, .xcr, .stk, .fsv, .dgd, .tot, .pls, .pst, .efu, .cap] s t
      ∧ t.xcr.state = .idle ∧ t.xcr.resultWindow = f.window
      ∧ t.xcr.windowNumber = s.xcr.windowNumber ∧ t.xcr.table = s.xcr.table
      ∧ (∀ k, t.xcr.results.get k = ((f.pairs.get k).map fun e => s.sfe.pairResult f e))
      ∧ t.efu.stats.completed = plus s.efu.stats.completed 1
      ∧ (∀ k x v, t.xcr.results.get k = some x → x.verdict = .valid v →
          t.efu.stats.valid.get k = plus (s.efu.stats.valid.get k) 1)
      ∧ (∀ k, (∀ x v, t.xcr.results.get k = some x → x.verdict ≠ .valid v) →
          t.efu.stats.valid.get k = s.efu.stats.valid.get k)
      ∧ CountsRecord t.fsv.record.status s.efu.stats t.efu.stats
      ∧ (t.fsv.record.rangeCut = true ↔ ∃ k x, t.xcr.results.get k = some x ∧ x.rangeCut = true)
      ∧ t.fsv.record.window = f.window
      ∧ t.fsv.record.span = min 255 (f.window - s.fsv.spanBase).toNat
      ∧ t.fsv.spanBase = f.window ∧ t.fsv.record.status ≠ .filling
      ∧ t.fsv.record.clockDegraded = s.sfe.degraded
      ∧ t.sfe = { s.sfe with degraded := decide (s.sfe.clock = .fallback) }
      ∧ t.stk = { s.stk with sumDistance := 0, sumTransit := 0, sumCount := 0 }
      ∧ (∀ p, hasKind (t.efu.ports.get p).posted .recordPublished = true)
      ∧ (∀ p, hasKind (t.efu.ports.get p).posted .velocityLost
          = (hasKind (s.efu.ports.get p).posted .velocityLost
            || decide (t.fsv.record.status = .lost ∧ s.fsv.record.status ≠ .lost)))
      ∧ (s.tot.checkpoint + 1 < 64 → t.tot.checkpoint = s.tot.checkpoint + 1 ∧ t.pst = s.pst)
      ∧ (64 ≤ s.tot.checkpoint + 1 → t.tot.checkpoint = 0
        ∧ t.pst = { s.pst with nv := s.pst.nv.queue (.totals (checkpointOf t.tot.volume
            t.tot.volumeResidue t.tot.solids t.tot.solidsResidue t.tot.rate)) })

/-- R30, R37 to R43: the result of a pair, from the sums over the history entries that R6 answers. The peak
is the smallest lag of the range with the largest sum; the reasons are given in the order of the checks; the
offset needs no clamp and the transit is positive. -/
def Obligations.PairResultOfSums : Prop :=
  ∀ (sfe : Sfe) (f : InFlight) (e : PairEntry), f.n ≤ 512 → 1 ≤ e.lmin → e.lmin ≤ e.lmax →
    let x := sfe.pairResult f e
    let sum := sumAt sfe f e
    let eu := energyAt sfe f e.up x.kp
    let ed := energyAt sfe f e.down 0
    e.lmin ≤ x.kp ∧ x.kp ≤ e.lmax
    ∧ (∀ k, e.lmin ≤ k → k ≤ e.lmax → sum k ≤ sum x.kp)
    ∧ (∀ k, e.lmin ≤ k → k < x.kp → sum k < sum x.kp)
    ∧ (x.tau : Int) = 256 * x.kp + x.delta ∧ 128 ≤ x.tau ∧ x.q ≤ 1024
    ∧ -128 ≤ x.delta ∧ x.delta ≤ 128
    ∧ (sum x.kp ≤ 0 → x.verdict = .invalid .noPeak ∧ x.delta = 0 ∧ x.q = 0 ∧ x.energies = none)
    ∧ (0 < sum x.kp → x.energies = some (eu, ed)
      ∧ x.q = (if eu = 0 ∨ ed = 0 then 0
          else min 1024 (1024 * (sum x.kp).natAbs ^ 2 / (eu * ed))))
    ∧ (0 < sum x.kp → x.kp = e.lmin ∨ x.kp = e.lmax → x.verdict = .invalid .edge ∧ x.delta = 0)
    ∧ (0 < sum x.kp → x.kp ≠ e.lmin → x.kp ≠ e.lmax →
      let a := sum (x.kp - 1)
      let b := sum x.kp
      let c := sum (x.kp + 1)
      a - 2 * b + c < 0 ∧ x.delta = (128 * (a - c)).tdiv (a - 2 * b + c)
      ∧ (x.q < f.qMin → x.verdict = .invalid .lowQuality)
      ∧ (f.qMin ≤ x.q → x.verdict
          = .valid (min 20000 (round (e.spacing * 256 * f.fs) x.tau))))

namespace Sys2Proof.Claim

/-- The code of a ring (R188). -/
def ringCode : Ring → Int
  | .a => 0 | .b => 1 | .c => 2 | .d => 3

/-- The code of a slot. -/
def slotCode : Slot → Nat
  | .s0 => 0 | .s1 => 1 | .s2 => 2

end Sys2Proof.Claim

/-- R46 with R24, R44 and the widths of R187: READ_PAIRS. The model's reading: the layout of the payload
(assumption 15). -/
def Obligations.ReadPairs : Prop :=
  ∀ (p : Port) (s : State), Free p s →
    ∃ t payload, exec (.readPairs p) s = .next t ∧ OnlyChanges [.mpt] s t
      ∧ Answered p 0x11 .ok payload s t ∧ payload.length = 185
      ∧ At payload 0 1 (match s.xcr.state with | .idle => 0 | .running _ => 1 | .late _ => 2)
      ∧ AtOpt payload 1 4 (match s.xcr.state with
          | .idle => none
          | .running f => some (f.window.toNat : Int)
          | .late f => some (f.window.toNat : Int))
      ∧ At payload 6 4 s.xcr.windowNumber.toNat
      ∧ At payload 46 4 s.xcr.resultWindow.toNat
      ∧ ∀ k,
        (let o := 10 + 12 * slotCode k
         (s.xcr.table.get k = none → ∀ i < 12, At payload (o + i) 1 0)
         ∧ ∀ e, s.xcr.table.get k = some e →
          At payload o 1 1 ∧ At payload (o + 1) 1 (slotCode e.slot) ∧ At payload (o + 2) 1 (ringCode e.up)
          ∧ At payload (o + 3) 1 (ringCode e.down) ∧ At payload (o + 4) 1 (ofFlag e.bridged)
          ∧ At payload (o + 5) 2 e.spacing ∧ At payload (o + 7) 2 e.lmin ∧ At payload (o + 9) 2 e.lmax
          ∧ At payload (o + 11) 1 (ofFlag e.rangeCut))
        ∧ (let o := 50 + 45 * slotCode k
         (s.xcr.results.get k = none → ∀ i < 45, At payload (o + i) 1 0)
         ∧ ∀ x, s.xcr.results.get k = some x →
          At payload o 1 1 ∧ At payload (o + 1) 4 x.window.toNat ∧ At payload (o + 5) 1 (slotCode x.slot)
          ∧ At payload (o + 6) 1 (ringCode x.up) ∧ At payload (o + 7) 1 (ringCode x.down)
          ∧ At payload (o + 8) 2 x.spacing ∧ At payload (o + 10) 2 x.lmin ∧ At payload (o + 12) 2 x.lmax
          ∧ At payload (o + 14) 1 (ofFlag x.rangeCut) ∧ At payload (o + 15) 2 x.kp
          ∧ At payload (o + 17) 2 x.delta ∧ At payload (o + 19) 4 x.tau
          ∧ AtOpt payload (o + 23) 6 (x.energies.map fun y => (y.1 : Int))
          ∧ AtOpt payload (o + 30) 6 (x.energies.map fun y => (y.2 : Int))
          ∧ At payload (o + 37) 2 x.q
          ∧ (∀ v, x.verdict = .valid v →
              At payload (o + 39) 1 1 ∧ AtOpt payload (o + 40) 1 none
              ∧ AtOpt payload (o + 42) 2 (some (v : Int)))
          ∧ (∀ w, x.verdict = .invalid w →
              At payload (o + 39) 1 0
              ∧ AtOpt payload (o + 40) 1 (some (match w with
                  | .noPeak => 1 | .edge => 2 | .lowQuality => 3))
              ∧ AtOpt payload (o + 42) 2 none))

/-! ### The slug tracker -/

namespace Sys2Proof.Claim

/-- What a detector reports on samples of consecutive indices, with the detector after them. -/
def detect (p : Profile) (theta : Nat) : Index → List Int → Detector → Detector × List SlugEnd
  | _, [], x => (x, [])
  | i, d :: l, x =>
    let out := detectorStep p theta i d x
    let rest := detect p theta (i + 1) l out.1
    (rest.1, if out.2 = .nothing then rest.2 else out.2 :: rest.2)

end Sys2Proof.Claim

/-- R49 to R51: samples below the threshold leave a detector ARMED and report nothing; a run of the density
proxy from the threshold up to its fall below half of it is reported once, as a detection with its onset,
peak and width or as a runt, and a run that has not ended 4N samples after its onset is reported once as
long, however long it lasts: the detector is then in HOLDOFF until the fall, and reports nothing. -/
def Obligations.SlugRunReportedOnce : Prop :=
  ∀ (p : Profile) (theta : Nat) (i : Index) (first last : Int) (body : List Int),
    0 < p.n → p.n ≤ 512 → (theta : Int) ≤ first → (∀ d ∈ body, (theta : Int) ≤ 2 * d) →
    (body.length < 4 * p.n → 2 * last < theta →
      detect p theta i (first :: body ++ [last]) .armed
        = (.armed, [if p.minWidth ≤ body.length + 1 then
            .detection i (body.foldl max first).toNat (body.length + 1) else .runt]))
    ∧ (4 * p.n ≤ body.length → detect p theta i (first :: body) .armed = (.holdoff, [.long]))
    ∧ detect p theta i body .holdoff = (.holdoff, [])
    ∧ (2 * last < theta → detect p theta i (body ++ [last]) .holdoff = (.armed, []))
    ∧ ∀ quiet : List Int, (∀ d ∈ quiet, d < theta) → detect p theta i quiet .armed = (.armed, [])

namespace Sys2Proof.Claim

/-- The tracker's collections keep their capacities, and no two records share a tag (R57, R66). -/
def TrackerFits (s : State) : Prop :=
  s.stk.table.length ≤ 16 ∧ (s.stk.table.map (·.tag)).Nodup ∧ s.stk.departed.length ≤ 8

/-- Every threshold of a configured ring lies within the active profile's range (R53, R55). -/
def ThresholdsInRange (s : State) : Prop :=
  ∀ r, Configured s r → s.pst.active.thetaMin ≤ (s.stk.rings.get r).theta
    ∧ (s.stk.rings.get r).theta ≤ s.pst.active.thetaMax

end Sys2Proof.Claim

/-- R53, R55, R57, R58, R66, R67, R69: every step keeps the capacities of the tracker, its tags distinct, and
the thresholds of the configured rings within θmin to θmax. R7, R13, R21 with R4, R14, R15, R17: every step
keeps each ring that is not configured HEALTHY, with its last closed tallies 0. MODEL'S CHOICE (assumption
18): such a ring is also unseeded with its runs 0, since a flush treats every ring as R14 treats the
configured ones. -/
def Obligations.TrackerAndRingsKept : Prop :=
  KeptByEveryStep TrackerFits ∧ (KeptByEveryStep fun s => s.pst.Wf ∧ ThresholdsInRange s)
  ∧ KeptByEveryStep UnconfiguredAtRest

namespace Sys2Proof.Claim

/-- The first live ring downstream of a ring (R58, R61, R64). -/
def nextOf (s : State) (r : Ring) : Option Ring :=
  Ring.all.find? fun x => live s x && decide (r.num < x.num)

/-- The origin ring: the first of the chain (R56). -/
def originOf (s : State) : Option Ring := Ring.all.find? (live s)

/-- The expected interval of a record holds an onset, in the order of indices modulo 2³² (R2, R56). -/
def expects (x : SlugRecord) (onset : Index) : Bool :=
  decide ((x.eMin - onset).toInt ≤ 0) && decide (0 ≤ (x.eMax - onset).toInt)

/-- A record expects a detection: it is aimed at the ring and its interval holds the onset (R56). -/
def Matches (r : Ring) (onset : Index) (x : SlugRecord) : Prop := x.next = r ∧ expects x onset = true

/-- The velocity of the standing record, where an interval may rest on it (R59). -/
def usable (s : State) : Option Nat :=
  if s.fsv.record.status ≠ .filling ∧ s.fsv.record.status ≠ .lost
      ∧ s.pst.active.vMin ≤ s.fsv.record.v then some s.fsv.record.v
  else none

/-- A record aimed at a ring, its interval counted from its reference over the spacing from the ring `origin`
of that reference, on the velocity of the standing record or on the velocity range (R59, R60). -/
def aimed (s : State) (x : SlugRecord) (origin next : Ring) : SlugRecord :=
  let p := s.pst.active
  let d := gapsBetween p origin next * p.fs
  match usable s with
  | some v => { x with
      next := next
      basis := .velocity
      eMin := x.reference + BitVec.ofNat 32 (d * (100 - p.tol) / (100 * v))
      eMax := x.reference + BitVec.ofNat 32 (ceil (d * (100 + p.tol)) (100 * v)) }
  | none => { x with
      next := next
      basis := .range
      eMin := x.reference + BitVec.ofNat 32 (d / p.vMax)
      eMax := x.reference + BitVec.ofNat 32 (min (ceil d p.vMin) 2048) }

/-- What the trigger does to a unit that was ARMED in `s`, as `t` shows the part then: a correlogram waits
for a completion, a RAW copy begins with the latest 1,024 entries, the oldest first, and a RAW capture of a
ring that is not configured completes EMPTY (R171, R172, R174; a RAW copy's values are those its trigger finds,
assumption 26). -/
def Triggered (s t : State) : Prop :=
  let header := fun raw : Option RawHeader =>
    some (⟨t.xcr.windowNumber, t.sfe.lastIndex, raw, none⟩ : CapHeader)
  (∀ k, s.cap.content = some (.correlogram k) →
    t.cap = { s.cap with state := .filling, header := header none })
  ∧ (∀ r, s.cap.content = some (.raw r) → r.num < t.pst.active.ringCount →
    t.cap = { s.cap with
      state := .filling
      buffer := (List.range 1024).map fun i =>
        sampleAt t.sfe r (t.sfe.lastIndex - BitVec.ofNat 32 (1023 - i))
      header := header (some ⟨r, t.sfe.lastIndex, min 1024 t.sfe.fill⟩) })
  ∧ (∀ r, s.cap.content = some (.raw r) → t.pst.active.ringCount ≤ r.num →
    t.cap = { s.cap with
      state := .full, buffer := [], count := 0, empty := true, header := header none }
    ∧ ∀ p, s.cap.owner = some p → hasKind (t.efu.ports.get p).posted .captureDone = true)

/-- A slug record with an arrival, out of the table in `s`, completes in `t`: the sums and counters, and the
departed entry with its event and the capture it may trigger (R62, R66, R67, R171). -/
def Completes (x : SlugRecord) (s t : State) : Prop :=
  OnlyChanges [.stk, .efu, .cap] s t ∧ t.efu.faults = s.efu.faults ∧ t.efu.full = s.efu.full ∧
  ∀ a, x.arrivals.getLast? = some a →
    let p := s.pst.active
    let dist := gapsBetween p x.origin a.ring
    let transit := (a.onset - x.onset).toInt
    let vs := min 20000 (round (dist * p.fs) transit.toNat)
    let departs := 0 < transit ∧ 0 < vs ∧ 0 < p.stationDistance
    let timed := { s.stk with
      sumDistance := s.stk.sumDistance + dist
      sumTransit := s.stk.sumTransit + transit.toNat
      sumCount := s.stk.sumCount + 1 }
    let counted := { s.efu.stats with
      slugsCompleted := plus s.efu.stats.slugsCompleted 1
      transitSum := plus s.efu.stats.transitSum transit.toNat
      transitCount := plus s.efu.stats.transitCount 1 }
    (transit ≤ 0 → t.stk = s.stk ∧ t.efu.stats
        = { s.efu.stats with slugsCompleted := plus s.efu.stats.slugsCompleted 1 })
    ∧ (0 < transit → ¬ departs → t.stk = timed ∧ t.efu.stats = counted)
    ∧ (departs →
        let full := 8 ≤ s.stk.departed.length
        let offset := min (round (p.stationDistance * 1000 * p.fs) vs) (2 ^ 30)
        t.stk = { timed with
          departed := (if full then s.stk.departed.drop 1 else s.stk.departed)
            ++ [⟨x.tag, x.peak, x.width, a.onset, vs, a.onset + BitVec.ofNat 32 offset⟩] }
        ∧ t.efu.stats = { counted with
            departedDropped := plus s.efu.stats.departedDropped (if full then 1 else 0) }
        ∧ Posted [.slugDeparted] s t
        ∧ (ArmedOn .slugDeparted s.cap → Triggered s t))
    ∧ (¬ departs → t.efu.ports = s.efu.ports)
    ∧ (¬ (departs ∧ ArmedOn .slugDeparted s.cap) → t.cap = s.cap)

end Sys2Proof.Claim

/-- R56 to R62, R66, R67, R171, R172: what a detection does. The first record in the table's order that expects it
arrives, aimed at the next live ring or completed past the last; a detection that no record expects makes a
record at an origin ring with a ring after it, does nothing at an origin ring without one, and is unmatched
and charged at any other ring. The model's reading: the oldest of several records that match is the first in
onset order (assumption 37), and a RAW capture that a departure triggers takes its values as the trigger finds
them (assumption 26). -/
def Obligations.DetectionHandled : Prop :=
  ∀ (r : Ring) (onset : Index) (peak width : Nat) (s : State),
    let t := s.detection r onset peak width
    let seen : State := { s with stk := { s.stk with
      rings := s.stk.rings.set r { s.stk.rings.get r with detected := true } } }
    (∀ before x after, s.stk.table = before ++ x :: after → Matches r onset x →
      (∀ y ∈ before, ¬ Matches r onset y) →
      let x' := { x with arrivals := x.arrivals ++ [⟨r, onset⟩], reference := onset }
      (∀ next, nextOf s r = some next →
        t = { seen with stk := { seen.stk with table := before ++ aimed s x' r next :: after } })
      ∧ (nextOf s r = none →
        Completes x' { seen with stk := { seen.stk with table := before ++ after } } t))
    ∧ ((∀ x ∈ s.stk.table, ¬ Matches r onset x) →
      (originOf s = some r → nextOf s r = none → t = seen)
      ∧ (originOf s ≠ some r →
        t.stk = { s.stk with rings := s.stk.rings.set r { s.stk.rings.get r with
            detected := true
            charges := min ((s.stk.rings.get r).charges + 1) 65535 } }
        ∧ t = { s with
            stk := t.stk
            efu := { s.efu with stats := { s.efu.stats with
              unmatched := plus s.efu.stats.unmatched 1 } } })
      ∧ ∀ next, originOf s = some r → nextOf s r = some next → TrackerFits s →
        let full := 16 ≤ s.stk.table.length
        let kept := if full then s.stk.table.drop 1 else s.stk.table
        ∃ tag before after,
          t = { seen with
            stk := { seen.stk with
              tagCounter := tag
              table := before ++ aimed s
                ⟨tag, r, onset, peak, width, next, onset, .range, onset, onset, []⟩ r next :: after }
            efu := { s.efu with stats := { s.efu.stats with
              evicted := plus s.efu.stats.evicted (if full then 1 else 0)
              slugsCreated := plus s.efu.stats.slugsCreated 1 } } }
          ∧ before ++ after = kept
          ∧ (∀ y ∈ before, (y.onset - onset).toInt ≤ 0)
          ∧ (∀ y, after.head? = some y → 0 < (y.onset - onset).toInt)
          ∧ (∀ y ∈ kept, y.tag ≠ tag)
          ∧ ∀ k, k < (tag - (s.stk.tagCounter + 1)).toNat →
              ∃ y ∈ kept, y.tag = s.stk.tagCounter + 1 + BitVec.ofNat 8 k)

/-- R52, R54, R55, R62 to R64, R66 to R68, R171, R172: the tracker's work at a boundary: the detectors of
FAILED rings are armed, the stale records removed, those aimed at a FAILED ring aimed past it, completed or
removed, the thresholds adjusted, the departed entries of the past removed and the occupancy counted; and the
work that a frame does when it closes the window, with its counters (beside a completion without pairs it is
CorrelatorAtBoundary's). The model's reading: records that complete in one boundary do so in the table's
order (assumption 39), the order of the blocks at a boundary (assumption 8), and a RAW capture that a
departure triggers takes its values as the trigger finds them (assumption 26). The model's choice: the
detector of a ring that a geometry commit leaves out counts in the stale sweep (assumption 41). -/
def Obligations.TrackerBoundaryWork : Prop :=
  (∀ (changed : Bool) (s : State),
    let t := s.trackerBoundary changed
    let p := s.pst.active
    let i := s.sfe.lastIndex
    let failed := fun r => decide ((s.sfe.rings.get r).health = .failed)
    let detector := fun r => if failed r then Detector.armed else (s.stk.rings.get r).detector
    let arriving := fun x : SlugRecord => match detector x.next with
      | .inSlug onset _ => expects x onset
      | _ => false
    let stale := fun x : SlugRecord => decide ((x.eMax - i).toInt < 0) && !arriving x
    let left := s.stk.table.filter fun x => !stale x
    let cut := left.filter fun x => failed x.next && (nextOf s x.next).isNone
    let dropped := s.stk.table.filter stale ++ cut.filter fun x => x.arrivals.isEmpty
    let u := (cut.filter fun x => !x.arrivals.isEmpty).foldl (fun u x => u.completeSlug x) s
    OnlyChanges [.stk, .efu, .cap] s t
    ∧ t.stk.tagCounter = s.stk.tagCounter
    ∧ t.stk.table = left.filterMap (fun x =>
        if failed x.next then
          (nextOf s x.next).map fun next =>
            aimed s x ((x.arrivals.getLast?.map Arrival.ring).getD x.origin) next
        else some x)
    ∧ t.stk.sumDistance = u.stk.sumDistance ∧ t.stk.sumTransit = u.stk.sumTransit
    ∧ t.stk.sumCount = u.stk.sumCount
    ∧ t.stk.departed = u.stk.departed.filter (fun e => decide (0 ≤ (e.predicted - i).toInt))
    ∧ t.cap = u.cap ∧ t.efu.ports = u.efu.ports
    ∧ t.efu.faults = s.efu.faults ∧ t.efu.full = s.efu.full
    ∧ t.efu.stats = { u.efu.stats with
        stale := bump dropped.length s.efu.stats.stale
        occupancy := plus s.efu.stats.occupancy t.stk.table.length }
    ∧ ∀ r, let x := s.stk.rings.get r
      let y := t.stk.rings.get r
      let charges := x.charges + dropped.countP fun z => decide (z.origin = r)
      let quiet := if x.detected then 0 else min (x.quiet + 1) 4
      let moved : Int := if 2 ≤ charges then x.theta + p.thetaStep
        else if quiet = 4 then x.theta - p.thetaStep else x.theta
      y.detector = detector r
      ∧ (Configured s r → y.charges = 0 ∧ y.detected = false)
      ∧ (Configured s r → (s.sfe.rings.get r).health ≠ .failed →
          y.quiet = quiet ∧ (y.theta : Int) = max (p.thetaMin : Int) (min (p.thetaMax : Int) moved))
      ∧ (Configured s r → (s.sfe.rings.get r).health = .failed → y.quiet = x.quiet
          ∧ y.theta = if changed then max p.thetaMin (min p.thetaMax x.theta) else x.theta)
      ∧ (¬ Configured s r → y.quiet = x.quiet ∧ y.theta = x.theta))
  ∧ (∀ (x : SlugRecord) (s : State), x.arrivals ≠ [] → Completes x s (s.completeSlug x))
  ∧ ∀ (fr : Frame) (s : State), AtBoundary fr s → s.pst.active.n ≠ 1 →
    ∃ b t, exec .replyDeadline { s with sfe := { s.sfe with windowPos := 0 } } = .next b
      ∧ exec .replyDeadline s = .next t
      ∧ (t.pst.active.fs = s.pst.active.fs → t.pst.active.n = s.pst.active.n →
          t.pst.active.ringCount = s.pst.active.ringCount → ¬ EmptyCompletion s t →
          let changed := decide (s.pst.active.thetaMin ≠ t.pst.active.thetaMin
            ∨ s.pst.active.thetaMax ≠ t.pst.active.thetaMax)
          let u := State.trackerBoundary changed { b with sfe := t.sfe, fsv := t.fsv, pst := t.pst }
          t.stk = u.stk
          ∧ t.efu.stats = { u.efu.stats with
              windowsClosed := t.efu.stats.windowsClosed
              skipped := t.efu.stats.skipped
              discardedLate := t.efu.stats.discardedLate
              unformable := t.efu.stats.unformable })
      ∧ t.efu.stats.runts = b.efu.stats.runts ∧ t.efu.stats.long = b.efu.stats.long
      ∧ t.efu.stats.unmatched = b.efu.stats.unmatched ∧ t.efu.stats.evicted = b.efu.stats.evicted
      ∧ t.efu.stats.slugsCreated = b.efu.stats.slugsCreated

/-- R70, R71, R193 with the widths of R187: READ_SLUGS and READ_DEPARTED. The model's reading: a refused
READ_SLUGS carries nothing (assumption 14), and the number of departed entries is the count of their
collection (assumption 15). -/
def Obligations.ReadSlugsAndDeparted : Prop :=
  ∀ (p : Port) (start : Byte) (s : State), Free p s →
    (15 < start.toNat → ∃ t, exec (.readSlugs p start) s = .next t ∧ OnlyChanges [.mpt] s t
      ∧ Answered p 0x12 .range [] s t)
    ∧ (start.toNat ≤ 15 → ∃ t payload, exec (.readSlugs p start) s = .next t
      ∧ OnlyChanges [.mpt] s t ∧ Answered p 0x12 .ok payload s t
      ∧ payload.length = 3 + 40 * min 8 (s.stk.table.length - start.toNat)
      ∧ At payload 0 1 s.stk.table.length ∧ At payload 1 1 s.stk.tagCounter.toNat
      ∧ At payload 2 1 start.toNat
      ∧ ∀ i x, i < 8 → s.stk.table[start.toNat + i]? = some x →
        let o := 3 + 40 * i
        At payload o 1 x.tag.toNat ∧ At payload (o + 1) 1 (ringCode x.origin)
        ∧ At payload (o + 2) 1 (ringCode x.next)
        ∧ At payload (o + 3) 1 (match x.basis with | .velocity => 0 | .range => 1)
        ∧ At payload (o + 4) 4 x.onset.toNat ∧ At payload (o + 8) 4 x.reference.toNat
        ∧ At payload (o + 12) 4 x.eMin.toNat ∧ At payload (o + 16) 4 x.eMax.toNat
        ∧ At payload (o + 20) 2 x.peak ∧ At payload (o + 22) 2 x.width
        ∧ At payload (o + 24) 1 x.arrivals.length
        ∧ ∀ j < 3,
          (∀ a, x.arrivals[j]? = some a → At payload (o + 25 + 5 * j) 1 (ringCode a.ring)
            ∧ At payload (o + 26 + 5 * j) 4 a.onset.toNat)
          ∧ (x.arrivals[j]? = none → At payload (o + 25 + 5 * j) 5 0))
    ∧ ∃ t payload, exec (.readDeparted p) s = .next t ∧ OnlyChanges [.mpt] s t
      ∧ Answered p 0x13 .ok payload s t ∧ payload.length = 5 + 15 * s.stk.departed.length
      ∧ At payload 0 1 s.stk.departed.length ∧ At payload 1 4 s.sfe.lastIndex.toNat
      ∧ ∀ i x, s.stk.departed[i]? = some x →
        let o := 5 + 15 * i
        At payload o 1 x.tag.toNat ∧ At payload (o + 1) 2 x.peak ∧ At payload (o + 3) 2 x.width
        ∧ At payload (o + 5) 4 x.departure.toNat ∧ At payload (o + 9) 2 x.vs
        ∧ At payload (o + 11) 4 x.predicted.toNat

/-! ### The flow solver -/

/-- R65, R74, R76 to R79, R90, R92: the velocity of a published record, its hold state, flows and margin. -/
def Obligations.VelocityChain : Prop :=
  ∀ (f : InFlight) (s : State), InFlightNow f s →
    ∃ t, exec .correlationCompletion s = .next t ∧
      let r := t.fsv.record
      r.vs = (if 1 ≤ s.stk.sumCount then
          some (min 20000 (round (s.stk.sumDistance * s.pst.active.fs) s.stk.sumTransit)) else none)
      ∧ (r.vc = none ↔ ∀ k x v, t.xcr.results.get k = some x → x.verdict ≠ .valid v)
      ∧ (∀ v, r.vc = some v →
          let valid := [Slot.s0, .s1, .s2].filterMap fun k =>
            (t.xcr.results.get k).bind fun x => match x.verdict with
              | .valid vp => some (x.q, vp)
              | .invalid _ => none
          let weight := (valid.map (·.1)).sum
          v = (if weight = 0 then round (valid.map (·.2)).sum valid.length
            else round (valid.map fun x => x.1 * x.2).sum weight)
          ∧ (∃ x ∈ valid, x.2 ≤ v) ∧ ∃ x ∈ valid, v ≤ x.2)
      ∧ (∀ v, r.vc = some v → r.status = .correlated ∧ r.v = v)
      ∧ (∀ v, r.vc = none → r.vs = some v → r.status = .slug ∧ r.v = v)
      ∧ (∀ v, r.vc = none → r.vs = none → s.fsv.lastV = some v →
          s.fsv.hold < s.pst.active.holdWindows → r.status = .held ∧ r.v = v)
      ∧ (r.vc = none → r.vs = none →
          s.fsv.lastV = none ∨ s.pst.active.holdWindows ≤ s.fsv.hold → r.status = .lost ∧ r.v = 0)
      ∧ (r.status = .correlated ∨ r.status = .slug → t.fsv.hold = 0 ∧ t.fsv.lastV = some r.v)
      ∧ (r.status = .held → t.fsv.hold = s.fsv.hold + 1 ∧ t.fsv.lastV = s.fsv.lastV)
      ∧ (r.status = .lost → t.fsv.hold = s.fsv.hold ∧ t.fsv.lastV = s.fsv.lastV)
      ∧ (r.disagree = true ↔ ∃ c v, r.vc = some c ∧ r.vs = some v
          ∧ 15 * (c : Int) < |(c : Int) - v| * 100)
      ∧ r.q = round (r.v * s.fsv.area) 100000
      ∧ r.s = round (r.v * s.fsv.area * r.phi * s.pst.active.rhoS * 36) (10 ^ 13)
      ∧ (r.status = .lost → r.margin = none)
      ∧ (r.status ≠ .lost → r.margin = some ((r.v : Int) - r.vDep))
      ∧ t.fsv.area = s.fsv.area ∧ t.fsv.sigma = s.fsv.sigma ∧ t.fsv.sigmaSource = s.fsv.sigmaSource
      ∧ t.fsv.flush = s.fsv.flush

/-- R81 to R84, R87, R91: the solids fraction of a published record, the drift mark, the flush accumulator
and the deposition velocity at that fraction. The model's choice: the accumulator's sum is an unbounded
number (assumption 22). -/
def Obligations.SolidsFraction : Prop :=
  ∀ (f : InFlight) (s : State), InFlightNow f s →
    ∃ t, exec .correlationCompletion s = .next t ∧
      let r := t.fsv.record
      let live := Ring.all.filter fun x => decide (x.num < s.pst.active.ringCount)
        && decide ((s.sfe.rings.get x).health ≠ .failed)
      let code := fun x => if (s.sfe.rings.get x).seeded then round (s.sfe.rings.get x).mean 256 else 0
      let mbar := (live.map code).sum / live.length
      let ratio := mbar * 65536 / s.fsv.sigma
      (s.fsv.flush = true → r.phi = 0 ∧ r.phiSource = .flush)
      ∧ (s.fsv.flush = false → live = [] → r.phi = s.fsv.record.phi ∧ r.phiSource = .held)
      ∧ (s.fsv.flush = false → live ≠ [] → r.phiSource = .rings
        ∧ (65536 ≤ ratio → r.phi = 0)
        ∧ (ratio < 65536 → r.phi = min 6000 (round (20000 * (65536 - ratio)) (131072 + ratio))))
      ∧ (r.carrierDrift = true ↔ live ≠ [] ∧ 105 * 65536 < ratio * 100)
      ∧ t.fsv.drift = r.carrierDrift
      ∧ (s.fsv.flush = false ∨ live = [] → t.fsv.acc = s.fsv.acc)
      ∧ (s.fsv.flush = true → live ≠ [] →
          t.fsv.acc.count = min (s.fsv.acc.count + 1) 65535
          ∧ t.fsv.acc.sum = s.fsv.acc.sum + mbar
          ∧ t.fsv.acc.lo = (if s.fsv.acc.count = 0 then mbar else min s.fsv.acc.lo mbar)
          ∧ t.fsv.acc.hi = (if s.fsv.acc.count = 0 then mbar else max s.fsv.acc.hi mbar))
      ∧ (s.pst.active.accepted = true →
          let table := s.pst.active.points.take s.pst.active.depCount
          (r.phi < s.pst.active.dep1.phi → r.vDep = s.pst.active.dep1.vc)
          ∧ (∀ x ∈ table.getLast?, x.phi ≤ r.phi → r.vDep = x.vc)
          ∧ (∀ i x y, table[i]? = some x → table[i + 1]? = some y → x.phi ≤ r.phi → r.phi < y.phi →
              (r.vDep : Int) = x.vc
                + ((r.phi : Int) - x.phi) * ((y.vc : Int) - x.vc) / ((y.phi : Int) - x.phi)))

namespace Sys2Proof.Claim

/-- The standing record and the last measured velocity lie in their ranges, and the margin is the velocity
less the deposition velocity for exactly the measured and held statuses (R77, R82, R91, R92, R94). -/
def RecordAgrees (s : State) : Prop :=
  s.fsv.record.v ≤ 20000 ∧ s.fsv.record.phi ≤ 6000 ∧ s.fsv.record.vDep ≤ 10000
  ∧ (∀ v, s.fsv.lastV = some v → v ≤ 20000)
  ∧ (s.fsv.record.status = .lost ∨ s.fsv.record.status = .filling →
      s.fsv.record.v = 0 ∧ s.fsv.record.margin = none)
  ∧ (s.fsv.record.status ≠ .lost → s.fsv.record.status ≠ .filling →
      s.fsv.record.margin = some ((s.fsv.record.v : Int) - s.fsv.record.vDep))
  ∧ (s.fsv.flush = true → s.fsv.record.phi = 0 ∧ s.fsv.record.phiSource = .flush)

end Sys2Proof.Claim

/-- R77, R83, R86, R91, R92, R96: every step keeps the standing record within its ranges, its velocity 0
without a measurement, its margin the velocity less the deposition velocity, and φ 0 during a flush. -/
def Obligations.RecordAgreesKept : Prop := KeptByEveryStep fun s => s.pst.Wf ∧ RecordAgrees s

/-- R93: the line state after a published record. -/
def Obligations.LineStateMoves : Prop :=
  ∀ (f : InFlight) (s : State), InFlightNow f s →
    ∃ t, exec .correlationCompletion s = .next t ∧
      let r := t.fsv.record
      let p := s.pst.active
      r.line = t.fsv.line
      ∧ (r.status = .lost → t.fsv.line = s.fsv.line ∧ t.fsv.armCount = s.fsv.armCount)
      ∧ (r.status ≠ .lost → r.v < p.stopVel → t.fsv.line = .stopped
        ∧ (s.fsv.line ≠ .stopped ∨ s.fsv.armCount = 0 → t.fsv.armCount = 0))
      ∧ (r.status ≠ .lost → p.stopVel ≤ r.v → s.fsv.line = .stopped → 1 ≤ p.armWindows →
          t.fsv.armCount = 1 ∧ t.fsv.line = (if p.armWindows = 1 then .running else .starting))
      ∧ (r.status ≠ .lost → p.stopVel ≤ r.v → s.fsv.line = .starting →
          (p.armWindows ≤ s.fsv.armCount + 1 →
            t.fsv.line = .running ∧ t.fsv.armCount = p.armWindows)
          ∧ (s.fsv.armCount + 1 < p.armWindows →
            t.fsv.line = .starting ∧ t.fsv.armCount = s.fsv.armCount + 1))
      ∧ (r.status ≠ .lost → p.stopVel ≤ r.v → s.fsv.line = .running →
          t.fsv.line = .running ∧ t.fsv.armCount = s.fsv.armCount)

/-- R86, R88, R159, R161: FLUSH_BEGIN and FLUSH_END. The model's reading: a request refused with STATE carries
nothing (assumption 14). -/
def Obligations.FlushRequests : Prop :=
  ∀ (p : Port) (s : State), Free p s → s.pst.active.accepted = true →
    let a := s.fsv.acc
    let stable := 8 ≤ a.count ∧ (a.hi - a.lo) * 50 ≤ a.hi ∧ 1000 ≤ a.sum / a.count
      ∧ a.sum / a.count ≤ 65000
    let payload := fun (outcome sigma : Nat) (l : List Byte) => l.length = 9 ∧ At l 0 1 outcome
      ∧ At l 1 2 a.count ∧ At l 3 2 a.lo ∧ At l 5 2 a.hi ∧ At l 7 2 sigma
    (s.fsv.flush = true → ∃ t, exec (.flushBegin p) s = .next t ∧ OnlyChanges [.mpt] s t
      ∧ Answered p 0x41 .state [] s t)
    ∧ (s.fsv.flush = false → ∃ t, exec (.flushBegin p) s = .next t ∧ OnlyChanges [.fsv, .mpt] s t
      ∧ Answered p 0x41 .ok [] s t
      ∧ t.fsv = { s.fsv with
          flush := true
          acc := ⟨0, 0, 0, 0⟩
          record := { s.fsv.record with
            phi := 0
            phiSource := .flush
            s := 0
            vDep := s.pst.active.dep1.vc
            margin := if s.fsv.record.margin = none then none
              else some ((s.fsv.record.v : Int) - s.pst.active.dep1.vc) } })
    ∧ (s.fsv.flush = false → ∃ t, exec (.flushEnd p) s = .next t ∧ OnlyChanges [.mpt] s t
      ∧ Answered p 0x42 .state [] s t)
    ∧ (s.fsv.flush = true → stable → ∃ t l, exec (.flushEnd p) s = .next t
      ∧ OnlyChanges [.fsv, .mpt] s t ∧ Answered p 0x42 .ok l s t ∧ payload 0 (a.sum / a.count) l
      ∧ t.fsv = { s.fsv with flush := false, sigma := a.sum / a.count, sigmaSource := .learned })
    ∧ (s.fsv.flush = true → ¬ stable → ∃ t l, exec (.flushEnd p) s = .next t
      ∧ OnlyChanges [.fsv, .efu, .mpt] s t ∧ Answered p 0x42 .ok l s t ∧ payload 1 s.fsv.sigma l
      ∧ t.fsv = { s.fsv with flush := false }
      ∧ Recorded ⟨.carrier, .flushUnstable⟩ s t)

/-- R192, R95: READ_FLOW. -/
def Obligations.ReadFlow : Prop :=
  ∀ (p : Port) (s : State), Free p s →
    ∃ t payload, exec (.readFlow p) s = .next t ∧ OnlyChanges [.mpt] s t
      ∧ Answered p 0x10 .ok payload s t ∧ payload.length = 55 ∧
      let r := s.fsv.record
      At payload 0 4 r.window.toNat ∧ At payload 4 1 r.span
      ∧ At payload 5 1 (match r.status with
          | .filling => 0 | .correlated => 1 | .slug => 2 | .held => 3 | .lost => 4)
      ∧ At payload 6 2 r.v ∧ At payload 8 2 (r.vc.getD 0) ∧ At payload 10 2 (r.vs.getD 0)
      ∧ At payload 12 2 r.phi
      ∧ At payload 14 1 (match r.phiSource with | .rings => 0 | .held => 1 | .flush => 2)
      ∧ At payload 15 1 (match r.line with | .stopped => 0 | .starting => 1 | .running => 2)
      ∧ At payload 16 1 (match r.guard with
          | .clear => 0 | .watch => 1 | .tripped => 2 | .recovered => 3)
      ∧ (∃ b : Byte, payload[17]? = some b
        ∧ b.getLsbD 0 = r.vc.isSome ∧ b.getLsbD 1 = r.vs.isSome ∧ b.getLsbD 2 = r.margin.isSome
        ∧ b.getLsbD 3 = r.disagree ∧ b.getLsbD 4 = r.clockDegraded ∧ b.getLsbD 5 = r.carrierDrift
        ∧ b.getLsbD 6 = r.rangeCut ∧ b.getLsbD 7 = false)
      ∧ At payload 18 4 r.q ∧ At payload 22 4 r.s ∧ At payload 26 2 r.vDep
      ∧ At payload 28 2 (r.margin.getD 0)
      ∧ At payload 30 1 s.fsv.hold ∧ AtOpt payload 31 2 (s.fsv.lastV.map fun v => (v : Int))
      ∧ At payload 34 1 s.fsv.armCount ∧ At payload 35 2 s.fsv.sigma
      ∧ At payload 37 1 (match s.fsv.sigmaSource with | .profile => 0 | .learned => 1)
      ∧ At payload 38 1 (ofFlag s.fsv.flush) ∧ At payload 39 2 s.fsv.acc.count
      ∧ At payload 41 2 s.fsv.acc.lo ∧ At payload 43 2 s.fsv.acc.hi ∧ At payload 45 6 s.fsv.acc.sum
      ∧ At payload 51 4 s.fsv.area

/-! ### The deposit guard -/

/-- R99 to R105: the guard's step on the record that a completion publishes, with the record's guard state
and the kinds that the step posts. -/
def Obligations.GuardSteps : Prop :=
  ∀ (f : InFlight) (s : State), InFlightNow f s →
    ∃ t, exec .correlationCompletion s = .next t ∧
      let r := t.fsv.record
      let p := s.pst.active
      let danger := r.line = .running ∧ ((∃ m, r.margin = some m ∧ m < p.tripMargin)
        ∨ (r.status = .lost ∧ p.lostIsDanger = true))
      let watch := r.line = .running ∧ ∃ m, r.margin = some m ∧ m < p.watchMargin
      let good := (r.status = .correlated ∨ r.status = .slug)
        ∧ ∃ m, r.margin = some m ∧ p.tripMargin + p.hysteresis ≤ m
      let lands := fun (st : GuardState) (d n : Nat) =>
        t.dgd = ⟨st, d, n, decide (st = .tripped ∨ st = .recovered)⟩
      r.guard = t.dgd.state
      ∧ (s.dgd.state = .clear →
          (danger → p.tripCount ≤ 1 → lands .tripped 0 0) ∧ (danger → 1 < p.tripCount → lands .watch 1 0)
          ∧ (¬ danger → watch → lands .watch 0 0) ∧ (¬ danger → ¬ watch → lands .clear 0 0))
      ∧ (s.dgd.state = .watch →
          (danger → p.tripCount ≤ s.dgd.danger + 1 → lands .tripped 0 0)
          ∧ (danger → s.dgd.danger + 1 < p.tripCount → lands .watch (s.dgd.danger + 1) 0)
          ∧ (¬ danger → watch → lands .watch 0 0) ∧ (¬ danger → ¬ watch → lands .clear 0 0))
      ∧ (s.dgd.state = .tripped →
          (good → p.clearCount ≤ s.dgd.recovery + 1 → lands .recovered 0 0)
          ∧ (good → s.dgd.recovery + 1 < p.clearCount → lands .tripped 0 (s.dgd.recovery + 1))
          ∧ (¬ good → lands .tripped 0 0))
      ∧ (s.dgd.state = .recovered →
          (danger → lands .tripped 0 0) ∧ (¬ danger → lands .recovered 0 0))
      ∧ (∀ q, hasKind (t.efu.ports.get q).posted .guardTripped
          = (hasKind (s.efu.ports.get q).posted .guardTripped
            || decide (s.dgd.state ≠ .tripped ∧ t.dgd.state = .tripped)))
      ∧ (∀ q, hasKind (t.efu.ports.get q).posted .guardWatch
          = (hasKind (s.efu.ports.get q).posted .guardWatch
            || decide (s.dgd.state = .clear ∧ t.dgd.state ≠ .clear)))
      ∧ (∀ q, hasKind (t.efu.ports.get q).posted .guardRecovered
          = (hasKind (s.efu.ports.get q).posted .guardRecovered
            || decide (s.dgd.state = .tripped ∧ t.dgd.state = .recovered)))

/-- R106, R107: GUARD_RELEASE, with the standing record that agrees with it. -/
def Obligations.GuardRelease : Prop :=
  ∀ (p : Port) (s : State), Free p s →
    let accepted := s.dgd.state = .recovered ∨ (s.dgd.state = .tripped ∧ s.fsv.line = .stopped)
    let lineCode : Int := match s.fsv.line with | .stopped => 0 | .starting => 1 | .running => 2
    (accepted → ∃ t l, exec (.guardRelease p) s = .next t ∧ OnlyChanges [.dgd, .fsv, .mpt] s t
      ∧ Answered p 0x40 .ok l s t ∧ l.length = 2 ∧ At l 0 1 0 ∧ At l 1 1 lineCode
      ∧ t.dgd = ⟨.clear, 0, 0, false⟩
      ∧ t.fsv = { s.fsv with record := { s.fsv.record with guard := .clear } })
    ∧ (s.dgd.state = .tripped → s.fsv.line ≠ .stopped →
      ∃ t l, exec (.guardRelease p) s = .next t ∧ OnlyChanges [.mpt] s t
        ∧ Answered p 0x40 .danger l s t ∧ l.length = 2 ∧ At l 0 1 2 ∧ At l 1 1 lineCode)
    ∧ (s.dgd.state = .clear ∨ s.dgd.state = .watch →
      ∃ t l, exec (.guardRelease p) s = .next t ∧ OnlyChanges [.mpt] s t
        ∧ Answered p 0x40 .state l s t ∧ l.length = 2
        ∧ At l 0 1 (if s.dgd.state = .clear then 0 else 1) ∧ At l 1 1 lineCode)

namespace Sys2Proof.Claim

/-- The output lines agree with the state that drives them: TRIP with the guard, each ATN line with its
port's three items, PULSE with the generator; all are released on a part that does not run, and the
guard of a part held in reset is CLEAR (R98, R122, R155). -/
def LinesAgree (s : State) : Prop :=
  s.dgd.trip = decide (s.power = .running ∧ (s.dgd.state = .tripped ∨ s.dgd.state = .recovered))
  ∧ s.pls.pulse = decide (s.power = .running ∧ s.pls.gen = .high)
  ∧ (∀ p, (s.efu.ports.get p).atn = true ↔ s.power = .running ∧ ∃ k : EventKind,
      hasKind (s.efu.ports.get p).posted k = true ∧ hasKind (s.efu.ports.get p).enable k = true
      ∧ (s.efu.ports.get p).threshold < k.level)
  ∧ (s.power = .held → s.dgd.state = .clear)
  ∧ (s.power = .running → s.fsv.record.guard = s.dgd.state)

end Sys2Proof.Claim

/-- R98, R100, R107, R122, R155: every step keeps TRIP, PULSE and the three ATN lines in agreement with the
state that drives them, and the standing record in agreement with the guard. -/
def Obligations.LinesAgreeKept : Prop := KeptByEveryStep LinesAgree

/-! ### Totals and pulses -/

/-- R112, R113: the totals take a published record's volume and mass exactly, the remainders kept in the
residues; a LOST record adds nothing. -/
def Obligations.TotalsIntegrate : Prop :=
  ∀ (f : InFlight) (s : State), InFlightNow f s →
    ∃ t, exec .correlationCompletion s = .next t ∧
      let r := t.fsv.record
      let vn := r.v * s.fsv.area * s.pst.active.n * r.span
      let mn := vn * r.phi * s.pst.active.rhoS
      let vd := s.tot.rate * 10 ^ 6
      let md := s.tot.rate * 10 ^ 13
      t.tot.rate = s.tot.rate ∧ t.tot.clearPending = s.tot.clearPending
      ∧ (r.status = .lost → t.tot.volume = s.tot.volume ∧ t.tot.solids = s.tot.solids
          ∧ t.tot.volumeResidue = s.tot.volumeResidue ∧ t.tot.solidsResidue = s.tot.solidsResidue)
      ∧ (r.status ≠ .lost →
          t.tot.volumeResidue = (s.tot.volumeResidue + vn) % vd
          ∧ t.tot.solidsResidue = (s.tot.solidsResidue + mn) % md
          ∧ (s.tot.volume + (s.tot.volumeResidue + vn) / vd < 2 ^ 48 →
              vd * t.tot.volume + t.tot.volumeResidue = vd * s.tot.volume + s.tot.volumeResidue + vn)
          ∧ (2 ^ 48 ≤ s.tot.volume + (s.tot.volumeResidue + vn) / vd → t.tot.volume = 2 ^ 48 - 1)
          ∧ (s.tot.solids + (s.tot.solidsResidue + mn) / md < 2 ^ 48 →
              md * t.tot.solids + t.tot.solidsResidue = md * s.tot.solids + s.tot.solidsResidue + mn)
          ∧ (2 ^ 48 ≤ s.tot.solids + (s.tot.solidsResidue + mn) / md → t.tot.solids = 2 ^ 48 - 1))

namespace Sys2Proof.Claim

/-- The totals, the residues under their divisors, the residue rate and the checkpoint count as R113, R114
and R115 bound them, and the credit under its cap (R121). -/
def TotalsAgree (s : State) : Prop :=
  s.tot.rate = s.pst.active.fs
  ∧ s.tot.volume < 2 ^ 48 ∧ s.tot.solids < 2 ^ 48
  ∧ s.tot.volumeResidue < s.tot.rate * 10 ^ 6 ∧ s.tot.solidsResidue < s.tot.rate * 10 ^ 13
  ∧ s.tot.checkpoint < 64
  ∧ s.pls.credit ≤ 1000 * s.pst.active.pulseWeight

end Sys2Proof.Claim

/-- R113, R114, R115, R117, R118, R121, R124: every step keeps the residues below their divisors, the residue
rate at the active frame rate, the totals and the checkpoint count within their ranges, and the pulse
credit under its cap. -/
def Obligations.TotalsAgreeKept : Prop := KeptByEveryStep fun s => s.pst.Wf ∧ TotalsAgree s

/-- R119, R120, R115: CLEAR_TOTALS, and the clear at the boundary that closes the window; here the boundary
gives no completion without pairs, so that no record is published at it, and CorrelatorAtBoundary says what
the clear does at one that does. The model's reading: the order of the blocks at a boundary (assumption 8), a
CLEAR_TOTALS refused with NOT_HOLDER carries the totals too (assumption 14), and the order and widths of the
items under the CRC-16 of the queued checkpoint (assumption 11). -/
def Obligations.TotalsClear : Prop :=
  (∀ (p : Port) (s : State), Free p s →
    let totals := fun l : List Byte => l.length = 12 ∧ At l 0 6 s.tot.volume ∧ At l 6 6 s.tot.solids
    ((∃ c, s.pst.claim = some c ∧ c.holder = p) → ∃ t l, exec (.clearTotals p) s = .next t
      ∧ OnlyChanges [.tot, .mpt] s t ∧ Answered p 0x35 .ok l s t ∧ totals l
      ∧ t.tot = { s.tot with clearPending := true })
    ∧ ((∀ c, s.pst.claim = some c → c.holder ≠ p) → ∃ t l, exec (.clearTotals p) s = .next t
      ∧ OnlyChanges [.mpt] s t ∧ Answered p 0x35 .notHolder l s t ∧ totals l))
  ∧ ∀ (fr : Frame) (s : State), AtBoundary fr s → s.pst.commitPending = false →
    ∃ t, exec .replyDeadline s = .next t
      ∧ (¬ EmptyCompletion s t →
        t.pls = s.pls ∧ t.pst.active = s.pst.active
        ∧ (s.tot.clearPending = false → t.tot = s.tot ∧ t.pst = s.pst)
        ∧ (s.tot.clearPending = true →
          t.tot = ⟨0, 0, 0, 0, s.tot.rate, 0, false⟩
          ∧ (∀ p, hasKind (t.efu.ports.get p).posted .totalsCleared = true)
          ∧ t.pst = { s.pst with
              nv := s.pst.nv.queue (.totals (checkpointOf 0 0 0 0 s.tot.rate)) }))

/-- R126 with the widths of R187: READ_TOTALS. -/
def Obligations.ReadTotals : Prop :=
  ∀ (p : Port) (s : State), Free p s →
    ∃ t payload, exec (.readTotals p) s = .next t ∧ OnlyChanges [.mpt] s t
      ∧ Answered p 0x15 .ok payload s t ∧ payload.length = 58
      ∧ At payload 0 6 s.tot.volume ∧ At payload 6 6 s.tot.solids
      ∧ At payload 12 4 s.tot.volumeResidue ∧ At payload 16 8 s.tot.solidsResidue
      ∧ At payload 24 2 s.tot.rate ∧ At payload 26 1 (ofFlag s.tot.clearPending)
      ∧ At payload 27 1 s.tot.checkpoint
      ∧ At payload 28 1 (match s.pst.active.pulseBasis with | .volume => 0 | .solids => 1)
      ∧ At payload 29 4 s.pst.active.pulseWeight ∧ At payload 33 2 s.pst.active.pulseWidth
      ∧ At payload 35 4 s.pls.credit ∧ At payload 39 8 s.pls.emitted ∧ At payload 47 8 s.pls.lost
      ∧ At payload 55 1 (match s.pls.gen with | .idle => 0 | .high => 1 | .gap => 2)
      ∧ At payload 56 2 s.pls.width

/-- R122: the pulse and the gap that follows it end; a generator in another state is left alone. The model's
choice: an event told in another state changes nothing (assumption 2). -/
def Obligations.PulseEvents : Prop :=
  ∀ s : State, s.power = .running →
    (s.pls.gen = .high → exec .pulseWidthElapsed s
      = .next { s with pls := { s.pls with pulse := false, gen := .gap, elapsed := 0 } })
    ∧ (s.pls.gen ≠ .high → exec .pulseWidthElapsed s = .next s)
    ∧ (s.pls.gen = .gap → s.pst.active.pulseWeight ≤ s.pls.credit → exec .gapElapsed s
      = .next { s with pls := ⟨s.pls.credit - s.pst.active.pulseWeight, s.pls.emitted + 1, s.pls.lost,
          .high, s.pst.active.pulseWidth, 0, true⟩ })
    ∧ (s.pls.gen = .gap → s.pls.credit < s.pst.active.pulseWeight → exec .gapElapsed s
      = .next { s with pls := { s.pls with pulse := false, gen := .idle, elapsed := 0 } })
    ∧ (s.pls.gen ≠ .gap → exec .gapElapsed s = .next s)

/-- R121, R125, R159, R161: at a publication the credit, the pulses and the lost credit gain together exactly
what the chosen total rose by, the capped excess is lost and recorded, and nothing else but a unit start
changes their sum. The model's choice: the emitted and lost counts are unbounded numbers (assumption 22). -/
def Obligations.PulseCreditConserved : Prop :=
  (∀ (f : InFlight) (s : State), InFlightNow f s →
    ∃ t, exec .correlationCompletion s = .next t ∧
      let w := s.pst.active.pulseWeight
      let gain := match s.pst.active.pulseBasis with
        | .volume => t.tot.volume - s.tot.volume
        | .solids => t.tot.solids - s.tot.solids
      w * t.pls.emitted + t.pls.credit + t.pls.lost
        = w * s.pls.emitted + s.pls.credit + s.pls.lost + gain
      ∧ (1000 * w < s.pls.credit + gain → 0 < gain →
          t.pls.lost = s.pls.lost + (s.pls.credit + gain - 1000 * w)
          ∧ (∀ p, hasKind (t.efu.ports.get p).posted .pulseOverrun = true)
          ∧ Recorded ⟨.pulseUnit, .pulseOverrun⟩ s t)
      ∧ (s.pls.credit + gain ≤ 1000 * w ∨ gain = 0 → t.pls.lost = s.pls.lost
          ∧ (∀ p, hasKind (t.efu.ports.get p).posted .pulseOverrun
            = hasKind (s.efu.ports.get p).posted .pulseOverrun)
          ∧ t.efu.faults = s.efu.faults ∧ t.efu.full = s.efu.full))
  ∧ ∀ (c : Instr) (s t : State),
      c ≠ .correlationCompletion → c ≠ .replyDeadline → (∀ r x b, c ≠ .ringReply r x b) →
      (∀ x, c ≠ .powerOnReset x) → (∀ x, c ≠ .nrstReleased x) →
      exec c s = .next t →
      s.pst.active.pulseWeight * t.pls.emitted + t.pls.credit + t.pls.lost
        = s.pst.active.pulseWeight * s.pls.emitted + s.pls.credit + s.pls.lost

/-! ### The profile store -/

/-- R132 to R134, R137, R138: OPEN_EDIT, DROP_EDIT, and the expiry of the claim, which is not taken while a
commit is pending and does not arise without a claim. The time left of a claim whose expiry has passed is
left open by the spec (assumption 12); the expiry moves the timebase up to it (assumption 29). The model's
reading: a refused DROP_EDIT carries nothing (assumption 14), and the layout of OPEN_EDIT's items with the
widths of R187 (assumption 15). That the expiry told without a claim changes nothing is the model's choice
(assumption 2). -/
def Obligations.ClaimOpensDropsExpires : Prop :=
  (∀ (p : Port) (s : State), Free p s →
    (s.pst.claim = none → ∃ t l, exec (.openEdit p) s = .next t ∧ OnlyChanges [.pst, .mpt] s t
      ∧ Answered p 0x30 .ok l s t ∧ l.length = 5 ∧ At l 0 4 120000
      ∧ At l 4 1 (ofFlag s.pst.commitPending)
      ∧ t.pst = { s.pst with staging := s.pst.active, claim := some ⟨p, s.timebase + 120000⟩ })
    ∧ (∀ c, s.pst.claim = some c → c.holder = p → ∃ t l, exec (.openEdit p) s = .next t
      ∧ OnlyChanges [.pst, .mpt] s t ∧ Answered p 0x30 .ok l s t ∧ l.length = 5 ∧ At l 0 4 120000
      ∧ At l 4 1 (ofFlag s.pst.commitPending)
      ∧ t.pst = { s.pst with claim := some ⟨p, s.timebase + 120000⟩ })
    ∧ (∀ c, s.pst.claim = some c → c.holder ≠ p → s.timebase ≤ c.expiry →
      ∃ t l, exec (.openEdit p) s = .next t ∧ OnlyChanges [.mpt] s t ∧ Answered p 0x30 .held l s t
        ∧ l.length = 6 ∧ At l 0 1 c.holder.num ∧ At l 1 4 (c.expiry - s.timebase : Nat)
        ∧ At l 5 1 (ofFlag s.pst.commitPending))
    ∧ (∀ c, s.pst.claim = some c → c.holder ≠ p → c.expiry < s.timebase →
      ∃ t l, exec (.openEdit p) s = .next t ∧ OnlyChanges [.freeCount, .mpt] s t
        ∧ Answered p 0x30 .held l s t ∧ l.length = 6 ∧ At l 0 1 c.holder.num
        ∧ At l 5 1 (ofFlag s.pst.commitPending))
    ∧ ((∀ c, s.pst.claim = some c → c.holder ≠ p) → ∃ t, exec (.dropEdit p) s = .next t
      ∧ OnlyChanges [.mpt] s t ∧ Answered p 0x34 .notHolder [] s t)
    ∧ (∀ c, s.pst.claim = some c → c.holder = p → s.pst.commitPending = true →
      ∃ t, exec (.dropEdit p) s = .next t ∧ OnlyChanges [.mpt] s t ∧ Answered p 0x34 .state [] s t)
    ∧ (∀ c, s.pst.claim = some c → c.holder = p → s.pst.commitPending = false →
      ∃ t, exec (.dropEdit p) s = .next t ∧ OnlyChanges [.pst, .mpt] s t ∧ Answered p 0x34 .ok [] s t
        ∧ t.pst = { s.pst with claim := none, staging := s.pst.active }))
  ∧ ∀ s : State, s.power = .running →
    (∀ c, s.pst.claim = some c → s.pst.commitPending = false →
      ∃ t, exec .claimExpiry s = .next t ∧ OnlyChanges [.timebase, .pst, .efu] s t
        ∧ t.timebase = max s.timebase c.expiry
        ∧ t.pst = { s.pst with claim := none, staging := s.pst.active }
        ∧ Posted [.claimExpired] s t)
    ∧ (s.pst.claim = none ∨ s.pst.commitPending = true → exec .claimExpiry s = .next s)

namespace Sys2Proof.Claim

/-- A value may be written to a field: it lies in the field's range, or both members of a deposition point
do (R129, R130). -/
def Writable (field : Byte) (value : BitVec 32) : Prop :=
  let k := field.toNat
  (∃ row ∈ fieldTable, row.field = k ∧ row.least ≤ value.toInt ∧ value.toInt ≤ row.greatest
    ∧ (k = 6 → value.toInt = 128 ∨ value.toInt = 256 ∨ value.toInt = 512))
  ∨ (17 ≤ k ∧ k ≤ 24 ∧ value.toNat / 65536 ≤ 6000 ∧ value.toNat % 65536 ≤ 10000)

/-- A port holds the edit claim. -/
def Holds (p : Port) (s : State) : Prop := ∃ c, s.pst.claim = some c ∧ c.holder = p

end Sys2Proof.Claim

/-- R135, R129, R130, R133: WRITE_FIELD. A write that is accepted puts the value of its wire form into its
field and leaves the other 41 fields as they read before. MODEL'S CHOICE (assumption 13): a number outside 1
to 42 is answered with five bytes too, their value left open, which may move the counter of free values. -/
def Obligations.WriteField : Prop :=
  ∀ (p : Port) (field : Byte) (value : BitVec 32) (s : State), Free p s →
    let answer := fun (st : Status) (t : State) => ∃ l, Answered p 0x31 st l s t ∧ l.length = 5
      ∧ At l 0 1 field.toNat
      ∧ (1 ≤ field.toNat ∧ field.toNat ≤ 42 →
          At l 1 4 (t.pst.staging.word field.toNat).toNat)
    let refused := fun (st : Status) => ∃ t, exec (.writeField p field value) s = .next t
      ∧ OnlyChanges [.freeCount, .mpt] s t ∧ answer st t
      ∧ (1 ≤ field.toNat ∧ field.toNat ≤ 42 → t.freeCount = s.freeCount)
    (¬ Holds p s → refused .notHolder)
    ∧ (Holds p s → s.pst.commitPending = true → refused .busy)
    ∧ (Holds p s → s.pst.commitPending = false → ¬ Writable field value → refused .range)
    ∧ (Holds p s → s.pst.commitPending = false → Writable field value →
      ∃ t, exec (.writeField p field value) s = .next t ∧ OnlyChanges [.pst, .mpt] s t
        ∧ answer .ok t
        ∧ t.pst.staging.word field.toNat = value
        ∧ (∀ k, 1 ≤ k → k ≤ 42 → k ≠ field.toNat → t.pst.staging.word k = s.pst.staging.word k)
        ∧ t.pst = { s.pst with staging := t.pst.staging, claim := some ⟨p, s.timebase + 120000⟩ })

/-- R136 with the widths of R187: READ_FIELD. The time left of a claim whose expiry has passed is left open
by the spec (assumption 12). The model's reading: a request refused with RANGE carries nothing (assumption
14), and the layout of the payload (assumption 15). -/
def Obligations.ReadField : Prop :=
  ∀ (p : Port) (field slot : Byte) (s : State), Free p s →
    (field.toNat < 1 ∨ 42 < field.toNat ∨ 1 < slot.toNat →
      ∃ t, exec (.readField p field slot) s = .next t ∧ OnlyChanges [.mpt] s t
        ∧ Answered p 0x32 .range [] s t)
    ∧ (1 ≤ field.toNat → field.toNat ≤ 42 → slot.toNat ≤ 1 →
      ∃ t l, exec (.readField p field slot) s = .next t ∧ OnlyChanges [.freeCount, .mpt] s t
        ∧ Answered p 0x32 .ok l s t ∧ l.length = 13
        ∧ At l 0 4 ((if slot.toNat = 0 then s.pst.active else s.pst.staging).word field.toNat).toNat
        ∧ (s.pst.claim = none → At l 4 1 0 ∧ AtOpt l 5 4 none ∧ t.freeCount = s.freeCount)
        ∧ (∀ c, s.pst.claim = some c → At l 4 1 c.holder.num ∧ At l 5 1 1
          ∧ (s.timebase ≤ c.expiry →
              At l 6 4 (c.expiry - s.timebase : Nat) ∧ t.freeCount = s.freeCount))
        ∧ At l 10 1 (ofFlag s.pst.commitPending)
        ∧ At l 11 1 (match s.pst.nv.writing with
            | none => 0 | some (.profile _) => 1 | some (.totals _) => 2)
        ∧ At l 12 1 ((if Region.profile ∈ s.pst.nv.waiting.map NvJob.region then 1 else 0)
            + (if Region.totals ∈ s.pst.nv.waiting.map NvJob.region then 2 else 0)))

namespace Sys2Proof.Claim

/-- The cross-field checks of R140 by number. -/
def CheckHolds (x : Profile) : Nat → Prop
  | 1 => x.vMin < x.vMax
  | 2 => x.tripMargin ≤ x.watchMargin
  | 3 => x.thetaMin ≤ x.thetaInit ∧ x.thetaInit ≤ x.thetaMax
  | 4 => 1 ≤ x.depCount ∧ x.depCount ≤ 8
      ∧ ∀ i a b, (x.points.take x.depCount)[i]? = some a →
        (x.points.take x.depCount)[i + 1]? = some b → a.phi < b.phi
  | 5 => ∀ g ∈ [(0, x.spacingAB), (1, x.spacingBC), (2, x.spacingCD)], g.1 + 2 ≤ x.ringCount →
      1 ≤ g.2 * x.fs / x.vMax ∧ g.2 * x.fs / x.vMax < 2048 - 2 * x.n
  | 6 => x.stopVel < x.vMax
  | _ => True

/-- A write of the profile region is in progress or waiting (R139). -/
def ProfileWriting (s : State) : Prop :=
  (∃ x, s.pst.nv.writing = some (.profile x)) ∨ ∃ x, NvJob.profile x ∈ s.pst.nv.waiting

end Sys2Proof.Claim

/-- R139, R140, R143 with R186 and R187: COMMIT_EDIT, with the first check that fails and, for check 5, the
first gap. The model's reading: a COMMIT_EDIT refused with NOT_HOLDER or BUSY carries nothing (assumption
14), and the gap has a presence byte (assumption 15). -/
def Obligations.CommitEdit : Prop :=
  ∀ (p : Port) (s : State), Free p s →
    let x := s.pst.staging
    let refused := fun (st : Status) => ∃ t, exec (.commitEdit p) s = .next t
      ∧ OnlyChanges [.mpt] s t ∧ Answered p 0x33 st [] s t
    (¬ Holds p s → refused .notHolder)
    ∧ (Holds p s → s.pst.commitPending = true → refused .busy)
    ∧ (Holds p s → s.pst.commitPending = false → ProfileWriting s → refused .busy)
    ∧ (∀ k, 1 ≤ k → k ≤ 6 → Holds p s → s.pst.commitPending = false → ¬ ProfileWriting s →
        (∀ j < k, CheckHolds x j) → ¬ CheckHolds x k →
        ∃ t l, exec (.commitEdit p) s = .next t ∧ OnlyChanges [.mpt] s t
          ∧ Answered p 0x33 .invalid l s t ∧ l.length = 3 ∧ At l 0 1 k
          ∧ (k ≠ 5 → AtOpt l 1 1 none)
          ∧ (k = 5 → ∃ g : Nat, AtOpt l 1 1 (some (g : Int)) ∧
              (let gaps := [x.spacingAB, x.spacingBC, x.spacingCD]
               let good := fun s : Nat => 1 ≤ s * x.fs / x.vMax ∧ s * x.fs / x.vMax < 2048 - 2 * x.n
               g + 2 ≤ x.ringCount ∧ (∃ s, gaps[g]? = some s ∧ ¬ good s)
               ∧ ∀ j < g, ∀ s, gaps[j]? = some s → good s)))
    ∧ (Holds p s → s.pst.commitPending = false → ¬ ProfileWriting s →
        (∀ k, 1 ≤ k → k ≤ 6 → CheckHolds x k) →
        ∃ t l, exec (.commitEdit p) s = .next t ∧ OnlyChanges [.pst, .mpt] s t
          ∧ Answered p 0x33 .ok l s t ∧ l.length = 1
          ∧ At l 0 1 (if x.fs = s.pst.active.fs ∧ x.n = s.pst.active.n
              ∧ x.ringCount = s.pst.active.ringCount then 0 else 1)
          ∧ t.pst = { s.pst with commitPending := true,
                                 claim := some ⟨p, s.timebase + 120000⟩ })

/-- R116, R145, R146, R159: the completion of a write whose read-back agrees, and of one whose read-back
does not, after which what the region holds is left open. -/
def Obligations.NvWriteCompletion : Prop :=
  ∀ (job : NvJob) (s : State), s.power = .running → s.pst.nv.writing = some job →
    let started := fun v : Nv => v.writing = s.pst.nv.waiting.head? ∧ v.waiting = s.pst.nv.waiting.tail
    (∃ t, exec (.nvWriteCompletion true) s = .next t ∧ OnlyChanges [.pst] s t
      ∧ t.pst = { s.pst with nv := t.pst.nv } ∧ started t.pst.nv
      ∧ (∀ x, job = .profile x → t.pst.nv.profileRegion = some x
        ∧ t.pst.nv.totalsRegion = s.pst.nv.totalsRegion)
      ∧ (∀ x, job = .totals x → t.pst.nv.totalsRegion = some x
        ∧ t.pst.nv.profileRegion = s.pst.nv.profileRegion))
    ∧ (∃ t, exec (.nvWriteCompletion false) s = .next t
      ∧ OnlyChanges [.freeCount, .pst, .efu] s t
      ∧ t.pst = { s.pst with nv := t.pst.nv } ∧ started t.pst.nv
      ∧ (∀ x, job = .profile x → t.pst.nv.totalsRegion = s.pst.nv.totalsRegion)
      ∧ (∀ x, job = .totals x → t.pst.nv.profileRegion = s.pst.nv.profileRegion)
      ∧ (∀ p, hasKind (t.efu.ports.get p).posted .nvWriteFailed = true)
      ∧ (∀ x, job = .profile x → Recorded ⟨.region .profile, .nvWriteFailed⟩ s t)
      ∧ (∀ x, job = .totals x → Recorded ⟨.region .totals, .nvWriteFailed⟩ s t))

namespace Sys2Proof.Claim

/-- A frame that closes the window while a commit waits. -/
def ClosesWithCommit (fr : Frame) (s : State) : Prop :=
  AtBoundary fr s ∧ s.pst.commitPending = true

end Sys2Proof.Claim

/-- R142, R143 with R15, R36, R69, R96, R85, R89, R110, R114, R124, R150, R177: a commit applied at its
boundary, with the write that it queues, the RAW copy that a geometry commit abandons and the predictions
that it rescales. R15, R110: a geometry commit posts no change of a ring's health, and no commit moves the
guard. What a completion without pairs publishes at a boundary that applies a commit is
CorrelatorAtBoundary's: the blocks it publishes to are spoken of here where the boundary gives none, or the
commit is a geometry commit. The model's reading: the order of the blocks at a boundary (assumption 8), that
of the commit and the totals clear (assumption 9), a rescaled prediction taken modulo 2³² (assumption 23),
and the order and widths of the values under the CRC-16 of the queued write (assumption 11). MODEL'S CHOICE
(assumption 18): a ring that is not configured under the new profile is unseeded too, where R14 speaks of the
configured rings. -/
def Obligations.CommitApplied : Prop :=
  ∀ (fr : Frame) (s : State), ClosesWithCommit fr s →
    let old := s.pst.active
    let new := s.pst.staging
    let geometry := old.fs ≠ new.fs ∨ old.n ≠ new.n ∨ old.ringCount ≠ new.ringCount
    ∃ t, exec .replyDeadline s = .next t
      ∧ t.pst.active = new ∧ t.pst.staging = new ∧ t.pst.claim = none ∧ t.pst.commitPending = false
      ∧ (∀ p, hasKind (t.efu.ports.get p).posted .profileApplied = true)
      ∧ (t.pst.nv.writing = some (.profile (imageOf new))
        ∨ NvJob.profile (imageOf new) ∈ t.pst.nv.waiting)
      ∧ (∀ p r, s.cap.state = .filling → s.cap.owner = some p → s.cap.content = some (.raw r) →
          (geometry → t.cap = { s.cap with
              state := .full, buffer := [], count := 0, empty := true
              header := s.cap.header.map fun h => { h with raw := none, corr := none } }
            ∧ hasKind (t.efu.ports.get p).posted .captureDone = true)
          ∧ (¬ geometry → t.cap = s.cap))
      ∧ t.xcr.windowNumber = s.xcr.windowNumber + 1
      ∧ (geometry →
          t.sfe.fill = 0 ∧ t.sfe.windowPos = 0 ∧ t.sfe.ready = false
          ∧ t.sfe.lastIndex = fr.index ∧ t.sfe.nextIndex = s.sfe.nextIndex
          ∧ (∀ r, (t.sfe.rings.get r).health = .healthy ∧ (t.sfe.rings.get r).hist = []
            ∧ (t.sfe.rings.get r).seeded = false)
          ∧ t.xcr.state = .idle ∧ t.xcr.results = s.xcr.results
          ∧ t.stk.table = [] ∧ t.stk.sumCount = 0
          ∧ (s.efu.stats.slugsCompleted < 4294967295 →
              t.efu.stats.slugsCompleted = s.efu.stats.slugsCompleted →
              let ahead := fun e : Departed => (e.predicted - fr.index).toInt
              let scaled := fun e : Departed =>
                fr.index + BitVec.ofNat 32 (round ((ahead e).toNat * new.fs) old.fs)
              t.stk.departed = (s.stk.departed.filter fun e => decide (0 ≤ ahead e)).map fun e =>
                { e with predicted := if old.fs = new.fs then e.predicted else scaled e })
          ∧ (∀ r, (t.stk.rings.get r).theta = new.thetaInit
            ∧ (t.stk.rings.get r).detector = .armed)
          ∧ t.fsv.record.status = .filling ∧ t.fsv.record.v = 0 ∧ t.fsv.record.span = 0
          ∧ t.fsv.record.window = s.fsv.record.window ∧ t.fsv.record.phi = s.fsv.record.phi
          ∧ t.fsv.record.vDep = s.fsv.record.vDep ∧ t.fsv.record.line = s.fsv.record.line
          ∧ t.fsv.hold = 0 ∧ t.fsv.lastV = none ∧ t.fsv.spanBase = s.xcr.windowNumber + 1
          ∧ ∀ p, ∀ k ∈ [EventKind.ringFailed, .ringRestored],
              hasKind (t.efu.ports.get p).posted k = hasKind (s.efu.ports.get p).posted k)
      ∧ (geometry ∨ ¬ EmptyCompletion s t → t.dgd = s.dgd ∧
          (s.tot.clearPending = false →
            t.pst.nv = s.pst.nv.queue (.profile (imageOf new))) ∧
          (old.carrierCode ≠ new.carrierCode →
            t.fsv.sigma = new.carrierCode ∧ t.fsv.sigmaSource = .profile)
          ∧ (old.carrierCode = new.carrierCode → t.fsv.sigma = s.fsv.sigma
            ∧ t.fsv.sigmaSource = s.fsv.sigmaSource)
          ∧ (old.bore ≠ new.bore → t.fsv.area = round (new.bore ^ 2 * 51472) 65536)
          ∧ (old.bore = new.bore → t.fsv.area = s.fsv.area)
          ∧ t.fsv.flush = s.fsv.flush ∧ t.fsv.acc = s.fsv.acc ∧ t.fsv.drift = s.fsv.drift
          ∧ t.fsv.line = s.fsv.line ∧ t.fsv.armCount = s.fsv.armCount
          ∧ (s.tot.clearPending = false → old.fs = new.fs → t.tot = s.tot)
          ∧ (s.tot.clearPending = false → old.fs ≠ new.fs → s.tot.rate = old.fs → t.tot = { s.tot with
              volumeResidue := s.tot.volumeResidue * new.fs / old.fs
              solidsResidue := s.tot.solidsResidue * new.fs / old.fs
              rate := new.fs })
          ∧ (s.tot.clearPending = true → t.tot.volume = 0 ∧ t.tot.solids = 0
            ∧ t.tot.volumeResidue = 0 ∧ t.tot.solidsResidue = 0 ∧ t.tot.clearPending = false)
          ∧ (old.pulseBasis ≠ new.pulseBasis ∨ old.pulseWeight ≠ new.pulseWeight →
            t.pls.credit = 0 ∧ t.pls.emitted = 0 ∧ t.pls.lost = 0 ∧ t.pls.gen = .idle
            ∧ t.pls.pulse = false)
          ∧ (old.pulseBasis = new.pulseBasis → old.pulseWeight = new.pulseWeight →
            t.pls = s.pls))

namespace Sys2Proof.Claim

/-- A snapshot carries the CRC-16 of its items (R115, R144). -/
def Sealed : NvJob → Prop
  | .profile x => x.check = profileCheck x.profile
  | .totals c => c.check = totalsCheck c

/-- The profile store: the active profile is acceptable, every staging field lies in its range, the staging
profile equals the active one while no port holds the claim, a pending commit has a holder and an
acceptable staging profile, and the device keeps at most one waiting write per region and none while it
is IDLE, each of its snapshots with its check (R115, R129, R131, R132, R133, R141, R144, R145). -/
def StoreAgrees (s : State) : Prop :=
  s.pst.Wf ∧ (s.pst.commitPending = true → s.pst.claim ≠ none)
  ∧ (s.pst.nv.waiting.map NvJob.region).Nodup
  ∧ (s.pst.nv.writing = none → s.pst.nv.waiting = [])
  ∧ ∀ j, s.pst.nv.writing = some j ∨ j ∈ s.pst.nv.waiting → Sealed j

end Sys2Proof.Claim

/-- R115, R129, R131, R132, R141, R144, R145, R148: every step keeps the profile store so. The model's
reading: the order and widths of the items under the CRC-16 of a snapshot (assumption 11). -/
def Obligations.StoreAgreesKept : Prop := KeptByEveryStep StoreAgrees

/-! ### Events, faults and statistics -/

namespace Sys2Proof.Claim

/-- A port's ATN line after its three items have changed (R155). -/
def driven (posted enable : EventSet) (threshold : Nat) : Prop :=
  ∃ k : EventKind, posted.getLsbD k.num = true ∧ enable.getLsbD k.num = true ∧ threshold < k.level

end Sys2Proof.Claim

/-- R154, R155, R156 with the widths of R187: TAKE_EVENTS and SET_ATTENTION. The model's reading:
SET_ATTENTION refused with RANGE carries its items too (assumption 14), and the threshold of its response has
the two bytes of the width table's thresholds (assumption 15). -/
def Obligations.TakeAndSetEvents : Prop :=
  ∀ (p : Port) (kinds : BitVec 16) (level : Byte) (s : State), Free p s →
    let a := s.efu.ports.get p
    let others := fun t : State => t.efu.faults = s.efu.faults ∧ t.efu.full = s.efu.full
      ∧ t.efu.stats = s.efu.stats ∧ ∀ q, q ≠ p → t.efu.ports.get q = s.efu.ports.get q
    (∃ t l, exec (.takeEvents p kinds) s = .next t ∧ OnlyChanges [.efu, .mpt] s t ∧ others t
      ∧ Answered p 0x20 .ok l s t ∧ l.length = 4 ∧ At l 0 2 a.posted.toNat
      ∧ At l 2 2 (t.efu.ports.get p).posted.toNat
      ∧ (∀ k, hasKind (t.efu.ports.get p).posted k = (hasKind a.posted k && !hasKind kinds k))
      ∧ (t.efu.ports.get p).enable = a.enable ∧ (t.efu.ports.get p).threshold = a.threshold
      ∧ ((t.efu.ports.get p).atn = true
          ↔ driven (t.efu.ports.get p).posted a.enable a.threshold))
    ∧ (7 < level.toNat → ∃ t l, exec (.setAttention p kinds level) s = .next t
      ∧ OnlyChanges [.mpt] s t ∧ Answered p 0x21 .range l s t ∧ l.length = 7
      ∧ At l 0 2 a.enable.toNat ∧ At l 2 2 a.threshold ∧ At l 4 2 a.posted.toNat
      ∧ At l 6 1 (ofFlag a.atn))
    ∧ (level.toNat ≤ 7 → ∃ t l, exec (.setAttention p kinds level) s = .next t
      ∧ OnlyChanges [.efu, .mpt] s t ∧ others t ∧ Answered p 0x21 .ok l s t ∧ l.length = 7
      ∧ At l 0 2 kinds.toNat ∧ At l 2 2 level.toNat ∧ At l 4 2 a.posted.toNat
      ∧ At l 6 1 (ofFlag (t.efu.ports.get p).atn)
      ∧ (t.efu.ports.get p).posted = a.posted ∧ (t.efu.ports.get p).enable = kinds
      ∧ (t.efu.ports.get p).threshold = level.toNat
      ∧ ((t.efu.ports.get p).atn = true ↔ driven a.posted kinds level.toNat))

namespace Sys2Proof.Claim

/-- The fault map holds at most twelve entries with distinct keys, each counted from 1 to 65,535, and an
entry of an occurrence kind is never active; every statistics counter fits its 32 bits (R158, R164). -/
def ReportsAgree (s : State) : Prop :=
  s.efu.faults.length ≤ 12 ∧ (s.efu.faults.map (·.key)).Nodup
  ∧ (∀ e ∈ s.efu.faults, 1 ≤ e.occurrences ∧ e.occurrences ≤ 65535
    ∧ (e.active = true → e.key.kind ∈ [FaultKind.sampleSaturated, .sampleMissing, .signalFlat,
        .carrierDrift, .clockFallback]))
  ∧ ∀ c ∈ s.efu.stats.toList, c < 2 ^ 32

end Sys2Proof.Claim

/-- R158 to R162, R164, R167: every step keeps the fault map and the counters so. -/
def Obligations.ReportsAgreeKept : Prop := KeptByEveryStep ReportsAgree

namespace Sys2Proof.Claim

/-- The 37 counters in the order of R164. -/
def counters (c : Stats) : List Nat :=
  [c.windowsClosed, c.completed, c.skipped, c.discardedLate, c.unformable,
   c.recCorrelated, c.recSlug, c.recHeld, c.recLost,
   c.valid.get .s0, c.valid.get .s1, c.valid.get .s2,
   c.slugsCreated, c.slugsCompleted, c.stale, c.evicted, c.unmatched, c.runts, c.long,
   c.departedDropped, c.occupancy, c.transitSum, c.transitCount,
   c.substituted.get .a, c.substituted.get .b, c.substituted.get .c, c.substituted.get .d,
   c.saturated.get .a, c.saturated.get .b, c.saturated.get .c, c.saturated.get .d,
   c.checkErrors.get .p1, c.checkErrors.get .p2, c.checkErrors.get .p3,
   c.overruns.get .p1, c.overruns.get .p2, c.overruns.get .p3]

/-- A payload carries the 37 counters (R166). -/
def CarriesCounters (l : List Byte) (c : Stats) : Prop :=
  l.length = 148 ∧ ∀ i x : Nat, (counters c)[i]? = some x → At l (4 * i) 4 x

end Sys2Proof.Claim

/-- R162, R163, R166 with the widths of R187: READ_FAULTS, CLEAR_FAULTS, READ_STATS and CLEAR_STATS. The
model's reading: the number of entries of READ_FAULTS is the count of its collection (assumption 15). -/
def Obligations.ReportRequests : Prop :=
  ∀ (p : Port) (s : State), Free p s →
    (∃ t l, exec (.readFaults p) s = .next t ∧ OnlyChanges [.mpt] s t ∧ Answered p 0x17 .ok l s t
      ∧ l.length = 6 + 13 * s.efu.faults.length
      ∧ At l 0 1 (ofFlag s.efu.full) ∧ At l 1 1 s.efu.faults.length
      ∧ At l 2 4 s.xcr.windowNumber.toNat
      ∧ ∀ i e, s.efu.faults[i]? = some e →
        At l (6 + 13 * i) 1 (match e.key.source with
          | .ring r => ringCode r | .clock => 4 | .correlator => 5 | .carrier => 6 | .totalizer => 7
          | .pulseUnit => 8 | .region .profile => 9 | .region .totals => 10)
        ∧ At l (7 + 13 * i) 1 (match e.key.kind with
          | .sampleSaturated => 0 | .sampleMissing => 1 | .signalFlat => 2 | .carrierDrift => 3
          | .clockFallback => 4 | .correlationLate => 5 | .flushUnstable => 6 | .totalsLost => 7
          | .pulseOverrun => 8 | .nvWriteFailed => 9 | .profileLost => 10)
        ∧ At l (8 + 13 * i) 4 e.first.toNat ∧ At l (12 + 13 * i) 4 e.last.toNat
        ∧ At l (16 + 13 * i) 2 e.occurrences ∧ At l (18 + 13 * i) 1 (ofFlag e.active))
    ∧ (∃ t l, exec (.clearFaults p) s = .next t ∧ OnlyChanges [.efu, .mpt] s t
      ∧ Answered p 0x60 .ok l s t ∧ l.length = 2
      ∧ At l 0 1 (s.efu.faults.countP fun e => !e.active)
      ∧ At l 1 1 (s.efu.faults.countP fun e => e.active)
      ∧ t.efu = { s.efu with full := false, faults := t.efu.faults }
      ∧ t.efu.faults.Sublist s.efu.faults
      ∧ ∀ e, e ∈ t.efu.faults ↔ e ∈ s.efu.faults ∧ e.active = true)
    ∧ (∃ t l, exec (.readStats p) s = .next t ∧ OnlyChanges [.mpt] s t ∧ Answered p 0x16 .ok l s t
      ∧ CarriesCounters l s.efu.stats)
    ∧ ∃ t l, exec (.clearStats p) s = .next t ∧ OnlyChanges [.efu, .mpt] s t
      ∧ Answered p 0x61 .ok l s t ∧ CarriesCounters l s.efu.stats
      ∧ t.efu = { s.efu with stats := t.efu.stats }
      ∧ ∀ x ∈ counters t.efu.stats, x = 0

/-! ### The capture unit -/

namespace Sys2Proof.Claim

/-- The content that the first two bytes of an ARM_CAPTURE name (R170, R188). -/
def contentOf (content which : Byte) : Option Content :=
  match content.toNat, which.toNat with
  | 0, 0 => some (.raw .a)
  | 0, 1 => some (.raw .b)
  | 0, 2 => some (.raw .c)
  | 0, 3 => some (.raw .d)
  | 1, 0 => some (.correlogram .s0)
  | 1, 1 => some (.correlogram .s1)
  | 1, 2 => some (.correlogram .s2)
  | _, _ => none

/-- The trigger that the third byte names (R188). -/
def triggerOf (x : Byte) : Option Trigger :=
  match x.toNat with
  | 0 => some .immediate
  | 1 => some .guardTripped
  | 2 => some .velocityLost
  | 3 => some .ringFailed
  | 4 => some .slugDeparted
  | _ => none

/-- The ring of a RAW content is configured (R170). -/
def MayArm (s : State) : Content → Prop
  | .raw r => Configured s r
  | .correlogram _ => True

/-- Another port owns the capture unit. -/
def OwnedByOther (p : Port) (s : State) : Prop := ∃ o, s.cap.owner = some o ∧ o ≠ p

end Sys2Proof.Claim

/-- R170, R171, R172: ARM_CAPTURE, by the rows of its table, and IMMEDIATE's trigger. The model's reading:
content is one optional item of two bytes (assumption 15), and a RAW capture takes its values as the trigger
finds them (assumption 26). -/
def Obligations.ArmCapture : Prop :=
  ∀ (p : Port) (content which trigger : Byte) (s : State), Free p s →
    let report := fun (l : List Byte) (c : Cap) =>
      At l 0 1 (match c.owner with | none => 0 | some q => (q.num : Int))
      ∧ At l 1 1 (match c.state with | .idle => 0 | .armed => 1 | .filling => 2 | .full => 3)
      ∧ At l 2 1 (if c.content = none then 0 else 1)
      ∧ (∀ x, c.content = some x → At l 3 1 (match x with | .raw _ => 0 | .correlogram _ => 1)
        ∧ At l 4 1 (match x with | .raw r => ringCode r | .correlogram k => (slotCode k : Int)))
      ∧ AtOpt l 5 1 (c.trigger.map fun x => match x with
          | .immediate => 0 | .guardTripped => 1 | .velocityLost => 2 | .ringFailed => 3
          | .slugDeparted => 4)
    let refused := fun (st : Status) => ∃ t l, exec (.armCapture p content which trigger) s = .next t
      ∧ OnlyChanges [.mpt] s t ∧ Answered p 0x50 st l s t ∧ l.length = 7 ∧ report l s.cap
    (OwnedByOther p s → refused .held)
    ∧ (¬ OwnedByOther p s → s.cap.state = .filling → refused .busy)
    ∧ (¬ OwnedByOther p s → s.cap.state = .full → refused .state)
    ∧ (¬ OwnedByOther p s → s.cap.state = .idle ∨ s.cap.state = .armed →
        (∀ c x, contentOf content which = some c → triggerOf trigger = some x → ¬ MayArm s c) →
        refused .range)
    ∧ (∀ c x, ¬ OwnedByOther p s → s.cap.state = .idle ∨ s.cap.state = .armed →
        contentOf content which = some c → triggerOf trigger = some x → MayArm s c →
        ∃ t l, exec (.armCapture p content which trigger) s = .next t
          ∧ OnlyChanges [.cap, .mpt] s t ∧ Answered p 0x50 .ok l s t ∧ l.length = 7 ∧ report l t.cap
          ∧ t.cap.owner = some p ∧ t.cap.content = some c ∧ t.cap.trigger = some x
          ∧ (x ≠ .immediate → t.cap.state = .armed ∧ t.cap.header = none ∧ t.cap.buffer = []
            ∧ t.cap.count = 0 ∧ t.cap.empty = false)
          ∧ (x = .immediate → t.cap.state = .filling
            ∧ (∀ k, c = .correlogram k →
              t.cap.header = some ⟨s.xcr.windowNumber, s.sfe.lastIndex, none, none⟩
              ∧ t.cap.buffer = [])
            ∧ ∀ r, c = .raw r →
              t.cap.header = some ⟨s.xcr.windowNumber, s.sfe.lastIndex,
                some ⟨r, s.sfe.lastIndex, min 1024 s.sfe.fill⟩, none⟩
              ∧ t.cap.buffer.length = 1024
              ∧ ∀ i, i < 1024 → t.cap.buffer[i]?
                = some ((s.sfe.rings.get r).hist.getD (1023 - i) 0)))

/-- R175 with R174 and the widths of R187: READ_CAPTURE, by the rows of its table. The model's reading: each
header item with cases has its own presence byte (assumption 15). -/
def Obligations.ReadCapture : Prop :=
  ∀ (p : Port) (offset : BitVec 16) (s : State), Free p s →
    let c := s.cap
    let stateCode : Int := match c.state with | .idle => 0 | .armed => 1 | .filling => 2 | .full => 3
    let answers := fun (st : Status) (post : List Byte → Prop) =>
      ∃ t l, exec (.readCapture p offset) s = .next t ∧ OnlyChanges [.mpt] s t
        ∧ Answered p 0x51 st l s t ∧ post l
    (c.owner ≠ some p → answers .notHolder (fun l => l.length = 2
      ∧ At l 0 1 (match c.owner with | none => 0 | some q => (q.num : Int)) ∧ At l 1 1 stateCode))
    ∧ (∀ x y, c.owner = some p → c.state = .armed ∨ c.state = .filling → c.content = some x →
      c.trigger = some y → answers .state (fun l => l.length = 4 ∧ At l 0 1 stateCode
        ∧ At l 1 1 (match x with | .raw _ => 0 | .correlogram _ => 1)
        ∧ At l 2 1 (match x with | .raw r => ringCode r | .correlogram k => (slotCode k : Int))
        ∧ At l 3 1 (match y with
          | .immediate => 0 | .guardTripped => 1 | .velocityLost => 2 | .ringFailed => 3
          | .slugDeparted => 4)))
    ∧ (c.owner = some p → c.state = .full → 1023 < offset.toNat →
      answers .range (fun l => l.length = 1 ∧ At l 0 1 stateCode))
    ∧ (∀ x y h, c.owner = some p → c.state = .full → offset.toNat ≤ 1023 → c.content = some x →
      c.trigger = some y → c.header = some h → c.buffer.length = c.count →
      let n := min 60 (c.count - offset.toNat)
      let w := match x with | .raw _ => 2 | .correlogram _ => 4
      answers .ok (fun l => l.length = 55 + w * n
        ∧ At l 0 1 (match x with | .raw _ => 0 | .correlogram _ => 1)
        ∧ At l 1 1 (match y with
          | .immediate => 0 | .guardTripped => 1 | .velocityLost => 2 | .ringFailed => 3
          | .slugDeparted => 4)
        ∧ At l 2 4 h.window.toNat ∧ At l 6 4 h.index.toNat ∧ At l 10 1 (ofFlag c.empty)
        ∧ At l 11 2 c.count
        ∧ AtOpt l 13 1 (h.raw.map fun z => ringCode z.ring)
        ∧ AtOpt l 15 4 (h.raw.map fun z => (z.newest.toNat : Int))
        ∧ AtOpt l 20 2 (h.raw.map fun z => (z.stored : Int))
        ∧ AtOpt l 23 4 (h.corr.map fun z => (z.window.toNat : Int))
        ∧ AtOpt l 28 1 (h.corr.map fun z => (slotCode z.slot : Int))
        ∧ AtOpt l 30 1 (h.corr.map fun z => ringCode z.up)
        ∧ AtOpt l 32 1 (h.corr.map fun z => ringCode z.down)
        ∧ AtOpt l 34 2 (h.corr.map fun z => (z.spacing : Int))
        ∧ AtOpt l 37 2 (h.corr.map fun z => (z.lmin : Int))
        ∧ AtOpt l 40 2 (h.corr.map fun z => (z.lmax : Int))
        ∧ AtOpt l 43 1 (h.corr.map fun z => ofFlag z.rangeCut)
        ∧ AtOpt l 45 2 (h.corr.map fun z => (z.kp : Int))
        ∧ AtOpt l 48 1 (h.corr.bind fun z => z.reason.map fun w => match w with
          | .noPeak => 1 | .edge => 2 | .lowQuality => 3)
        ∧ AtOpt l 50 1 (h.corr.map fun z => (z.shift : Int))
        ∧ At l 52 2 offset.toNat ∧ At l 54 1 n
        ∧ ∀ i v, i < n → c.buffer[offset.toNat + i]? = some v → At l (55 + w * i) w v))

namespace Sys2Proof.Claim

/-- The posting of CAPTURE_DONE to the owner and to no other port (R152, R174). -/
def DoneTo (p : Port) (s t : State) : Prop :=
  hasKind (t.efu.ports.get p).posted .captureDone = true
  ∧ (∀ k, k ≠ .captureDone →
      hasKind (t.efu.ports.get p).posted k = hasKind (s.efu.ports.get p).posted k)
  ∧ ∀ q, q ≠ p → t.efu.ports.get q = s.efu.ports.get q

end Sys2Proof.Claim

/-- R172, R174, R176: the end of a RAW copy, and RELEASE_CAPTURE. The model's reading: a RAW copy's values
are those its trigger found (assumption 26), and a copy's end told without a copy changes nothing
(assumption 2). -/
def Obligations.CaptureEndsAndRelease : Prop :=
  ∀ (p : Port) (s : State), s.power = .running →
    (∀ r, s.cap.state = .filling → s.cap.owner = some p → s.cap.content = some (.raw r) →
      ∃ t, exec .captureCopyCompletion s = .next t ∧ OnlyChanges [.cap, .efu] s t ∧ DoneTo p s t
        ∧ t.cap = { s.cap with state := .full, count := s.cap.buffer.length, empty := false })
    ∧ (s.cap.state ≠ .filling ∨ (∀ r, s.cap.content ≠ some (.raw r)) →
      exec .captureCopyCompletion s = .next s)
    ∧ ((s.mpt.get p).tx = .free → s.cap.owner = none → ∃ t, exec (.releaseCapture p) s = .next t
      ∧ OnlyChanges [.mpt] s t ∧ Answered p 0x52 .state [] s t)
    ∧ (∀ o, (s.mpt.get p).tx = .free → s.cap.owner = some o → o ≠ p →
      ∃ t l, exec (.releaseCapture p) s = .next t ∧ OnlyChanges [.mpt] s t
        ∧ Answered p 0x52 .notHolder l s t ∧ l.length = 1 ∧ At l 0 1 o.num)
    ∧ ((s.mpt.get p).tx = .free → s.cap.owner = some p → ∃ t, exec (.releaseCapture p) s = .next t
      ∧ OnlyChanges [.cap, .mpt] s t ∧ Answered p 0x52 .ok [] s t
      ∧ t.cap = ⟨none, .idle, none, none, none, [], 0, false⟩)

/-- R171, R172, R173, R174: what a completion does to a correlogram capture that waits for it, with the
header items it records, and what an event of the publication, or a ring's failure at any boundary, does to a
capture ARMED on it; a correlogram triggered by a boundary that also gives a completion without pairs
completes EMPTY at once. (SLUG_DEPARTED is spoken of where slugs complete, and the other captures at a
completion without pairs in CorrelatorAtBoundary.) The model's choice: the copy comes before the publication
(assumption 28), and a RAW capture takes its values as the trigger finds them (assumption 26). The model's
reading: the rings are graded before a completion without pairs is given (assumption 8). -/
def Obligations.CaptureAtCompletion : Prop :=
  (∀ (f : InFlight) (s : State), InFlightNow f s →
    ∃ t, exec .correlationCompletion s = .next t
      ∧ (∀ k p, s.cap.state = .filling → s.cap.owner = some p → s.cap.content = some (.correlogram k) →
          t.cap.state = .full ∧ hasKind (t.efu.ports.get p).posted .captureDone = true
          ∧ (f.pairs.get k = none → t.cap.empty = true ∧ t.cap.count = 0 ∧ t.cap.buffer = []
            ∧ t.cap.header = s.cap.header.map fun h => { h with raw := none, corr := none })
          ∧ ∀ e, f.pairs.get k = some e → e.lmin ≤ e.lmax → f.n ≤ 512 →
            let sum := sumAt s.sfe f e
            ∃ shift, shift ≤ 8 ∧ t.cap.empty = false ∧ t.cap.count = e.lmax - e.lmin + 1
              ∧ t.cap.buffer.length = e.lmax - e.lmin + 1
              ∧ (∀ i, i ≤ e.lmax - e.lmin → t.cap.buffer[i]? = some (sum (e.lmin + i) / 2 ^ shift))
              ∧ (∀ j < shift, ∃ i, i ≤ e.lmax - e.lmin ∧ 2 ^ 31 ≤ (sum (e.lmin + i)).natAbs / 2 ^ j)
              ∧ (shift < 8 → ∀ i, i ≤ e.lmax - e.lmin →
                  (sum (e.lmin + i)).natAbs / 2 ^ shift < 2 ^ 31)
              ∧ ∀ h x, s.cap.header = some h → t.xcr.results.get k = some x →
                  t.cap.header = some { h with corr := some ⟨f.window, e.slot, e.up, e.down, e.spacing,
                    e.lmin, e.lmax, e.rangeCut, x.kp,
                    (match x.verdict with | .valid _ => none | .invalid w => some w), shift⟩ })
      ∧ (ArmedOn .guardTripped s.cap →
          (s.dgd.state ≠ .tripped ∧ t.dgd.state = .tripped → Triggered s t)
          ∧ (s.dgd.state = .tripped ∨ t.dgd.state ≠ .tripped → t.cap = s.cap))
      ∧ (ArmedOn .velocityLost s.cap →
          (t.fsv.record.status = .lost ∧ s.fsv.record.status ≠ .lost → Triggered s t)
          ∧ (t.fsv.record.status ≠ .lost ∨ s.fsv.record.status = .lost → t.cap = s.cap)))
  ∧ ∀ (fr : Frame) (s : State), AtBoundary fr s → ArmedOn .ringFailed s.cap →
    ∃ t, exec .replyDeadline s = .next t
      ∧ ((∀ r, Configured s r → (s.sfe.rings.get r).health = .suspect →
          (t.sfe.rings.get r).health ≠ .failed) → t.cap = s.cap)
      ∧ ((∃ r, Configured s r ∧ (s.sfe.rings.get r).health = .suspect
          ∧ (t.sfe.rings.get r).health = .failed) →
        (¬ EmptyCompletion s t ∨ (∀ k, s.cap.content ≠ some (.correlogram k)) → Triggered s t)
        ∧ (EmptyCompletion s t → ∀ k, s.cap.content = some (.correlogram k) →
          t.cap = { s.cap with
            state := .full, buffer := [], count := 0, empty := true
            header := some ⟨t.xcr.windowNumber, t.sfe.lastIndex, none, none⟩ }
          ∧ ∀ p, s.cap.owner = some p → hasKind (t.efu.ports.get p).posted .captureDone = true))

namespace Sys2Proof.Claim

/-- The capture unit is IDLE exactly without an owner, and then holds nothing; otherwise it has a content
and a trigger; it has a header exactly while FILLING or FULL, a FULL one holds as many values as its
count says, and an EMPTY one none (R169, R174). -/
def CaptureAgrees (s : State) : Prop :=
  (s.cap.state = .idle ↔ s.cap.owner = none)
  ∧ (s.cap.state = .idle → s.cap = ⟨none, .idle, none, none, none, [], 0, false⟩)
  ∧ (s.cap.state ≠ .idle → s.cap.content ≠ none ∧ s.cap.trigger ≠ none)
  ∧ (s.cap.header ≠ none ↔ s.cap.state = .filling ∨ s.cap.state = .full)
  ∧ (s.cap.state = .full → s.cap.buffer.length = s.cap.count)
  ∧ (s.cap.state = .full → s.cap.empty = true → s.cap.count = 0)

end Sys2Proof.Claim

/-- R169, R171 to R174, R176 to R178: every step keeps the capture unit so. -/
def Obligations.CaptureAgreesKept : Prop := KeptByEveryStep CaptureAgrees

/-! ### Invariants after reset, and what does not arise -/

/-- The state after reset satisfies every invariant that the statements above say each step keeps. The
straps and the never-written device of State.reset are the model's choice (assumption 19), and so are the runs
and the seeded mark of a ring that is not configured (assumption 18). -/
def Obligations.ResetAgrees : Prop :=
  InFlightFits State.reset ∧ UnconfiguredAtRest State.reset
  ∧ TrackerFits State.reset ∧ ThresholdsInRange State.reset
  ∧ RecordAgrees State.reset
  ∧ LinesAgree State.reset ∧ TotalsAgree State.reset ∧ StoreAgrees State.reset
  ∧ ReportsAgree State.reset ∧ CaptureAgrees State.reset

/-- MODEL'S CHOICE (assumption 2): an event of the part that finds no part running changes nothing, nor does
one that finds nothing to end: a deadline without an open frame, a completion without a correlation, the
end of a write on an idle device, a gap or a response end on a port that is in no such state. -/
def Obligations.EventsOutOfPlace : Prop :=
  ∀ (r : Ring) (code : BitVec 16) (b : Bool) (p : Port) (x : Byte) (s : State),
    (s.power ≠ .running →
      ∀ c ∈ [Instr.frameStrobe, .ringReply r code b, .replyDeadline, .correlationCompletion,
        .pulseWidthElapsed, .gapElapsed, .crystalFailure, .stableTimeReached, .claimExpiry,
        .nvWriteCompletion b, .captureCopyCompletion, .byteReceived p x b, .idleGapElapsed p,
        .interByteTimeout p, .unknownCommand p x, .responseStart p, .responseEnd p],
      exec c s = .next s)
    ∧ (s.power = .off → exec .nrstAsserted s = .next s)
    ∧ (s.power ≠ .held → ∀ straps, exec (.nrstReleased straps) s = .next s)
    ∧ (s.sfe.frame = none → exec (.ringReply r code b) s = .next s ∧ exec .replyDeadline s = .next s)
    ∧ (s.xcr.state = .idle → exec .correlationCompletion s = .next s)
    ∧ (s.pst.nv.writing = none → exec (.nvWriteCompletion b) s = .next s)
    ∧ ((s.mpt.get p).rx ≠ .receiving → exec (.interByteTimeout p) s = .next s)
    ∧ ((s.mpt.get p).tx ≠ .preparing → exec (.responseStart p) s = .next s)
    ∧ ((s.mpt.get p).tx ≠ .sending → exec (.responseEnd p) s = .next s)
    ∧ ((s.mpt.get p).tx = .sending → exec (.byteReceived p x b) s = .next s)
    ∧ (x.toNat ∈ codes → exec (.unknownCommand p x) s = .next s)
end

