-- ==== Sys2Proof/Laws/State.lean ====
section
/-!
SUPPORT. Reading a field after one block has been replaced, and reading the containers of Word.lean.
-/

namespace Sys2Proof

@[simp] theorem PerRing.get_fill {α : Type} (x : α) (k : Ring) : (PerRing.fill x).get k = x := by
  cases k <;> rfl

@[simp] theorem PerRing.get_map {α β : Type} (f : Ring → α → β) (q : PerRing α) (k : Ring) :
    (q.map f).get k = f k (q.get k) := by
  cases k <;> rfl

@[simp] theorem PerRing.get_set_same {α : Type} (q : PerRing α) (k : Ring) (x : α) :
    (q.set k x).get k = x := by
  cases k <;> rfl

theorem PerRing.get_set_ne {α : Type} (q : PerRing α) (k j : Ring) (x : α) (h : j ≠ k) :
    (q.set k x).get j = q.get j := by
  cases k <;> cases j <;> first | rfl | exact absurd rfl h

theorem PerRing.get_set {α : Type} (q : PerRing α) (k j : Ring) (x : α) :
    (q.set k x).get j = if j = k then x else q.get j := by
  cases k <;> cases j <;> rfl

@[simp] theorem PerRing.set_set {α : Type} (q : PerRing α) (k : Ring) (x y : α) :
    (q.set k x).set k y = q.set k y := by
  cases k <;> rfl

@[simp] theorem PerRing.set_get {α : Type} (q : PerRing α) (k : Ring) : q.set k (q.get k) = q := by
  cases k <;> rfl

@[simp] theorem PerRing.get_build {α : Type} (f : Ring → α) (k : Ring) : (PerRing.build f).get k = f k := by
  cases k <;> rfl

theorem PerRing.ext_get {α : Type} (q r : PerRing α) (h : ∀ k, q.get k = r.get k) : q = r := by
  cases q; cases r
  have ha := h .a
  have hb := h .b
  have hc := h .c
  have hd := h .d
  simp only [PerRing.get] at ha hb hc hd
  subst ha hb hc hd; rfl

@[simp] theorem PerPort.get_fill {α : Type} (x : α) (k : Port) : (PerPort.fill x).get k = x := by
  cases k <;> rfl

@[simp] theorem PerPort.get_map {α β : Type} (f : Port → α → β) (q : PerPort α) (k : Port) :
    (q.map f).get k = f k (q.get k) := by
  cases k <;> rfl

@[simp] theorem PerPort.get_set_same {α : Type} (q : PerPort α) (k : Port) (x : α) :
    (q.set k x).get k = x := by
  cases k <;> rfl

theorem PerPort.get_set_ne {α : Type} (q : PerPort α) (k j : Port) (x : α) (h : j ≠ k) :
    (q.set k x).get j = q.get j := by
  cases k <;> cases j <;> first | rfl | exact absurd rfl h

theorem PerPort.get_set {α : Type} (q : PerPort α) (k j : Port) (x : α) :
    (q.set k x).get j = if j = k then x else q.get j := by
  cases k <;> cases j <;> rfl

@[simp] theorem PerPort.set_set {α : Type} (q : PerPort α) (k : Port) (x y : α) :
    (q.set k x).set k y = q.set k y := by
  cases k <;> rfl

@[simp] theorem PerPort.set_get {α : Type} (q : PerPort α) (k : Port) : q.set k (q.get k) = q := by
  cases k <;> rfl

theorem PerPort.ext_get {α : Type} (q r : PerPort α) (h : ∀ k, q.get k = r.get k) : q = r := by
  cases q; cases r
  have hp1 := h .p1
  have hp2 := h .p2
  have hp3 := h .p3
  simp only [PerPort.get] at hp1 hp2 hp3
  subst hp1 hp2 hp3; rfl

@[simp] theorem PerSlot.get_fill {α : Type} (x : α) (k : Slot) : (PerSlot.fill x).get k = x := by
  cases k <;> rfl

@[simp] theorem PerSlot.get_map {α β : Type} (f : Slot → α → β) (q : PerSlot α) (k : Slot) :
    (q.map f).get k = f k (q.get k) := by
  cases k <;> rfl

theorem PerSlot.ext_get {α : Type} (q r : PerSlot α) (h : ∀ k, q.get k = r.get k) : q = r := by
  cases q; cases r
  have hs0 := h .s0
  have hs1 := h .s1
  have hs2 := h .s2
  simp only [PerSlot.get] at hs0 hs1 hs2
  subst hs0 hs1 hs2; rfl

namespace Machine
namespace State

section
variable (s : State) (x : Power)

@[simp] theorem setPower_power : (s.setPower x).power = x := rfl
@[simp] theorem setPower_timebase : (s.setPower x).timebase = s.timebase := rfl
@[simp] theorem setPower_freeCount : (s.setPower x).freeCount = s.freeCount := rfl
@[simp] theorem setPower_sfe : (s.setPower x).sfe = s.sfe := rfl
@[simp] theorem setPower_xcr : (s.setPower x).xcr = s.xcr := rfl
@[simp] theorem setPower_stk : (s.setPower x).stk = s.stk := rfl
@[simp] theorem setPower_fsv : (s.setPower x).fsv = s.fsv := rfl
@[simp] theorem setPower_dgd : (s.setPower x).dgd = s.dgd := rfl
@[simp] theorem setPower_tot : (s.setPower x).tot = s.tot := rfl
@[simp] theorem setPower_pls : (s.setPower x).pls = s.pls := rfl
@[simp] theorem setPower_pst : (s.setPower x).pst = s.pst := rfl
@[simp] theorem setPower_efu : (s.setPower x).efu = s.efu := rfl
@[simp] theorem setPower_cap : (s.setPower x).cap = s.cap := rfl
@[simp] theorem setPower_mpt : (s.setPower x).mpt = s.mpt := rfl
@[simp] theorem setPower_pending : (s.setPower x).pending = s.pending := rfl

end

section
variable (s : State) (x : Nat)

@[simp] theorem setTimebase_power : (s.setTimebase x).power = s.power := rfl
@[simp] theorem setTimebase_timebase : (s.setTimebase x).timebase = x := rfl
@[simp] theorem setTimebase_freeCount : (s.setTimebase x).freeCount = s.freeCount := rfl
@[simp] theorem setTimebase_sfe : (s.setTimebase x).sfe = s.sfe := rfl
@[simp] theorem setTimebase_xcr : (s.setTimebase x).xcr = s.xcr := rfl
@[simp] theorem setTimebase_stk : (s.setTimebase x).stk = s.stk := rfl
@[simp] theorem setTimebase_fsv : (s.setTimebase x).fsv = s.fsv := rfl
@[simp] theorem setTimebase_dgd : (s.setTimebase x).dgd = s.dgd := rfl
@[simp] theorem setTimebase_tot : (s.setTimebase x).tot = s.tot := rfl
@[simp] theorem setTimebase_pls : (s.setTimebase x).pls = s.pls := rfl
@[simp] theorem setTimebase_pst : (s.setTimebase x).pst = s.pst := rfl
@[simp] theorem setTimebase_efu : (s.setTimebase x).efu = s.efu := rfl
@[simp] theorem setTimebase_cap : (s.setTimebase x).cap = s.cap := rfl
@[simp] theorem setTimebase_mpt : (s.setTimebase x).mpt = s.mpt := rfl
@[simp] theorem setTimebase_pending : (s.setTimebase x).pending = s.pending := rfl

end

section
variable (s : State) (x : Nat)

@[simp] theorem setFreeCount_power : (s.setFreeCount x).power = s.power := rfl
@[simp] theorem setFreeCount_timebase : (s.setFreeCount x).timebase = s.timebase := rfl
@[simp] theorem setFreeCount_freeCount : (s.setFreeCount x).freeCount = x := rfl
@[simp] theorem setFreeCount_sfe : (s.setFreeCount x).sfe = s.sfe := rfl
@[simp] theorem setFreeCount_xcr : (s.setFreeCount x).xcr = s.xcr := rfl
@[simp] theorem setFreeCount_stk : (s.setFreeCount x).stk = s.stk := rfl
@[simp] theorem setFreeCount_fsv : (s.setFreeCount x).fsv = s.fsv := rfl
@[simp] theorem setFreeCount_dgd : (s.setFreeCount x).dgd = s.dgd := rfl
@[simp] theorem setFreeCount_tot : (s.setFreeCount x).tot = s.tot := rfl
@[simp] theorem setFreeCount_pls : (s.setFreeCount x).pls = s.pls := rfl
@[simp] theorem setFreeCount_pst : (s.setFreeCount x).pst = s.pst := rfl
@[simp] theorem setFreeCount_efu : (s.setFreeCount x).efu = s.efu := rfl
@[simp] theorem setFreeCount_cap : (s.setFreeCount x).cap = s.cap := rfl
@[simp] theorem setFreeCount_mpt : (s.setFreeCount x).mpt = s.mpt := rfl
@[simp] theorem setFreeCount_pending : (s.setFreeCount x).pending = s.pending := rfl

end

section
variable (s : State) (x : Sfe)

@[simp] theorem setSfe_power : (s.setSfe x).power = s.power := rfl
@[simp] theorem setSfe_timebase : (s.setSfe x).timebase = s.timebase := rfl
@[simp] theorem setSfe_freeCount : (s.setSfe x).freeCount = s.freeCount := rfl
@[simp] theorem setSfe_sfe : (s.setSfe x).sfe = x := rfl
@[simp] theorem setSfe_xcr : (s.setSfe x).xcr = s.xcr := rfl
@[simp] theorem setSfe_stk : (s.setSfe x).stk = s.stk := rfl
@[simp] theorem setSfe_fsv : (s.setSfe x).fsv = s.fsv := rfl
@[simp] theorem setSfe_dgd : (s.setSfe x).dgd = s.dgd := rfl
@[simp] theorem setSfe_tot : (s.setSfe x).tot = s.tot := rfl
@[simp] theorem setSfe_pls : (s.setSfe x).pls = s.pls := rfl
@[simp] theorem setSfe_pst : (s.setSfe x).pst = s.pst := rfl
@[simp] theorem setSfe_efu : (s.setSfe x).efu = s.efu := rfl
@[simp] theorem setSfe_cap : (s.setSfe x).cap = s.cap := rfl
@[simp] theorem setSfe_mpt : (s.setSfe x).mpt = s.mpt := rfl
@[simp] theorem setSfe_pending : (s.setSfe x).pending = s.pending := rfl

end

section
variable (s : State) (x : Xcr)

@[simp] theorem setXcr_power : (s.setXcr x).power = s.power := rfl
@[simp] theorem setXcr_timebase : (s.setXcr x).timebase = s.timebase := rfl
@[simp] theorem setXcr_freeCount : (s.setXcr x).freeCount = s.freeCount := rfl
@[simp] theorem setXcr_sfe : (s.setXcr x).sfe = s.sfe := rfl
@[simp] theorem setXcr_xcr : (s.setXcr x).xcr = x := rfl
@[simp] theorem setXcr_stk : (s.setXcr x).stk = s.stk := rfl
@[simp] theorem setXcr_fsv : (s.setXcr x).fsv = s.fsv := rfl
@[simp] theorem setXcr_dgd : (s.setXcr x).dgd = s.dgd := rfl
@[simp] theorem setXcr_tot : (s.setXcr x).tot = s.tot := rfl
@[simp] theorem setXcr_pls : (s.setXcr x).pls = s.pls := rfl
@[simp] theorem setXcr_pst : (s.setXcr x).pst = s.pst := rfl
@[simp] theorem setXcr_efu : (s.setXcr x).efu = s.efu := rfl
@[simp] theorem setXcr_cap : (s.setXcr x).cap = s.cap := rfl
@[simp] theorem setXcr_mpt : (s.setXcr x).mpt = s.mpt := rfl
@[simp] theorem setXcr_pending : (s.setXcr x).pending = s.pending := rfl

end

section
variable (s : State) (x : Stk)

@[simp] theorem setStk_power : (s.setStk x).power = s.power := rfl
@[simp] theorem setStk_timebase : (s.setStk x).timebase = s.timebase := rfl
@[simp] theorem setStk_freeCount : (s.setStk x).freeCount = s.freeCount := rfl
@[simp] theorem setStk_sfe : (s.setStk x).sfe = s.sfe := rfl
@[simp] theorem setStk_xcr : (s.setStk x).xcr = s.xcr := rfl
@[simp] theorem setStk_stk : (s.setStk x).stk = x := rfl
@[simp] theorem setStk_fsv : (s.setStk x).fsv = s.fsv := rfl
@[simp] theorem setStk_dgd : (s.setStk x).dgd = s.dgd := rfl
@[simp] theorem setStk_tot : (s.setStk x).tot = s.tot := rfl
@[simp] theorem setStk_pls : (s.setStk x).pls = s.pls := rfl
@[simp] theorem setStk_pst : (s.setStk x).pst = s.pst := rfl
@[simp] theorem setStk_efu : (s.setStk x).efu = s.efu := rfl
@[simp] theorem setStk_cap : (s.setStk x).cap = s.cap := rfl
@[simp] theorem setStk_mpt : (s.setStk x).mpt = s.mpt := rfl
@[simp] theorem setStk_pending : (s.setStk x).pending = s.pending := rfl

end

section
variable (s : State) (x : Fsv)

@[simp] theorem setFsv_power : (s.setFsv x).power = s.power := rfl
@[simp] theorem setFsv_timebase : (s.setFsv x).timebase = s.timebase := rfl
@[simp] theorem setFsv_freeCount : (s.setFsv x).freeCount = s.freeCount := rfl
@[simp] theorem setFsv_sfe : (s.setFsv x).sfe = s.sfe := rfl
@[simp] theorem setFsv_xcr : (s.setFsv x).xcr = s.xcr := rfl
@[simp] theorem setFsv_stk : (s.setFsv x).stk = s.stk := rfl
@[simp] theorem setFsv_fsv : (s.setFsv x).fsv = x := rfl
@[simp] theorem setFsv_dgd : (s.setFsv x).dgd = s.dgd := rfl
@[simp] theorem setFsv_tot : (s.setFsv x).tot = s.tot := rfl
@[simp] theorem setFsv_pls : (s.setFsv x).pls = s.pls := rfl
@[simp] theorem setFsv_pst : (s.setFsv x).pst = s.pst := rfl
@[simp] theorem setFsv_efu : (s.setFsv x).efu = s.efu := rfl
@[simp] theorem setFsv_cap : (s.setFsv x).cap = s.cap := rfl
@[simp] theorem setFsv_mpt : (s.setFsv x).mpt = s.mpt := rfl
@[simp] theorem setFsv_pending : (s.setFsv x).pending = s.pending := rfl

end

section
variable (s : State) (x : Dgd)

@[simp] theorem setDgd_power : (s.setDgd x).power = s.power := rfl
@[simp] theorem setDgd_timebase : (s.setDgd x).timebase = s.timebase := rfl
@[simp] theorem setDgd_freeCount : (s.setDgd x).freeCount = s.freeCount := rfl
@[simp] theorem setDgd_sfe : (s.setDgd x).sfe = s.sfe := rfl
@[simp] theorem setDgd_xcr : (s.setDgd x).xcr = s.xcr := rfl
@[simp] theorem setDgd_stk : (s.setDgd x).stk = s.stk := rfl
@[simp] theorem setDgd_fsv : (s.setDgd x).fsv = s.fsv := rfl
@[simp] theorem setDgd_dgd : (s.setDgd x).dgd = x := rfl
@[simp] theorem setDgd_tot : (s.setDgd x).tot = s.tot := rfl
@[simp] theorem setDgd_pls : (s.setDgd x).pls = s.pls := rfl
@[simp] theorem setDgd_pst : (s.setDgd x).pst = s.pst := rfl
@[simp] theorem setDgd_efu : (s.setDgd x).efu = s.efu := rfl
@[simp] theorem setDgd_cap : (s.setDgd x).cap = s.cap := rfl
@[simp] theorem setDgd_mpt : (s.setDgd x).mpt = s.mpt := rfl
@[simp] theorem setDgd_pending : (s.setDgd x).pending = s.pending := rfl

end

section
variable (s : State) (x : Tot)

@[simp] theorem setTot_power : (s.setTot x).power = s.power := rfl
@[simp] theorem setTot_timebase : (s.setTot x).timebase = s.timebase := rfl
@[simp] theorem setTot_freeCount : (s.setTot x).freeCount = s.freeCount := rfl
@[simp] theorem setTot_sfe : (s.setTot x).sfe = s.sfe := rfl
@[simp] theorem setTot_xcr : (s.setTot x).xcr = s.xcr := rfl
@[simp] theorem setTot_stk : (s.setTot x).stk = s.stk := rfl
@[simp] theorem setTot_fsv : (s.setTot x).fsv = s.fsv := rfl
@[simp] theorem setTot_dgd : (s.setTot x).dgd = s.dgd := rfl
@[simp] theorem setTot_tot : (s.setTot x).tot = x := rfl
@[simp] theorem setTot_pls : (s.setTot x).pls = s.pls := rfl
@[simp] theorem setTot_pst : (s.setTot x).pst = s.pst := rfl
@[simp] theorem setTot_efu : (s.setTot x).efu = s.efu := rfl
@[simp] theorem setTot_cap : (s.setTot x).cap = s.cap := rfl
@[simp] theorem setTot_mpt : (s.setTot x).mpt = s.mpt := rfl
@[simp] theorem setTot_pending : (s.setTot x).pending = s.pending := rfl

end

section
variable (s : State) (x : Pls)

@[simp] theorem setPls_power : (s.setPls x).power = s.power := rfl
@[simp] theorem setPls_timebase : (s.setPls x).timebase = s.timebase := rfl
@[simp] theorem setPls_freeCount : (s.setPls x).freeCount = s.freeCount := rfl
@[simp] theorem setPls_sfe : (s.setPls x).sfe = s.sfe := rfl
@[simp] theorem setPls_xcr : (s.setPls x).xcr = s.xcr := rfl
@[simp] theorem setPls_stk : (s.setPls x).stk = s.stk := rfl
@[simp] theorem setPls_fsv : (s.setPls x).fsv = s.fsv := rfl
@[simp] theorem setPls_dgd : (s.setPls x).dgd = s.dgd := rfl
@[simp] theorem setPls_tot : (s.setPls x).tot = s.tot := rfl
@[simp] theorem setPls_pls : (s.setPls x).pls = x := rfl
@[simp] theorem setPls_pst : (s.setPls x).pst = s.pst := rfl
@[simp] theorem setPls_efu : (s.setPls x).efu = s.efu := rfl
@[simp] theorem setPls_cap : (s.setPls x).cap = s.cap := rfl
@[simp] theorem setPls_mpt : (s.setPls x).mpt = s.mpt := rfl
@[simp] theorem setPls_pending : (s.setPls x).pending = s.pending := rfl

end

section
variable (s : State) (x : Pst)

@[simp] theorem setPst_power : (s.setPst x).power = s.power := rfl
@[simp] theorem setPst_timebase : (s.setPst x).timebase = s.timebase := rfl
@[simp] theorem setPst_freeCount : (s.setPst x).freeCount = s.freeCount := rfl
@[simp] theorem setPst_sfe : (s.setPst x).sfe = s.sfe := rfl
@[simp] theorem setPst_xcr : (s.setPst x).xcr = s.xcr := rfl
@[simp] theorem setPst_stk : (s.setPst x).stk = s.stk := rfl
@[simp] theorem setPst_fsv : (s.setPst x).fsv = s.fsv := rfl
@[simp] theorem setPst_dgd : (s.setPst x).dgd = s.dgd := rfl
@[simp] theorem setPst_tot : (s.setPst x).tot = s.tot := rfl
@[simp] theorem setPst_pls : (s.setPst x).pls = s.pls := rfl
@[simp] theorem setPst_pst : (s.setPst x).pst = x := rfl
@[simp] theorem setPst_efu : (s.setPst x).efu = s.efu := rfl
@[simp] theorem setPst_cap : (s.setPst x).cap = s.cap := rfl
@[simp] theorem setPst_mpt : (s.setPst x).mpt = s.mpt := rfl
@[simp] theorem setPst_pending : (s.setPst x).pending = s.pending := rfl

end

section
variable (s : State) (x : Efu)

@[simp] theorem setEfu_power : (s.setEfu x).power = s.power := rfl
@[simp] theorem setEfu_timebase : (s.setEfu x).timebase = s.timebase := rfl
@[simp] theorem setEfu_freeCount : (s.setEfu x).freeCount = s.freeCount := rfl
@[simp] theorem setEfu_sfe : (s.setEfu x).sfe = s.sfe := rfl
@[simp] theorem setEfu_xcr : (s.setEfu x).xcr = s.xcr := rfl
@[simp] theorem setEfu_stk : (s.setEfu x).stk = s.stk := rfl
@[simp] theorem setEfu_fsv : (s.setEfu x).fsv = s.fsv := rfl
@[simp] theorem setEfu_dgd : (s.setEfu x).dgd = s.dgd := rfl
@[simp] theorem setEfu_tot : (s.setEfu x).tot = s.tot := rfl
@[simp] theorem setEfu_pls : (s.setEfu x).pls = s.pls := rfl
@[simp] theorem setEfu_pst : (s.setEfu x).pst = s.pst := rfl
@[simp] theorem setEfu_efu : (s.setEfu x).efu = x := rfl
@[simp] theorem setEfu_cap : (s.setEfu x).cap = s.cap := rfl
@[simp] theorem setEfu_mpt : (s.setEfu x).mpt = s.mpt := rfl
@[simp] theorem setEfu_pending : (s.setEfu x).pending = s.pending := rfl

end

section
variable (s : State) (x : Cap)

@[simp] theorem setCap_power : (s.setCap x).power = s.power := rfl
@[simp] theorem setCap_timebase : (s.setCap x).timebase = s.timebase := rfl
@[simp] theorem setCap_freeCount : (s.setCap x).freeCount = s.freeCount := rfl
@[simp] theorem setCap_sfe : (s.setCap x).sfe = s.sfe := rfl
@[simp] theorem setCap_xcr : (s.setCap x).xcr = s.xcr := rfl
@[simp] theorem setCap_stk : (s.setCap x).stk = s.stk := rfl
@[simp] theorem setCap_fsv : (s.setCap x).fsv = s.fsv := rfl
@[simp] theorem setCap_dgd : (s.setCap x).dgd = s.dgd := rfl
@[simp] theorem setCap_tot : (s.setCap x).tot = s.tot := rfl
@[simp] theorem setCap_pls : (s.setCap x).pls = s.pls := rfl
@[simp] theorem setCap_pst : (s.setCap x).pst = s.pst := rfl
@[simp] theorem setCap_efu : (s.setCap x).efu = s.efu := rfl
@[simp] theorem setCap_cap : (s.setCap x).cap = x := rfl
@[simp] theorem setCap_mpt : (s.setCap x).mpt = s.mpt := rfl
@[simp] theorem setCap_pending : (s.setCap x).pending = s.pending := rfl

end

section
variable (s : State) (x : PerPort PortState)

@[simp] theorem setMpt_power : (s.setMpt x).power = s.power := rfl
@[simp] theorem setMpt_timebase : (s.setMpt x).timebase = s.timebase := rfl
@[simp] theorem setMpt_freeCount : (s.setMpt x).freeCount = s.freeCount := rfl
@[simp] theorem setMpt_sfe : (s.setMpt x).sfe = s.sfe := rfl
@[simp] theorem setMpt_xcr : (s.setMpt x).xcr = s.xcr := rfl
@[simp] theorem setMpt_stk : (s.setMpt x).stk = s.stk := rfl
@[simp] theorem setMpt_fsv : (s.setMpt x).fsv = s.fsv := rfl
@[simp] theorem setMpt_dgd : (s.setMpt x).dgd = s.dgd := rfl
@[simp] theorem setMpt_tot : (s.setMpt x).tot = s.tot := rfl
@[simp] theorem setMpt_pls : (s.setMpt x).pls = s.pls := rfl
@[simp] theorem setMpt_pst : (s.setMpt x).pst = s.pst := rfl
@[simp] theorem setMpt_efu : (s.setMpt x).efu = s.efu := rfl
@[simp] theorem setMpt_cap : (s.setMpt x).cap = s.cap := rfl
@[simp] theorem setMpt_mpt : (s.setMpt x).mpt = x := rfl
@[simp] theorem setMpt_pending : (s.setMpt x).pending = s.pending := rfl

end

section
variable (s : State) (x : List Instr)

@[simp] theorem setPending_power : (s.setPending x).power = s.power := rfl
@[simp] theorem setPending_timebase : (s.setPending x).timebase = s.timebase := rfl
@[simp] theorem setPending_freeCount : (s.setPending x).freeCount = s.freeCount := rfl
@[simp] theorem setPending_sfe : (s.setPending x).sfe = s.sfe := rfl
@[simp] theorem setPending_xcr : (s.setPending x).xcr = s.xcr := rfl
@[simp] theorem setPending_stk : (s.setPending x).stk = s.stk := rfl
@[simp] theorem setPending_fsv : (s.setPending x).fsv = s.fsv := rfl
@[simp] theorem setPending_dgd : (s.setPending x).dgd = s.dgd := rfl
@[simp] theorem setPending_tot : (s.setPending x).tot = s.tot := rfl
@[simp] theorem setPending_pls : (s.setPending x).pls = s.pls := rfl
@[simp] theorem setPending_pst : (s.setPending x).pst = s.pst := rfl
@[simp] theorem setPending_efu : (s.setPending x).efu = s.efu := rfl
@[simp] theorem setPending_cap : (s.setPending x).cap = s.cap := rfl
@[simp] theorem setPending_mpt : (s.setPending x).mpt = s.mpt := rfl
@[simp] theorem setPending_pending : (s.setPending x).pending = x := rfl

end

end State
end Machine

end Sys2Proof
end

