-- ==== Sys2Proof/Laws/Ops.lean ====
section
/-!
SUPPORT. What each shared operation of Machine/Ops.lean can do, said once: the blocks it leaves alone and
the items it changes; and what the bytes, the checks of the two regions and the runs of the history are.
-/

namespace Sys2Proof.Machine

/-! ### Attention items -/

@[simp] theorem Attention.drive_posted (a : Attention) : a.drive.posted = a.posted := rfl
@[simp] theorem Attention.drive_enable (a : Attention) : a.drive.enable = a.enable := rfl
@[simp] theorem Attention.drive_threshold (a : Attention) : a.drive.threshold = a.threshold := rfl
@[simp] theorem Attention.drive_qualifies (a : Attention) : a.drive.qualifies = a.qualifies := rfl
@[simp] theorem Attention.drive_atn (a : Attention) : a.drive.atn = a.qualifies := rfl
@[simp] theorem Attention.add_posted (k : EventKind) (a : Attention) :
    (Attention.add k a).posted = a.posted ||| k.bit := rfl
@[simp] theorem Attention.add_enable (k : EventKind) (a : Attention) :
    (Attention.add k a).enable = a.enable := rfl
@[simp] theorem Attention.add_threshold (k : EventKind) (a : Attention) :
    (Attention.add k a).threshold = a.threshold := rfl
@[simp] theorem Attention.add_atn (k : EventKind) (a : Attention) :
    (Attention.add k a).atn = (Attention.add k a).qualifies := rfl

/-- Adding a kind puts it in the set and keeps the kinds it held (R152). -/
theorem Attention.hasKind_add (k j : EventKind) (a : Attention) :
    hasKind (Attention.add k a).posted j = (hasKind a.posted j || decide (j = k)) := by
  simp only [hasKind, Attention.add_posted, BitVec.getLsbD_or]
  congr 1
  cases k <;> cases j <;> decide

/-! ### Counting, the device, the ports -/

@[simp] theorem State.count_power (f : Stats → Stats) (s : State) : (s.count f).power = s.power := rfl
@[simp] theorem State.count_timebase (f : Stats → Stats) (s : State) : (s.count f).timebase = s.timebase := rfl
@[simp] theorem State.count_freeCount (f : Stats → Stats) (s : State) : (s.count f).freeCount = s.freeCount := rfl
@[simp] theorem State.count_sfe (f : Stats → Stats) (s : State) : (s.count f).sfe = s.sfe := rfl
@[simp] theorem State.count_xcr (f : Stats → Stats) (s : State) : (s.count f).xcr = s.xcr := rfl
@[simp] theorem State.count_stk (f : Stats → Stats) (s : State) : (s.count f).stk = s.stk := rfl
@[simp] theorem State.count_fsv (f : Stats → Stats) (s : State) : (s.count f).fsv = s.fsv := rfl
@[simp] theorem State.count_dgd (f : Stats → Stats) (s : State) : (s.count f).dgd = s.dgd := rfl
@[simp] theorem State.count_tot (f : Stats → Stats) (s : State) : (s.count f).tot = s.tot := rfl
@[simp] theorem State.count_pls (f : Stats → Stats) (s : State) : (s.count f).pls = s.pls := rfl
@[simp] theorem State.count_pst (f : Stats → Stats) (s : State) : (s.count f).pst = s.pst := rfl
@[simp] theorem State.count_cap (f : Stats → Stats) (s : State) : (s.count f).cap = s.cap := rfl
@[simp] theorem State.count_mpt (f : Stats → Stats) (s : State) : (s.count f).mpt = s.mpt := rfl
@[simp] theorem State.count_pending (f : Stats → Stats) (s : State) : (s.count f).pending = s.pending := rfl

@[simp] theorem State.count_efu (f : Stats → Stats) (s : State) :
    (s.count f).efu = { s.efu with stats := f s.efu.stats } := rfl

@[simp] theorem State.mapNv_power (f : Nv → Nv) (s : State) : (s.mapNv f).power = s.power := rfl
@[simp] theorem State.mapNv_timebase (f : Nv → Nv) (s : State) : (s.mapNv f).timebase = s.timebase := rfl
@[simp] theorem State.mapNv_freeCount (f : Nv → Nv) (s : State) : (s.mapNv f).freeCount = s.freeCount := rfl
@[simp] theorem State.mapNv_sfe (f : Nv → Nv) (s : State) : (s.mapNv f).sfe = s.sfe := rfl
@[simp] theorem State.mapNv_xcr (f : Nv → Nv) (s : State) : (s.mapNv f).xcr = s.xcr := rfl
@[simp] theorem State.mapNv_stk (f : Nv → Nv) (s : State) : (s.mapNv f).stk = s.stk := rfl
@[simp] theorem State.mapNv_fsv (f : Nv → Nv) (s : State) : (s.mapNv f).fsv = s.fsv := rfl
@[simp] theorem State.mapNv_dgd (f : Nv → Nv) (s : State) : (s.mapNv f).dgd = s.dgd := rfl
@[simp] theorem State.mapNv_tot (f : Nv → Nv) (s : State) : (s.mapNv f).tot = s.tot := rfl
@[simp] theorem State.mapNv_pls (f : Nv → Nv) (s : State) : (s.mapNv f).pls = s.pls := rfl
@[simp] theorem State.mapNv_efu (f : Nv → Nv) (s : State) : (s.mapNv f).efu = s.efu := rfl
@[simp] theorem State.mapNv_cap (f : Nv → Nv) (s : State) : (s.mapNv f).cap = s.cap := rfl
@[simp] theorem State.mapNv_mpt (f : Nv → Nv) (s : State) : (s.mapNv f).mpt = s.mpt := rfl
@[simp] theorem State.mapNv_pending (f : Nv → Nv) (s : State) : (s.mapNv f).pending = s.pending := rfl

@[simp] theorem State.mapNv_pst (f : Nv → Nv) (s : State) :
    (s.mapNv f).pst = { s.pst with nv := f s.pst.nv } := rfl

@[simp] theorem State.queueCheckpoint_power (s : State) : (s.queueCheckpoint).power = s.power := rfl
@[simp] theorem State.queueCheckpoint_timebase (s : State) : (s.queueCheckpoint).timebase = s.timebase := rfl
@[simp] theorem State.queueCheckpoint_freeCount (s : State) : (s.queueCheckpoint).freeCount = s.freeCount := rfl
@[simp] theorem State.queueCheckpoint_sfe (s : State) : (s.queueCheckpoint).sfe = s.sfe := rfl
@[simp] theorem State.queueCheckpoint_xcr (s : State) : (s.queueCheckpoint).xcr = s.xcr := rfl
@[simp] theorem State.queueCheckpoint_stk (s : State) : (s.queueCheckpoint).stk = s.stk := rfl
@[simp] theorem State.queueCheckpoint_fsv (s : State) : (s.queueCheckpoint).fsv = s.fsv := rfl
@[simp] theorem State.queueCheckpoint_dgd (s : State) : (s.queueCheckpoint).dgd = s.dgd := rfl
@[simp] theorem State.queueCheckpoint_pls (s : State) : (s.queueCheckpoint).pls = s.pls := rfl
@[simp] theorem State.queueCheckpoint_efu (s : State) : (s.queueCheckpoint).efu = s.efu := rfl
@[simp] theorem State.queueCheckpoint_cap (s : State) : (s.queueCheckpoint).cap = s.cap := rfl
@[simp] theorem State.queueCheckpoint_mpt (s : State) : (s.queueCheckpoint).mpt = s.mpt := rfl
@[simp] theorem State.queueCheckpoint_pending (s : State) : (s.queueCheckpoint).pending = s.pending := rfl

@[simp] theorem State.queueCheckpoint_tot (s : State) :
    s.queueCheckpoint.tot = { s.tot with checkpoint := 0 } := rfl
@[simp] theorem State.queueCheckpoint_pst (s : State) :
    s.queueCheckpoint.pst = { s.pst with nv := s.pst.nv.queue (.totals s.tot.snapshot) } := rfl

@[simp] theorem State.setPort_power (p : Port) (x : PortState) (s : State) : (s.setPort p x).power = s.power := rfl
@[simp] theorem State.setPort_timebase (p : Port) (x : PortState) (s : State) : (s.setPort p x).timebase = s.timebase := rfl
@[simp] theorem State.setPort_freeCount (p : Port) (x : PortState) (s : State) : (s.setPort p x).freeCount = s.freeCount := rfl
@[simp] theorem State.setPort_sfe (p : Port) (x : PortState) (s : State) : (s.setPort p x).sfe = s.sfe := rfl
@[simp] theorem State.setPort_xcr (p : Port) (x : PortState) (s : State) : (s.setPort p x).xcr = s.xcr := rfl
@[simp] theorem State.setPort_stk (p : Port) (x : PortState) (s : State) : (s.setPort p x).stk = s.stk := rfl
@[simp] theorem State.setPort_fsv (p : Port) (x : PortState) (s : State) : (s.setPort p x).fsv = s.fsv := rfl
@[simp] theorem State.setPort_dgd (p : Port) (x : PortState) (s : State) : (s.setPort p x).dgd = s.dgd := rfl
@[simp] theorem State.setPort_tot (p : Port) (x : PortState) (s : State) : (s.setPort p x).tot = s.tot := rfl
@[simp] theorem State.setPort_pls (p : Port) (x : PortState) (s : State) : (s.setPort p x).pls = s.pls := rfl
@[simp] theorem State.setPort_pst (p : Port) (x : PortState) (s : State) : (s.setPort p x).pst = s.pst := rfl
@[simp] theorem State.setPort_efu (p : Port) (x : PortState) (s : State) : (s.setPort p x).efu = s.efu := rfl
@[simp] theorem State.setPort_cap (p : Port) (x : PortState) (s : State) : (s.setPort p x).cap = s.cap := rfl
@[simp] theorem State.setPort_pending (p : Port) (x : PortState) (s : State) : (s.setPort p x).pending = s.pending := rfl

@[simp] theorem State.setPort_mpt (p : Port) (x : PortState) (s : State) :
    (s.setPort p x).mpt = s.mpt.set p x := rfl

/-- A write that is queued leaves the regions alone and never shortens the work to be done (R145). -/
theorem Nv.queue_regions (j : NvJob) (v : Nv) :
    (v.queue j).profileRegion = v.profileRegion ∧ (v.queue j).totalsRegion = v.totalsRegion
      ∧ (v.queue j).writing.isSome = true := by
  cases h : v.writing <;> simp [Nv.queue, h]

/-! ### Capture and events -/

@[simp] theorem State.postTo_power (k : EventKind) (p : Port) (s : State) : (s.postTo k p).power = s.power := rfl
@[simp] theorem State.postTo_timebase (k : EventKind) (p : Port) (s : State) : (s.postTo k p).timebase = s.timebase := rfl
@[simp] theorem State.postTo_freeCount (k : EventKind) (p : Port) (s : State) : (s.postTo k p).freeCount = s.freeCount := rfl
@[simp] theorem State.postTo_sfe (k : EventKind) (p : Port) (s : State) : (s.postTo k p).sfe = s.sfe := rfl
@[simp] theorem State.postTo_xcr (k : EventKind) (p : Port) (s : State) : (s.postTo k p).xcr = s.xcr := rfl
@[simp] theorem State.postTo_stk (k : EventKind) (p : Port) (s : State) : (s.postTo k p).stk = s.stk := rfl
@[simp] theorem State.postTo_fsv (k : EventKind) (p : Port) (s : State) : (s.postTo k p).fsv = s.fsv := rfl
@[simp] theorem State.postTo_dgd (k : EventKind) (p : Port) (s : State) : (s.postTo k p).dgd = s.dgd := rfl
@[simp] theorem State.postTo_tot (k : EventKind) (p : Port) (s : State) : (s.postTo k p).tot = s.tot := rfl
@[simp] theorem State.postTo_pls (k : EventKind) (p : Port) (s : State) : (s.postTo k p).pls = s.pls := rfl
@[simp] theorem State.postTo_pst (k : EventKind) (p : Port) (s : State) : (s.postTo k p).pst = s.pst := rfl
@[simp] theorem State.postTo_cap (k : EventKind) (p : Port) (s : State) : (s.postTo k p).cap = s.cap := rfl
@[simp] theorem State.postTo_mpt (k : EventKind) (p : Port) (s : State) : (s.postTo k p).mpt = s.mpt := rfl
@[simp] theorem State.postTo_pending (k : EventKind) (p : Port) (s : State) : (s.postTo k p).pending = s.pending := rfl

@[simp] theorem State.postTo_efu (k : EventKind) (p : Port) (s : State) :
    (s.postTo k p).efu
      = { s.efu with ports := s.efu.ports.set p (Attention.add k (s.efu.ports.get p)) } := rfl

/-- A change that touches at most the attention items and the capture unit. -/
def OnlyEvents (s t : State) : Prop :=
  ∃ (ports : PerPort Attention) (cap : Cap), t = { s with efu := { s.efu with ports := ports }, cap := cap }

theorem OnlyEvents.refl (s : State) : OnlyEvents s s := ⟨s.efu.ports, s.cap, rfl⟩

theorem OnlyEvents.trans {s t u : State} (h : OnlyEvents s t) (g : OnlyEvents t u) : OnlyEvents s u := by
  obtain ⟨p, c, rfl⟩ := h
  obtain ⟨q, d, rfl⟩ := g
  exact ⟨q, d, rfl⟩

theorem State.postCaptureDone_only (s : State) : OnlyEvents s s.postCaptureDone := by
  unfold State.postCaptureDone
  split
  · exact ⟨_, s.cap, rfl⟩
  · exact OnlyEvents.refl s

theorem State.completeCapture_only (v : List Int) (s : State) : OnlyEvents s (s.completeCapture v) :=
  OnlyEvents.trans ⟨s.efu.ports, _, rfl⟩ (State.postCaptureDone_only _)

theorem State.completeEmpty_only (s : State) : OnlyEvents s s.completeEmpty :=
  OnlyEvents.trans ⟨s.efu.ports, _, rfl⟩ (State.postCaptureDone_only _)

/-- A trigger changes the capture unit, and for a capture completed at once its owner's pending set
(R171). -/
theorem State.triggerCapture_only (s : State) : OnlyEvents s s.triggerCapture := by
  unfold State.triggerCapture
  split
  · split
    · exact ⟨s.efu.ports, _, rfl⟩
    · exact OnlyEvents.trans ⟨s.efu.ports, _, rfl⟩ (State.completeEmpty_only _)
  · exact ⟨s.efu.ports, _, rfl⟩

/-- A posting changes the attention items of the ports and at most the capture unit (R152, R171). -/
theorem State.post_only (k : EventKind) (s : State) : OnlyEvents s (s.post k) := by
  unfold State.post
  simp only
  split
  · exact OnlyEvents.trans ⟨_, s.cap, rfl⟩ (State.triggerCapture_only _)
  · exact ⟨_, s.cap, rfl⟩

@[simp] theorem State.post_power (k : EventKind) (s : State) : (s.post k).power = s.power := by
  obtain ⟨p, c, h⟩ := s.post_only k
  rw [h]
@[simp] theorem State.post_timebase (k : EventKind) (s : State) : (s.post k).timebase = s.timebase := by
  obtain ⟨p, c, h⟩ := s.post_only k
  rw [h]
@[simp] theorem State.post_freeCount (k : EventKind) (s : State) : (s.post k).freeCount = s.freeCount := by
  obtain ⟨p, c, h⟩ := s.post_only k
  rw [h]
@[simp] theorem State.post_sfe (k : EventKind) (s : State) : (s.post k).sfe = s.sfe := by
  obtain ⟨p, c, h⟩ := s.post_only k
  rw [h]
@[simp] theorem State.post_xcr (k : EventKind) (s : State) : (s.post k).xcr = s.xcr := by
  obtain ⟨p, c, h⟩ := s.post_only k
  rw [h]
@[simp] theorem State.post_stk (k : EventKind) (s : State) : (s.post k).stk = s.stk := by
  obtain ⟨p, c, h⟩ := s.post_only k
  rw [h]
@[simp] theorem State.post_fsv (k : EventKind) (s : State) : (s.post k).fsv = s.fsv := by
  obtain ⟨p, c, h⟩ := s.post_only k
  rw [h]
@[simp] theorem State.post_dgd (k : EventKind) (s : State) : (s.post k).dgd = s.dgd := by
  obtain ⟨p, c, h⟩ := s.post_only k
  rw [h]
@[simp] theorem State.post_tot (k : EventKind) (s : State) : (s.post k).tot = s.tot := by
  obtain ⟨p, c, h⟩ := s.post_only k
  rw [h]
@[simp] theorem State.post_pls (k : EventKind) (s : State) : (s.post k).pls = s.pls := by
  obtain ⟨p, c, h⟩ := s.post_only k
  rw [h]
@[simp] theorem State.post_pst (k : EventKind) (s : State) : (s.post k).pst = s.pst := by
  obtain ⟨p, c, h⟩ := s.post_only k
  rw [h]
@[simp] theorem State.post_mpt (k : EventKind) (s : State) : (s.post k).mpt = s.mpt := by
  obtain ⟨p, c, h⟩ := s.post_only k
  rw [h]
@[simp] theorem State.post_pending (k : EventKind) (s : State) : (s.post k).pending = s.pending := by
  obtain ⟨p, c, h⟩ := s.post_only k
  rw [h]
@[simp] theorem State.post_faults (k : EventKind) (s : State) : (s.post k).efu.faults = s.efu.faults := by
  obtain ⟨p, c, h⟩ := s.post_only k
  rw [h]
@[simp] theorem State.post_full (k : EventKind) (s : State) : (s.post k).efu.full = s.efu.full := by
  obtain ⟨p, c, h⟩ := s.post_only k
  rw [h]
@[simp] theorem State.post_stats (k : EventKind) (s : State) : (s.post k).efu.stats = s.efu.stats := by
  obtain ⟨p, c, h⟩ := s.post_only k
  rw [h]

/-- A posting that triggers no capture: the kind is added to every port's set and nothing else changes
(R152). -/
theorem State.post_quiet (k : EventKind) (s : State) (h : s.cap.waitsFor k = false) :
    s.post k = s.setEfu { s.efu with ports := s.efu.ports.map fun _ a => Attention.add k a } := by
  simp [State.post, h]

/-- The kinds that no capture waits for (R171). -/
theorem Cap.waitsFor_none (c : Cap) (k : EventKind)
    (h : k ∉ [EventKind.guardTripped, .velocityLost, .ringFailed, .slugDeparted]) :
    c.waitsFor k = false := by
  unfold Cap.waitsFor
  cases c.trigger with
  | none => simp
  | some t => cases t <;> cases k <;> simp_all [Trigger.kind]

/-! ### The fault map -/

/-- A recording changes the fault map, FULL, and what posting FAULT_MAP_FULL changes (R159 to R161). -/
theorem State.markFull_cases (s : State) :
    (s.efu.full = true ∧ s.markFull = s)
      ∨ (s.efu.full = false
        ∧ s.markFull = State.post .faultMapFull (s.setEfu { s.efu with full := true })) := by
  unfold State.markFull
  cases h : s.efu.full <;> simp

/-- What a recording does, by the three rows of R159 and R160. -/
theorem State.noteFault_cases (active : Bool) (key : FaultKey) (s : State) :
    (s.efu.holdsKey key = true ∧ s.noteFault active key
        = s.setEfu (s.efu.changeEntry key fun x =>
            { x with last := s.xcr.windowNumber, occurrences := min (x.occurrences + 1) 65535,
                     active := active }))
      ∨ (s.efu.holdsKey key = false ∧ s.efu.faults.length < Config.faultCapacity
        ∧ s.noteFault active key = s.setEfu { s.efu with
            faults := s.efu.faults ++ [⟨key, s.xcr.windowNumber, s.xcr.windowNumber, 1, active⟩] })
      ∨ (s.efu.holdsKey key = false ∧ Config.faultCapacity ≤ s.efu.faults.length
        ∧ s.noteFault active key = s.markFull) := by
  unfold State.noteFault
  by_cases h : s.efu.holdsKey key = true
  · left; simp [h]
  · right
    have h' : s.efu.holdsKey key = false := by simpa using h
    by_cases g : s.efu.faults.length < Config.faultCapacity
    · left; simp [h', g]
    · right; simp [h', g]; omega

@[simp] theorem State.noteFault_power (active : Bool) (key : FaultKey) (s : State) :
    (s.noteFault active key).power = s.power := by
  rcases s.noteFault_cases active key with ⟨_, h⟩ | ⟨_, _, h⟩ | ⟨_, _, h⟩ <;> rw [h]
  · rfl
  · rfl
  · rcases s.markFull_cases with ⟨_, g⟩ | ⟨_, g⟩ <;> rw [g]
    simp
@[simp] theorem State.noteFault_timebase (active : Bool) (key : FaultKey) (s : State) :
    (s.noteFault active key).timebase = s.timebase := by
  rcases s.noteFault_cases active key with ⟨_, h⟩ | ⟨_, _, h⟩ | ⟨_, _, h⟩ <;> rw [h]
  · rfl
  · rfl
  · rcases s.markFull_cases with ⟨_, g⟩ | ⟨_, g⟩ <;> rw [g]
    simp
@[simp] theorem State.noteFault_freeCount (active : Bool) (key : FaultKey) (s : State) :
    (s.noteFault active key).freeCount = s.freeCount := by
  rcases s.noteFault_cases active key with ⟨_, h⟩ | ⟨_, _, h⟩ | ⟨_, _, h⟩ <;> rw [h]
  · rfl
  · rfl
  · rcases s.markFull_cases with ⟨_, g⟩ | ⟨_, g⟩ <;> rw [g]
    simp
@[simp] theorem State.noteFault_sfe (active : Bool) (key : FaultKey) (s : State) :
    (s.noteFault active key).sfe = s.sfe := by
  rcases s.noteFault_cases active key with ⟨_, h⟩ | ⟨_, _, h⟩ | ⟨_, _, h⟩ <;> rw [h]
  · rfl
  · rfl
  · rcases s.markFull_cases with ⟨_, g⟩ | ⟨_, g⟩ <;> rw [g]
    simp
@[simp] theorem State.noteFault_xcr (active : Bool) (key : FaultKey) (s : State) :
    (s.noteFault active key).xcr = s.xcr := by
  rcases s.noteFault_cases active key with ⟨_, h⟩ | ⟨_, _, h⟩ | ⟨_, _, h⟩ <;> rw [h]
  · rfl
  · rfl
  · rcases s.markFull_cases with ⟨_, g⟩ | ⟨_, g⟩ <;> rw [g]
    simp
@[simp] theorem State.noteFault_stk (active : Bool) (key : FaultKey) (s : State) :
    (s.noteFault active key).stk = s.stk := by
  rcases s.noteFault_cases active key with ⟨_, h⟩ | ⟨_, _, h⟩ | ⟨_, _, h⟩ <;> rw [h]
  · rfl
  · rfl
  · rcases s.markFull_cases with ⟨_, g⟩ | ⟨_, g⟩ <;> rw [g]
    simp
@[simp] theorem State.noteFault_fsv (active : Bool) (key : FaultKey) (s : State) :
    (s.noteFault active key).fsv = s.fsv := by
  rcases s.noteFault_cases active key with ⟨_, h⟩ | ⟨_, _, h⟩ | ⟨_, _, h⟩ <;> rw [h]
  · rfl
  · rfl
  · rcases s.markFull_cases with ⟨_, g⟩ | ⟨_, g⟩ <;> rw [g]
    simp
@[simp] theorem State.noteFault_dgd (active : Bool) (key : FaultKey) (s : State) :
    (s.noteFault active key).dgd = s.dgd := by
  rcases s.noteFault_cases active key with ⟨_, h⟩ | ⟨_, _, h⟩ | ⟨_, _, h⟩ <;> rw [h]
  · rfl
  · rfl
  · rcases s.markFull_cases with ⟨_, g⟩ | ⟨_, g⟩ <;> rw [g]
    simp
@[simp] theorem State.noteFault_tot (active : Bool) (key : FaultKey) (s : State) :
    (s.noteFault active key).tot = s.tot := by
  rcases s.noteFault_cases active key with ⟨_, h⟩ | ⟨_, _, h⟩ | ⟨_, _, h⟩ <;> rw [h]
  · rfl
  · rfl
  · rcases s.markFull_cases with ⟨_, g⟩ | ⟨_, g⟩ <;> rw [g]
    simp
@[simp] theorem State.noteFault_pls (active : Bool) (key : FaultKey) (s : State) :
    (s.noteFault active key).pls = s.pls := by
  rcases s.noteFault_cases active key with ⟨_, h⟩ | ⟨_, _, h⟩ | ⟨_, _, h⟩ <;> rw [h]
  · rfl
  · rfl
  · rcases s.markFull_cases with ⟨_, g⟩ | ⟨_, g⟩ <;> rw [g]
    simp
@[simp] theorem State.noteFault_pst (active : Bool) (key : FaultKey) (s : State) :
    (s.noteFault active key).pst = s.pst := by
  rcases s.noteFault_cases active key with ⟨_, h⟩ | ⟨_, _, h⟩ | ⟨_, _, h⟩ <;> rw [h]
  · rfl
  · rfl
  · rcases s.markFull_cases with ⟨_, g⟩ | ⟨_, g⟩ <;> rw [g]
    simp
@[simp] theorem State.noteFault_mpt (active : Bool) (key : FaultKey) (s : State) :
    (s.noteFault active key).mpt = s.mpt := by
  rcases s.noteFault_cases active key with ⟨_, h⟩ | ⟨_, _, h⟩ | ⟨_, _, h⟩ <;> rw [h]
  · rfl
  · rfl
  · rcases s.markFull_cases with ⟨_, g⟩ | ⟨_, g⟩ <;> rw [g]
    simp
@[simp] theorem State.noteFault_pending (active : Bool) (key : FaultKey) (s : State) :
    (s.noteFault active key).pending = s.pending := by
  rcases s.noteFault_cases active key with ⟨_, h⟩ | ⟨_, _, h⟩ | ⟨_, _, h⟩ <;> rw [h]
  · rfl
  · rfl
  · rcases s.markFull_cases with ⟨_, g⟩ | ⟨_, g⟩ <;> rw [g]
    simp
@[simp] theorem State.recordFault_power (key : FaultKey) (s : State) :
    (s.recordFault key).power = s.power := s.noteFault_power false key
@[simp] theorem State.reportFault_power (key : FaultKey) (holds : Bool) (s : State) :
    (s.reportFault key holds).power = s.power := by
  cases holds
  · rfl
  · exact s.noteFault_power true key
@[simp] theorem State.recordFault_timebase (key : FaultKey) (s : State) :
    (s.recordFault key).timebase = s.timebase := s.noteFault_timebase false key
@[simp] theorem State.reportFault_timebase (key : FaultKey) (holds : Bool) (s : State) :
    (s.reportFault key holds).timebase = s.timebase := by
  cases holds
  · rfl
  · exact s.noteFault_timebase true key
@[simp] theorem State.recordFault_freeCount (key : FaultKey) (s : State) :
    (s.recordFault key).freeCount = s.freeCount := s.noteFault_freeCount false key
@[simp] theorem State.reportFault_freeCount (key : FaultKey) (holds : Bool) (s : State) :
    (s.reportFault key holds).freeCount = s.freeCount := by
  cases holds
  · rfl
  · exact s.noteFault_freeCount true key
@[simp] theorem State.recordFault_sfe (key : FaultKey) (s : State) :
    (s.recordFault key).sfe = s.sfe := s.noteFault_sfe false key
@[simp] theorem State.reportFault_sfe (key : FaultKey) (holds : Bool) (s : State) :
    (s.reportFault key holds).sfe = s.sfe := by
  cases holds
  · rfl
  · exact s.noteFault_sfe true key
@[simp] theorem State.recordFault_xcr (key : FaultKey) (s : State) :
    (s.recordFault key).xcr = s.xcr := s.noteFault_xcr false key
@[simp] theorem State.reportFault_xcr (key : FaultKey) (holds : Bool) (s : State) :
    (s.reportFault key holds).xcr = s.xcr := by
  cases holds
  · rfl
  · exact s.noteFault_xcr true key
@[simp] theorem State.recordFault_stk (key : FaultKey) (s : State) :
    (s.recordFault key).stk = s.stk := s.noteFault_stk false key
@[simp] theorem State.reportFault_stk (key : FaultKey) (holds : Bool) (s : State) :
    (s.reportFault key holds).stk = s.stk := by
  cases holds
  · rfl
  · exact s.noteFault_stk true key
@[simp] theorem State.recordFault_fsv (key : FaultKey) (s : State) :
    (s.recordFault key).fsv = s.fsv := s.noteFault_fsv false key
@[simp] theorem State.reportFault_fsv (key : FaultKey) (holds : Bool) (s : State) :
    (s.reportFault key holds).fsv = s.fsv := by
  cases holds
  · rfl
  · exact s.noteFault_fsv true key
@[simp] theorem State.recordFault_dgd (key : FaultKey) (s : State) :
    (s.recordFault key).dgd = s.dgd := s.noteFault_dgd false key
@[simp] theorem State.reportFault_dgd (key : FaultKey) (holds : Bool) (s : State) :
    (s.reportFault key holds).dgd = s.dgd := by
  cases holds
  · rfl
  · exact s.noteFault_dgd true key
@[simp] theorem State.recordFault_tot (key : FaultKey) (s : State) :
    (s.recordFault key).tot = s.tot := s.noteFault_tot false key
@[simp] theorem State.reportFault_tot (key : FaultKey) (holds : Bool) (s : State) :
    (s.reportFault key holds).tot = s.tot := by
  cases holds
  · rfl
  · exact s.noteFault_tot true key
@[simp] theorem State.recordFault_pls (key : FaultKey) (s : State) :
    (s.recordFault key).pls = s.pls := s.noteFault_pls false key
@[simp] theorem State.reportFault_pls (key : FaultKey) (holds : Bool) (s : State) :
    (s.reportFault key holds).pls = s.pls := by
  cases holds
  · rfl
  · exact s.noteFault_pls true key
@[simp] theorem State.recordFault_pst (key : FaultKey) (s : State) :
    (s.recordFault key).pst = s.pst := s.noteFault_pst false key
@[simp] theorem State.reportFault_pst (key : FaultKey) (holds : Bool) (s : State) :
    (s.reportFault key holds).pst = s.pst := by
  cases holds
  · rfl
  · exact s.noteFault_pst true key
@[simp] theorem State.recordFault_mpt (key : FaultKey) (s : State) :
    (s.recordFault key).mpt = s.mpt := s.noteFault_mpt false key
@[simp] theorem State.reportFault_mpt (key : FaultKey) (holds : Bool) (s : State) :
    (s.reportFault key holds).mpt = s.mpt := by
  cases holds
  · rfl
  · exact s.noteFault_mpt true key
@[simp] theorem State.recordFault_pending (key : FaultKey) (s : State) :
    (s.recordFault key).pending = s.pending := s.noteFault_pending false key
@[simp] theorem State.reportFault_pending (key : FaultKey) (holds : Bool) (s : State) :
    (s.reportFault key holds).pending = s.pending := by
  cases holds
  · rfl
  · exact s.noteFault_pending true key

/-! ### Requests -/

/-- A request on a FREE port of a running part is taken and answered (R183). -/
theorem State.request_free (p : Port) (echo : Byte) (h : State → Answer) (s : State)
    (hr : s.power = .running) (hf : (s.mpt.get p).tx = .free) :
    s.request p echo h = s.answer p echo h := by
  simp [State.request, hr, hf]

/-- A request that completes while its port is PREPARING is an overrun (R185). -/
theorem State.request_preparing (p : Port) (echo : Byte) (h : State → Answer) (s : State)
    (hr : s.power = .running) (hf : (s.mpt.get p).tx = .preparing) :
    s.request p echo h = s.overrunFrame p := by
  simp [State.request, hr, hf]

/-- No request reaches a port that is SENDING, nor a part without power or held in reset (R185, R194). -/
theorem State.request_none (p : Port) (echo : Byte) (h : State → Answer) (s : State)
    (hn : s.power ≠ .running ∨ (s.mpt.get p).tx = .sending) : s.request p echo h = s := by
  unfold State.request
  by_cases hr : s.power = .running
  · rcases hn with hn | hn
    · exact absurd hr hn
    · simp [hr, hn]
  · simp [hr]

@[simp] theorem State.answer_power (p : Port) (echo : Byte) (h : State → Answer) (s : State) :
    (s.answer p echo h).power = (h s).state.power := rfl
@[simp] theorem State.answer_timebase (p : Port) (echo : Byte) (h : State → Answer) (s : State) :
    (s.answer p echo h).timebase = (h s).state.timebase := rfl
@[simp] theorem State.answer_freeCount (p : Port) (echo : Byte) (h : State → Answer) (s : State) :
    (s.answer p echo h).freeCount = (h s).state.freeCount := rfl
@[simp] theorem State.answer_sfe (p : Port) (echo : Byte) (h : State → Answer) (s : State) :
    (s.answer p echo h).sfe = (h s).state.sfe := rfl
@[simp] theorem State.answer_xcr (p : Port) (echo : Byte) (h : State → Answer) (s : State) :
    (s.answer p echo h).xcr = (h s).state.xcr := rfl
@[simp] theorem State.answer_stk (p : Port) (echo : Byte) (h : State → Answer) (s : State) :
    (s.answer p echo h).stk = (h s).state.stk := rfl
@[simp] theorem State.answer_fsv (p : Port) (echo : Byte) (h : State → Answer) (s : State) :
    (s.answer p echo h).fsv = (h s).state.fsv := rfl
@[simp] theorem State.answer_dgd (p : Port) (echo : Byte) (h : State → Answer) (s : State) :
    (s.answer p echo h).dgd = (h s).state.dgd := rfl
@[simp] theorem State.answer_tot (p : Port) (echo : Byte) (h : State → Answer) (s : State) :
    (s.answer p echo h).tot = (h s).state.tot := rfl
@[simp] theorem State.answer_pls (p : Port) (echo : Byte) (h : State → Answer) (s : State) :
    (s.answer p echo h).pls = (h s).state.pls := rfl
@[simp] theorem State.answer_pst (p : Port) (echo : Byte) (h : State → Answer) (s : State) :
    (s.answer p echo h).pst = (h s).state.pst := rfl
@[simp] theorem State.answer_efu (p : Port) (echo : Byte) (h : State → Answer) (s : State) :
    (s.answer p echo h).efu = (h s).state.efu := rfl
@[simp] theorem State.answer_cap (p : Port) (echo : Byte) (h : State → Answer) (s : State) :
    (s.answer p echo h).cap = (h s).state.cap := rfl
@[simp] theorem State.answer_pending (p : Port) (echo : Byte) (h : State → Answer) (s : State) :
    (s.answer p echo h).pending = (h s).state.pending := rfl

/-- The port after an answer: PREPARING with the response frame, its receiver in WAIT_IDLE (R183, R184). -/
theorem State.answer_mpt (p : Port) (echo : Byte) (h : State → Answer) (s : State) :
    (s.answer p echo h).mpt
      = (h s).state.mpt.set p
        ⟨((h s).state.mpt.get p).speed, .waitIdle, 0, [], .preparing,
          responseFrame echo (h s).status (h s).payload⟩ := rfl

/-- An event on a running part. -/
theorem State.whenRunning_running (f : State → State) (s : State) (h : s.power = .running) :
    s.whenRunning f = f s := by simp [State.whenRunning, h]

/-- An event on a part without power or held in reset. -/
theorem State.whenRunning_not (f : State → State) (s : State) (h : s.power ≠ .running) :
    s.whenRunning f = s := by simp [State.whenRunning, h]

/-! ### Bytes and checks -/

/-- The bytes of an item, by place: most significant first (R187). -/
theorem bytesBE_eq (k x : Nat) :
    bytesBE k x = (List.range k).map fun i => BitVec.ofNat 8 (x / 256 ^ (k - 1 - i)) := by
  induction k with
  | zero => rfl
  | succ k ih =>
    rw [List.range_succ_eq_map, bytesBE, ih]
    simp only [List.map_cons, List.map_map, Nat.add_sub_cancel, Nat.sub_zero, List.cons.injEq, true_and]
    apply List.map_congr_left
    intro i _
    simp only [Function.comp_apply]
    congr 3
    omega

/-- What passes its check in the profile region (R144). -/
theorem ProfileImage.passes_iff (x : ProfileImage) :
    x.passes = true ↔ x.check = crc16 x.profile.regionBytes := by simp [ProfileImage.passes]

/-- A snapshot of a profile passes its check (R144). -/
@[simp] theorem Profile.image_passes (p : Profile) : p.image.passes = true := by
  simp [Profile.image, ProfileImage.passes]

/-- A stored profile is loaded when it passes its check and is acceptable, and the default is loaded
otherwise (R148). -/
theorem Nv.loadProfile_eq (v : Nv) (x : ProfileImage) (h : v.profileRegion = some x) :
    v.loadProfile = if x.passes && x.profile.accepted then x.profile else Profile.default := by
  unfold Nv.loadProfile Nv.storedProfile
  rw [h, Option.bind_some]
  generalize (x.passes && x.profile.accepted) = b
  cases b <;> rfl

/-- What passes its check in the totals region (R115, R118). -/
theorem Checkpoint.passes_iff (c : Checkpoint) : c.passes = true ↔ c.check = crc16 c.itemBytes := by
  simp [Checkpoint.passes]

/-- A sealed checkpoint passes its check (R115). -/
@[simp] theorem Checkpoint.seal_passes (c : Checkpoint) : c.seal.passes = true := by
  simp [Checkpoint.seal, Checkpoint.passes, Checkpoint.itemBytes]

/-- A snapshot of the totals passes its check (R115). -/
@[simp] theorem Tot.snapshot_passes (t : Tot) : t.snapshot.passes = true := Checkpoint.seal_passes _

/-! ### The history -/

/-- The first `n` values of a list, by place, 0 beyond its end. -/
theorem takeZ_eq (n : Nat) (l : List Int) : takeZ n l = (List.range n).map fun i => l.getD i 0 := by
  induction n generalizing l with
  | zero => rfl
  | succ n ih =>
    rw [List.range_succ_eq_map]
    cases l with
    | nil => simp [takeZ, ih, Function.comp_def]
    | cons x l => simp [takeZ, ih, Function.comp_def]

/-- A run of the history holds what R6 answers at its indices, from the newest downwards. -/
theorem histRun_eq (last : Index) (h : List Int) (newest : Index) (n : Nat) (hn : n ≤ 2 ^ 32) :
    histRun last h newest n
      = (List.range n).map fun i => histAt last h (newest - BitVec.ofNat 32 i) := by
  have far : ∀ i, (last - (newest - BitVec.ofNat 32 i)).toNat = ((last - newest).toNat + i) % 2 ^ 32 := by
    intro i
    have : last - (newest - BitVec.ofNat 32 i) = last - newest + BitVec.ofNat 32 i := by ring
    rw [this, BitVec.toNat_add, BitVec.toNat_ofNat]
    omega
  have hf := (last - newest).isLt
  simp only [histAt, far]
  unfold histRun
  simp only [takeZ_eq]
  split
  · apply List.map_congr_left
    intro i hi
    have := List.mem_range.1 hi
    rw [Nat.mod_eq_of_lt (by omega)]
    simp [List.getD_eq_getElem?_getD, List.getElem?_drop]
  · obtain ⟨m, rfl⟩ : ∃ m, n = 2 ^ 32 - (last - newest).toNat + m :=
      ⟨n - (2 ^ 32 - (last - newest).toNat), by omega⟩
    rw [Nat.add_sub_cancel_left, List.range_add, List.map_append, List.map_map]
    congr 1
    · apply List.map_congr_left
      intro i hi
      have := List.mem_range.1 hi
      rw [Nat.mod_eq_of_lt (by omega)]
      simp [List.getD_eq_getElem?_getD, List.getElem?_drop]
    · apply List.map_congr_left
      intro i hi
      have := List.mem_range.1 hi
      simp only [Function.comp_apply]
      congr 1
      omega

end Sys2Proof.Machine
end

