-- ==== Sys2Proof/Laws/Boundary.lean ====
section
/-!
SUPPORT. What the recordings of a boundary, the tracker's work and a publication can do, said once: the
blocks each of them leaves alone.
-/

namespace Sys2Proof.Machine

/-! ### Recordings (R159 to R161) -/

/-- A change that touches at most the event and fault unit and the capture unit. -/
def OnlyReports (s t : State) : Prop := ∃ (efu : Efu) (cap : Cap), t = { s with efu := efu, cap := cap }

theorem OnlyReports.refl (s : State) : OnlyReports s s := ⟨s.efu, s.cap, rfl⟩

theorem OnlyReports.trans {s t u : State} (h : OnlyReports s t) (g : OnlyReports t u) : OnlyReports s u := by
  obtain ⟨e, c, rfl⟩ := h
  obtain ⟨e', c', rfl⟩ := g
  exact ⟨e', c', rfl⟩

theorem OnlyEvents.onlyReports {s t : State} (h : OnlyEvents s t) : OnlyReports s t := by
  obtain ⟨p, c, rfl⟩ := h
  exact ⟨_, c, rfl⟩

theorem State.post_onlyReports (k : EventKind) (s : State) : OnlyReports s (s.post k) :=
  (s.post_only k).onlyReports

theorem State.count_onlyReports (f : Stats → Stats) (s : State) : OnlyReports s (s.count f) :=
  ⟨_, s.cap, rfl⟩

theorem State.markFull_onlyReports (s : State) : OnlyReports s s.markFull := by
  rcases s.markFull_cases with ⟨_, h⟩ | ⟨_, h⟩ <;> rw [h]
  · exact OnlyReports.refl s
  · exact OnlyReports.trans ⟨{ s.efu with full := true }, s.cap, rfl⟩ (State.post_onlyReports _ _)

theorem State.noteFault_onlyReports (active : Bool) (key : FaultKey) (s : State) :
    OnlyReports s (s.noteFault active key) := by
  rcases s.noteFault_cases active key with ⟨_, h⟩ | ⟨_, _, h⟩ | ⟨_, _, h⟩ <;> rw [h]
  · exact ⟨_, s.cap, rfl⟩
  · exact ⟨_, s.cap, rfl⟩
  · exact s.markFull_onlyReports

theorem State.takeNote_onlyReports (s : State) (x : Note) : OnlyReports s (s.takeNote x) := by
  unfold State.takeNote
  split
  · unfold State.reportFault
    split
    · exact State.noteFault_onlyReports _ _ _
    · exact ⟨_, s.cap, rfl⟩
  · exact State.noteFault_onlyReports _ _ _

/-- A relation that every step of a fold keeps holds over the fold. -/
theorem foldl_keeps {α β : Type} {R : β → β → Prop} (refl : ∀ x, R x x)
    (trans : ∀ {x y z}, R x y → R y z → R x z) {f : β → α → β} (step : ∀ x a, R x (f x a)) (l : List α)
    (x : β) : R x (l.foldl f x) := by
  induction l generalizing x with
  | nil => exact refl x
  | cons a l ih => exact trans (step x a) (ih (f x a))

/-- The recordings of a boundary change the reports alone (R160). -/
theorem State.takeNotes_onlyReports (n : Nat) (l : List Note) (s : State) : OnlyReports s (s.takeNotes n l) :=
  OnlyReports.trans (foldl_keeps OnlyReports.refl OnlyReports.trans State.takeNote_onlyReports _ _)
    (foldl_keeps OnlyReports.refl OnlyReports.trans State.takeNote_onlyReports _ _)

/-! ### The tracker (R62 to R68) -/

/-- A change that touches at most the tracker, the event and fault unit and the capture unit. -/
def OnlyTracks (s t : State) : Prop :=
  ∃ (stk : Stk) (efu : Efu) (cap : Cap), t = { s with stk := stk, efu := efu, cap := cap }

theorem OnlyTracks.refl (s : State) : OnlyTracks s s := ⟨s.stk, s.efu, s.cap, rfl⟩

theorem OnlyTracks.trans {s t u : State} (h : OnlyTracks s t) (g : OnlyTracks t u) : OnlyTracks s u := by
  obtain ⟨k, e, c, rfl⟩ := h
  obtain ⟨k', e', c', rfl⟩ := g
  exact ⟨k', e', c', rfl⟩

theorem OnlyReports.onlyTracks {s t : State} (h : OnlyReports s t) : OnlyTracks s t := by
  obtain ⟨e, c, rfl⟩ := h
  exact ⟨s.stk, e, c, rfl⟩

theorem State.setStk_onlyTracks (s : State) (k : Stk) : OnlyTracks s (s.setStk k) := ⟨k, s.efu, s.cap, rfl⟩

theorem State.mapTrack_onlyTracks (r : Ring) (f : RingTrack → RingTrack) (s : State) :
    OnlyTracks s (s.mapTrack r f) := State.setStk_onlyTracks _ _

theorem State.dropStale_onlyTracks (x : SlugRecord) (s : State) : OnlyTracks s (s.dropStale x) := by
  unfold State.dropStale State.charge
  exact OnlyTracks.trans (State.count_onlyReports _ _).onlyTracks (State.mapTrack_onlyTracks _ _ _)

/-- A departure changes the tracker, its events and counters, and the capture it may trigger (R66, R67). -/
theorem State.depart_onlyTracks (x : SlugRecord) (last : Index) (vs : Nat) (s : State) :
    OnlyTracks s (s.depart x last vs) :=
  OnlyTracks.trans (State.setStk_onlyTracks _ _)
    (OnlyReports.trans (State.count_onlyReports _ _) (State.post_onlyReports _ _)).onlyTracks

/-- A completion of a slug changes no block beside (R62). -/
theorem State.completeSlug_onlyTracks (x : SlugRecord) (s : State) : OnlyTracks s (s.completeSlug x) := by
  unfold State.completeSlug
  split
  · exact OnlyTracks.refl s
  · simp only
    split
    · split
      · exact OnlyTracks.trans (OnlyTracks.trans (State.setStk_onlyTracks _ _)
          (State.count_onlyReports _ _).onlyTracks) (State.depart_onlyTracks _ _ _ _)
      · exact OnlyTracks.trans (State.setStk_onlyTracks _ _) (State.count_onlyReports _ _).onlyTracks
    · exact (State.count_onlyReports _ _).onlyTracks

theorem reAimList_onlyTracks (l : List SlugRecord) (s : State) : OnlyTracks s (reAimList l s).2 := by
  induction l generalizing s with
  | nil => exact OnlyTracks.refl s
  | cons x l ih =>
    unfold reAimList
    split
    · split
      · exact ih s
      · split
        · exact OnlyTracks.trans (State.dropStale_onlyTracks x s) (ih _)
        · exact OnlyTracks.trans (State.completeSlug_onlyTracks x s) (ih _)
    · exact ih s

theorem State.staleSweep_onlyTracks (i : Index) (s : State) : OnlyTracks s (s.staleSweep i) := by
  unfold State.staleSweep
  exact OnlyTracks.trans (State.setStk_onlyTracks s _)
    (foldl_keeps OnlyTracks.refl OnlyTracks.trans (fun s x => State.dropStale_onlyTracks x s) _ _)

theorem State.reAim_onlyTracks (s : State) : OnlyTracks s s.reAim := by
  unfold State.reAim
  exact OnlyTracks.trans (reAimList_onlyTracks _ s) (State.setStk_onlyTracks _ _)

/-- The tracker's work at a boundary changes no block beside (R63). -/
theorem State.trackerBoundary_onlyTracks (b : Bool) (s : State) : OnlyTracks s (s.trackerBoundary b) := by
  have armed : OnlyTracks s s.armFailed := ⟨s.armFailed.stk, s.efu, s.cap, rfl⟩
  have adjusted (u : State) : OnlyTracks u (u.adjustThresholds b) := State.setStk_onlyTracks u _
  have expired (i : Index) (u : State) : OnlyTracks u (u.expireDeparted i) := State.setStk_onlyTracks u _
  have counted (u : State) : OnlyTracks u u.addOccupancy := (State.count_onlyReports _ u).onlyTracks
  unfold State.trackerBoundary
  exact (((((armed.trans (State.staleSweep_onlyTracks _ _)).trans (State.reAim_onlyTracks _)).trans
    (adjusted _)).trans (expired _ _)).trans (counted _))

theorem State.trackerWork_onlyTracks (old : Profile) (g : Bool) (s : State) :
    OnlyTracks s (s.trackerWork old g) := by
  unfold State.trackerWork
  simp only
  split
  · exact OnlyTracks.trans (State.trackerBoundary_onlyTracks _ s) (State.setStk_onlyTracks _ _)
  · exact State.trackerBoundary_onlyTracks _ s

/-! ### A publication (R73) -/

/-- A change that keeps the pair table, the window number, the front end but for its degraded mark, and the
profiles. -/
def OnlyPublishes (s t : State) : Prop :=
  t.xcr.table = s.xcr.table ∧ t.xcr.windowNumber = s.xcr.windowNumber
  ∧ t.sfe = { s.sfe with degraded := t.sfe.degraded }
  ∧ t.pst = { s.pst with nv := t.pst.nv } ∧ t.power = s.power

theorem OnlyPublishes.refl (s : State) : OnlyPublishes s s := ⟨rfl, rfl, rfl, rfl, rfl⟩

theorem OnlyPublishes.trans {s t u : State} (h : OnlyPublishes s t) (g : OnlyPublishes t u) :
    OnlyPublishes s u := by
  obtain ⟨a, b, c, d, e⟩ := h
  obtain ⟨a', b', c', d', e'⟩ := g
  refine ⟨a'.trans a, b'.trans b, ?_, ?_, e'.trans e⟩
  · rw [c', c]
  · rw [d', d]

theorem OnlyTracks.onlyPublishes {s t : State} (h : OnlyTracks s t) : OnlyPublishes s t := by
  obtain ⟨k, e, c, rfl⟩ := h
  exact ⟨rfl, rfl, rfl, rfl, rfl⟩

theorem OnlyReports.onlyPublishes {s t : State} (h : OnlyReports s t) : OnlyPublishes s t :=
  h.onlyTracks.onlyPublishes

theorem State.solve_onlyPublishes (w : Index) (rs : PerSlot (Option PairResult)) (s : State) :
    OnlyPublishes s (s.solve w rs) := ⟨rfl, rfl, rfl, rfl, rfl⟩

theorem State.guardStep_onlyPublishes (s : State) : OnlyPublishes s s.guardStep :=
  OnlyPublishes.trans (t := (s.setDgd _).setFsv _) ⟨rfl, rfl, rfl, rfl, rfl⟩
    (foldl_keeps OnlyPublishes.refl OnlyPublishes.trans
      (fun s k => (State.post_onlyReports k s).onlyPublishes) _ _)

theorem State.queueCheckpoint_onlyPublishes (s : State) : OnlyPublishes s s.queueCheckpoint :=
  ⟨rfl, rfl, rfl, rfl, rfl⟩

theorem State.creditPulse_onlyPublishes (k : Nat) (s : State) : OnlyPublishes s (s.creditPulse k) := by
  unfold State.creditPulse
  simp only
  split
  · exact OnlyPublishes.refl s
  · split
    · exact OnlyPublishes.trans ⟨rfl, rfl, rfl, rfl, rfl⟩
        (OnlyReports.trans (State.post_onlyReports _ _) (State.noteFault_onlyReports _ _ _)).onlyPublishes
    · exact ⟨rfl, rfl, rfl, rfl, rfl⟩

theorem State.integrateRecord_onlyPublishes (s : State) : OnlyPublishes s s.integrateRecord := by
  refine OnlyPublishes.trans ?_ (State.creditPulse_onlyPublishes _ _)
  unfold State.countPublication
  simp only
  split
  · exact ⟨rfl, rfl, rfl, rfl, rfl⟩
  · exact ⟨rfl, rfl, rfl, rfl, rfl⟩

/-- A publication keeps the pair table, the window number, the samples and the profiles (R73). -/
theorem State.publish_onlyPublishes (w : Index) (rs : PerSlot (Option PairResult)) (s : State) :
    OnlyPublishes s (s.publish w rs) := by
  unfold State.publish
  simp only
  refine OnlyPublishes.trans (OnlyPublishes.trans (s.solve_onlyPublishes w rs) ?_)
    (OnlyPublishes.trans (State.guardStep_onlyPublishes _) (State.integrateRecord_onlyPublishes _))
  split
  · exact (OnlyReports.trans (State.post_onlyReports _ _) (State.post_onlyReports _ _)).onlyPublishes
  · exact (State.post_onlyReports _ _).onlyPublishes

/-- A completion without pairs is a completion of a correlation over no pair (R31). -/
theorem State.completeWithoutPairs_eq (s : State) (f : InFlight) (hw : f.window = s.xcr.windowNumber)
    (hp : f.pairs = PerSlot.fill none) :
    s.completeWithoutPairs = (s.setXcr { s.xcr with state := .running f }).completeCorrelation := by
  have hr : (s.setXcr { s.xcr with state := .running f }).sfe.resultSet f = PerSlot.fill none := by
    simp [Sfe.resultSet, hp, PerSlot.map, PerSlot.fill]
  have hg : ∀ slot, f.pairs.get slot = none := by intro slot; rw [hp]; cases slot <;> rfl
  simp only [State.completeWithoutPairs, State.completeCorrelation, Correlation.inFlight, State.setXcr_xcr, hr,
    hw, State.complete]
  congr 1
  simp only [State.publishResults, State.captureCompletion, State.copyCorrelogram]
  cases hc : s.cap.state <;> rcases hd : s.cap.content with _ | (_ | slot) <;>
    simp [hc, hd, hg, State.count, State.setXcr, State.setEfu]

theorem State.completeWithoutPairs_onlyPublishes (s : State) : OnlyPublishes s s.completeWithoutPairs := by
  unfold State.completeWithoutPairs State.complete
  refine OnlyPublishes.trans ?_ (State.publish_onlyPublishes _ _ _)
  refine OnlyPublishes.trans (t := s.publishResults s.xcr.windowNumber (PerSlot.fill none))
    ⟨rfl, rfl, rfl, rfl, rfl⟩ ?_
  unfold State.captureCompletion
  split
  · exact (State.completeEmpty_only _).onlyReports.onlyPublishes
  · exact OnlyPublishes.refl _

/-- A totals clear keeps the profiles and queues a checkpoint (R120). -/
theorem State.applyClear_onlyPublishes (s : State) : OnlyPublishes s s.applyClear := by
  unfold State.applyClear
  have cleared : OnlyPublishes s (s.setTot s.tot.cleared) := ⟨rfl, rfl, rfl, rfl, rfl⟩
  exact (cleared.trans (State.queueCheckpoint_onlyPublishes _)).trans
    (State.post_onlyReports _ _).onlyPublishes

theorem State.applyClearIfPending_onlyPublishes (s : State) : OnlyPublishes s s.applyClearIfPending := by
  unfold State.applyClearIfPending
  split
  · exact s.applyClear_onlyPublishes
  · exact OnlyPublishes.refl s

/-- The end of a boundary that gives a completion without pairs keeps the pair table, the window number, the
samples and the profiles, whatever the order of its parts (R31). -/
theorem State.finishWithCompletion_onlyPublishes (n : Nat) (old : Profile) (notes : List Note) (s : State) :
    OnlyPublishes s (s.finishWithCompletion n old notes) := by
  have choose (c : Bool) (s t : State) (h : OnlyPublishes s t) : OnlyPublishes s (if c then t else s) := by
    cases c
    · exact OnlyPublishes.refl s
    · exact h
  have choose' (c : Bool) (s t : State) (h : OnlyPublishes s t) : OnlyPublishes s (if c then s else t) := by
    cases c
    · exact h
    · exact OnlyPublishes.refl s
  unfold State.finishWithCompletion
  simp only
  refine OnlyPublishes.trans ?_ (State.takeNotes_onlyReports _ _ _).onlyPublishes
  refine OnlyPublishes.trans ?_ (State.applyClearIfPending_onlyPublishes _)
  refine OnlyPublishes.trans ?_ (choose' _ _ _ (State.trackerWork_onlyTracks _ _ _).onlyPublishes)
  refine OnlyPublishes.trans ?_ (State.completeWithoutPairs_onlyPublishes _)
  refine OnlyPublishes.trans ?_ (State.takeNotes_onlyReports _ _ _).onlyPublishes
  refine OnlyPublishes.trans ?_ (choose _ _ _ (State.applyClearIfPending_onlyPublishes _))
  exact choose _ _ _ (State.trackerWork_onlyTracks _ _ _).onlyPublishes

end Sys2Proof.Machine
end

