-- ==== Sys2Proof/Tests/Slice0.lean ====
section
/-!
SUPPORT. Tests: the spec's worked cases (chapters 2 to 4, 6, 10) and rules on small states, the smoke test
of well-formedness, and for every statement of the obligations a state and operands that meet its
hypotheses, clause by clause.
-/

namespace Sys2Proof.Tests

open Sys2Proof.Machine Sys2Proof.Claim

/-! ### Helpers -/

/-- What a command leaves. -/
def after (c : Instr) (s : State) : State :=
  match exec c s with
  | .next t => t
  | .fault _ | .refused _ => s

/-- Straps low, low on every port. -/
def straps : PerPort StrapPair := PerPort.fill ⟨false, false⟩

/-- A strobed frame whose replies are all in. -/
def frame : Frame := ⟨1, PerRing.fill (some (.good 32768))⟩

/-- The part with that frame open. -/
def opened : State := { State.reset with sfe := { Sfe.reset with frame := some frame } }

/-- The default profile without a flat floor, so that no condition of R11 holds on a fresh part. -/
def calm : Profile := { Profile.default with flatFloor := 0 }

/-- The part with that profile and that frame open at the end of a window. -/
def closing : State :=
  { State.reset with
    sfe := { Sfe.reset with frame := some frame, windowPos := 511 }
    pst := ⟨calm, calm, none, false, Nv.blank⟩ }

/-- The frame at the end of the third window, at which the history becomes ready (R10). -/
def readying : State := { closing with sfe := { closing.sfe with fill := 1535 } }

/-- A part with every ring failed, at the end of a window. -/
def allFailed : State :=
  { readying with sfe := { readying.sfe with
      rings := PerRing.fill { RingSense.reset with health := .failed } } }

/-- A state with another profile in staging, the claim held by P1 and a commit pending. -/
def committing (p : Profile) (s : State) : State :=
  { s with pst := { s.pst with staging := p, claim := some ⟨.p1, 120000⟩, commitPending := true } }

/-- A profile with another carrier reference, bore and pulse weight, whose commit is no geometry commit. -/
def recarried : Profile := { Profile.default with carrierCode := 30000, bore := 500, pulseWeight := 1 }

/-- All rings failed but ring A, whose third bad window closes, with a correlogram capture ARMED on it. -/
def failing : State :=
  { allFailed with
    sfe := { allFailed.sfe with rings := { allFailed.sfe.rings with
      a := { RingSense.reset with health := .suspect, badRun := 2, tally := ⟨33, 0, 0⟩ } } }
    cap := ⟨some .p1, .armed, some (.correlogram .s0), some .ringFailed, none, [], 0, false⟩ }

/-- The part with the claim held by P1. -/
def held : State := { State.reset with pst := { State.reset.pst with claim := some ⟨.p1, 120000⟩ } }

/-- The part with a profile in staging under P1's claim. -/
def editing (p : Profile) : State := { held with pst := { held.pst with staging := p } }

/-- A pair of rings A and B at lags 1 to 3. -/
def pair : PairEntry := ⟨.s0, .a, .b, false, 800, 1, 3, false⟩

/-- A correlation in flight over that pair, two samples long. -/
def flight : InFlight := ⟨1, 0, ⟨some pair, none, none⟩, 2, 500, 300⟩

/-- Histories of A and B under which the sum of the pair at lag k is the entry of A at lag k. -/
def senses (l : List Int) : Sfe :=
  { Sfe.reset with rings := ⟨{ RingSense.reset with hist := l }, { RingSense.reset with hist := [1, 0] },
      RingSense.reset, RingSense.reset⟩ }

/-- A correlation in flight over those histories. -/
def running (l : List Int) : State :=
  { State.reset with sfe := senses l, xcr := { Xcr.reset with state := .running flight } }

/-- A correlation in flight with no pair result to come. -/
def silent : State := running []

/-- The profile of the worked cases of chapters 2 and 4. -/
def worked : Profile := { Profile.default with fs := 1000, vMin := 1500 }

/-- The part with its three ports in one state. -/
def ports (x : PortState) : State := { State.reset with mpt := PerPort.fill x }

/-- A checkpoint with its check. -/
def checkpoint : Checkpoint := checkpointOf 1 1 1 1 500

/-- A slug record aimed at B. -/
def slug : SlugRecord := ⟨7, .a, 0, 900, 5, .b, 0, .range, 10, 60, [⟨.b, 40⟩]⟩

/-! ### Form -/

theorem test_unknownCommand_takes_no_known_code : (Instr.unknownCommand .p1 0x10).wf = false := by decide

theorem test_unknownCommand_takes_other_codes : (Instr.unknownCommand .p1 0x02).wf = true := by decide

theorem test_no_row_gives_bits : decodeTableWord 16 0 = none := by decide

theorem test_withFetchWord_of_no_command : State.reset.withFetchWord 16 0 = State.reset := by decide

/-- R182's own example. -/
theorem test_crc_of_123456789 :
    crc16 [0x31, 0x32, 0x33, 0x34, 0x35, 0x36, 0x37, 0x38, 0x39] = 0x29B1#16 := by decide +kernel

/-! ### Resets -/

theorem test_powerOnReset_of_new_part : exec (.powerOnReset straps) State.unpowered = .next State.reset := by
  rfl

/-- R98: the lines of a tripped part are released while NRST is asserted. -/
theorem test_nrstAsserted_releases_trip :
    (after .nrstAsserted { State.reset with dgd := ⟨.tripped, 0, 2, true⟩ }).dgd = ⟨.clear, 0, 0, false⟩ := by
  decide

/-- R117: the end of an NRST queues a checkpoint of the kept totals. -/
theorem test_nrstReleased_queues_checkpoint :
    (after (.nrstReleased straps) { State.reset with
        power := .held, tot := ⟨9, 1, 8, 2, 1000, 5, true⟩ }).pst.nv.writing
      = some (.totals (checkpointOf 9 0 8 1 500)) := by decide +kernel

/-- R118, R116: a totals write cut short by the loss of power leaves the totals lost. -/
theorem test_powerLoss_cuts_write :
    (after .powerLoss { State.reset with pst := { State.reset.pst with
        nv := ⟨some (.totals checkpoint), [], none, some checkpoint⟩ } }).pst.nv = Nv.blank := by
  decide +kernel

/-- R148, R144: a stored profile is loaded only with the check of its values. -/
theorem test_load_needs_the_check :
    Nv.loadProfile ⟨none, [], some worked.image, none⟩ = worked
      ∧ Nv.loadProfile ⟨none, [], some ⟨worked, worked.image.check + 1⟩, none⟩ = Profile.default := by
  constructor
  · rw [Nv.loadProfile_eq _ _ rfl, Profile.image_passes]; rfl
  · rw [Nv.loadProfile_eq _ _ rfl, if_neg]
    simp [ProfileImage.passes, Profile.image]

/-- R118, R115: totals are restored only from a checkpoint with the check of its items. -/
theorem test_restore_needs_the_check :
    (Nv.restoreTotals 500 ⟨none, [], none, some checkpoint⟩).volume = 1
      ∧ (Nv.restoreTotals 500 ⟨none, [], none, some { checkpoint with volume := 2 }⟩).volume = 0 := by
  decide +kernel

/-- R72, R191: a RESTART keeps the tag counter. -/
theorem test_restart_keeps_tags :
    (after (.restart .p1) { State.reset with stk := Stk.start 800 17 }).stk.tagCounter = 17 := by decide

/-! ### Sampling -/

theorem test_frameStrobe_raises_configured :
    (after .frameStrobe { State.reset with pst := { State.reset.pst with
        active := { Profile.default with ringCount := 3 } } }).sfe.strobe = ⟨true, true, true, false⟩ := by decide

/-- R1: even parity over the seventeen bits is a parity error, a stuck low line one of them. -/
theorem test_ringReply_of_stuck_line : replyOf 0 false = .parityError ∧ replyOf 0xFFFF true = .good 65535 := by
  decide

/-- R3: a reply of parity error substitutes the last good code, 32,768 after a POR. -/
theorem test_ringReply_is_held :
    (after (.ringReply .a 0 false) { State.reset with sfe :=
        { Sfe.reset with frame := some ⟨0, PerRing.fill none⟩ } }).sfe.frame
      = some ⟨0, ⟨some .parityError, none, none, none⟩⟩ := by decide

theorem test_replyDeadline_substitutes :
    ((after .replyDeadline { State.reset with sfe :=
        { Sfe.reset with frame := some ⟨0, PerRing.fill none⟩ } }).sfe.rings.get .a).tally = ⟨1, 0, 0⟩ := by
  decide

/-- R12: the third bad window of a SUSPECT ring makes it FAILED. -/
theorem test_third_bad_window_fails :
    (RingSense.grade true { RingSense.reset with health := .suspect, badRun := 2 }).health = .failed := by decide

/-- R39, R41, R43: pair A–B of section 2.7. -/
theorem test_worked_pair :
    peakOffset 9000000 10000000 9400000 = 32 ∧ quality 10000000 11000000 12000000 = 775
      ∧ pairVelocity 800 1000 68384 = 2995 := by decide

/-- R25: the lag ranges of section 2.7, with ring B healthy and failed. -/
theorem test_worked_table :
    buildTable worked [.a, .b, .c, .d]
        = ⟨some ⟨.s0, .a, .b, false, 800, 100, 534, false⟩, some ⟨.s1, .b, .c, false, 800, 100, 534, false⟩,
            some ⟨.s2, .c, .d, false, 800, 100, 534, false⟩⟩
      ∧ (buildTable worked [.a, .c, .d]).get .s0 = some ⟨.s0, .a, .c, true, 1600, 200, 711, true⟩ := by decide

/-- R44: the peak at lag 2 of sums 1, 3, 2. -/
theorem test_correlationCompletion_finds_peak :
    ((after .correlationCompletion (running [0, 1, 3, 2])).xcr.results.get .s0).map PairResult.kp
      = some 2 := by decide

/-- R77: without a measurement and without a last one the record is LOST, and it is published (R73). -/
theorem test_correlationCompletion_publishes_lost :
    (after .correlationCompletion silent).fsv.record.status = .lost
      ∧ (after .correlationCompletion silent).efu.stats.recLost = 1 := by decide

/-! ### Slugs and flow -/

/-- R54, R55: the threshold of section 3.8 at windows 2 and 8. -/
theorem test_worked_threshold :
    adjustTheta Profile.default 2 0 800 = 900 ∧ adjustTheta Profile.default 0 4 1000 = 900
      ∧ adjustTheta Profile.default 0 3 1000 = 1000 := by decide

/-- R62, R67: the slug of section 3.9. -/
theorem test_worked_slug :
    slugVelocity 2400 1000 803 = 2989
      ∧ departOffset { worked with stationDistance := 12000 } 2989 = 4014721 := by decide

/-- R82, R89 to R91: the record of section 4.9. -/
theorem test_worked_record :
    phiOfRatio (conductanceRatio 30000 40000) = 1818 ∧ pipeArea 600 = 282744 ∧ slurryFlow 3015 282744 = 8525
      ∧ solidsRate 3015 282744 1818 2700 = 15064 ∧ depositionVelocity 1818 worked.depTable = 2506 := by decide

/-- R88: the flush of section 4.4, and one record short of eight. -/
theorem test_worked_flush :
    Accumulator.judge ⟨8, 40200, 40400, 322520⟩ = some 40315
      ∧ Accumulator.judge ⟨6, 40200, 40400, 241800⟩ = none := by decide

theorem test_flushBegin_amends : (after (.flushBegin .p1) State.reset).fsv.record.phiSource = .flush := by decide

theorem test_flushEnd_learns :
    (after (.flushEnd .p1) { State.reset with fsv := { State.reset.fsv with
        flush := true, acc := ⟨8, 40200, 40400, 322520⟩ } }).fsv.sigma = 40315 := by decide

/-- R113: records 1 and 3 of section 6.6. -/
theorem test_worked_totals :
    Tot.integrate 436466257920 2142438273626112000 ⟨0, 0, 0, 0, 1000, 0, false⟩
        = ⟨436, 466257920, 214, 2438273626112000, 1000, 0, false⟩
      ∧ (Tot.integrate 436466257920 0 ⟨872, 932515840, 0, 0, 1000, 0, false⟩).volume = 1309 := by decide

/-- R121: record 3 of section 6.7 reaches the cap. -/
theorem test_worked_backlog :
    (Pls.addCredit { worked with pulseWeight := 1 } 437 ⟨820, 52, 0, .high, 10, 4, true⟩)
      = ⟨1000, 52, 257, .high, 10, 4, true⟩ := by decide

theorem test_pulseWidthElapsed_releases_pulse :
    (after .pulseWidthElapsed { State.reset with pls := ⟨0, 1, 0, .high, 50, 49, true⟩ }).pls
      = ⟨0, 1, 0, .gap, 50, 0, false⟩ := by decide

theorem test_gapElapsed_begins_next :
    (after .gapElapsed { State.reset with pls := ⟨1000, 1, 0, .gap, 10, 9, false⟩ }).pls
      = ⟨0, 2, 0, .high, 50, 0, true⟩ := by decide

/-- R106: a TRIPPED guard on a line that is not STOPPED is not released. -/
theorem test_guardRelease_refused_on_moving_line :
    (after (.guardRelease .p2) { State.reset with
        dgd := ⟨.tripped, 0, 4, true⟩, fsv := { State.reset.fsv with line := .starting } }).dgd
      = ⟨.tripped, 0, 4, true⟩ := by decide

/-! ### Clock, claim and store -/

theorem test_crystalFailure_degrades : (after .crystalFailure State.reset).sfe.degraded = true := by decide

theorem test_stableTimeReached_on_fallback :
    (after .stableTimeReached { State.reset with sfe := { Sfe.reset with clock := .fallback } }).sfe.stable
      = 1024 := by decide

/-- R138: the expiry waits while a commit is pending. -/
theorem test_claimExpiry_waits_for_commit :
    (after .claimExpiry (committing worked State.reset)).pst.claim = some ⟨.p1, 120000⟩
      ∧ (after .claimExpiry held).pst.claim = none := by decide

theorem test_openEdit_of_second_port :
    (after (.openEdit .p2) held).pst.claim = some ⟨.p1, 120000⟩ := by decide

/-- Section 10.9: pulseWeight becomes 50, answered in 12 bytes. -/
theorem test_worked_writeField :
    (after (.writeField .p1 41 50) held).pst.staging.pulseWeight = 50
      ∧ (((after (.writeField .p1 41 50) held).mpt.get .p1).response).take 10
        = [0xA5, 0x00, 0x07, 0x31, 0x00, 41, 0x00, 0x00, 0x00, 0x32] := by decide

/-- R187: a deposition point carries φ in its first two bytes and Vc in its last two. -/
theorem test_writeField_of_point :
    (after (.writeField .p1 18 0x05DC0960#32) held).pst.staging.dep2 = ⟨1500, 2400⟩ := by decide

theorem test_readField_of_signed_value :
    ({ Profile.default with tripMargin := -1 }).word 26 = 0xFFFFFFFF#32 := by decide

/-- R140: two checks fail, and the first one is reported. -/
theorem test_commitEdit_reports_first_failure :
    Profile.firstFailure { Profile.default with tripMargin := 601, stopVel := 8000 } = some (2, none)
      ∧ Profile.firstFailure { worked with spacingAB := 100, fs := 100, vMax := 20000 } = some (5, some 0) := by
  decide

theorem test_commitEdit_waits_for_boundary :
    (after (.commitEdit .p1) (editing worked)).pst.commitPending = true
      ∧ (after (.commitEdit .p1) (editing worked)).pst.active = Profile.default := by decide

theorem test_dropEdit_discards : (after (.dropEdit .p1) (editing worked)).pst = State.reset.pst := by decide

theorem test_clearTotals_needs_the_claim :
    (after (.clearTotals .p2) held).tot.clearPending = false
      ∧ (after (.clearTotals .p1) held).tot.clearPending = true := by decide

/-- R145: the oldest waiting write starts when a write ends. -/
theorem test_nvWriteCompletion_starts_next :
    (after (.nvWriteCompletion true) { State.reset with pst := { State.reset.pst with
        nv := ⟨some (.profile (imageOf worked)), [.totals checkpoint], none, none⟩ } }).pst.nv
      = ⟨some (.totals checkpoint), [], some (imageOf worked), none⟩ := rfl

theorem test_nvWriteCompletion_failed_is_recorded :
    (after (.nvWriteCompletion false) { State.reset with pst := { State.reset.pst with
        nv := ⟨some (.profile ⟨worked, 0⟩), [], none, none⟩ } }).efu.faults.length = 3 := by decide

/-! ### Events, faults and capture -/

/-- R154, R187: a level above 7 is refused, and the items are carried in 2, 2, 2 and 1 bytes. -/
theorem test_setAttention_above_seven :
    ((after (.setAttention .p1 0xFFFF 8) State.reset).efu.ports.get .p1).enable = 0
      ∧ (((after (.setAttention .p1 0xFFFF 8) State.reset).mpt.get .p1).response).length = 14 := by decide

/-- R155: GUARD_TRIPPED of level 7 asserts the line at threshold 6 and not at 7. -/
theorem test_setAttention_drives_line :
    let s := { State.reset with efu := { State.reset.efu with ports := PerPort.fill ⟨1, 0, 0, false⟩ } }
    ((after (.setAttention .p1 1 6) s).efu.ports.get .p1).atn = true
      ∧ ((after (.setAttention .p1 1 7) s).efu.ports.get .p1).atn = false := by decide

theorem test_takeEvents_removes_named :
    ((after (.takeEvents .p1 0x0001) { State.reset with efu := { State.reset.efu with
        ports := PerPort.fill ⟨3, 0, 0, false⟩ } }).efu.ports.get .p1).posted = 2 := by decide

theorem test_clearFaults_keeps_active :
    (after (.clearFaults .p1) { State.reset with efu := { State.reset.efu with
        faults := [⟨⟨.clock, .clockFallback⟩, 1, 2, 2, true⟩, ⟨⟨.totalizer, .totalsLost⟩, 0, 0, 1, false⟩],
        full := true } }).efu.faults = [⟨⟨.clock, .clockFallback⟩, 1, 2, 2, true⟩] := by decide

theorem test_clearStats_zeroes :
    (after (.clearStats .p1) { State.reset with efu := { State.reset.efu with
        stats := { Stats.zero with stale := 9 } } }).efu.stats = Stats.zero := by decide

theorem test_armCapture_of_unconfigured_ring :
    (after (.armCapture .p1 0 3 0) { State.reset with pst := { State.reset.pst with
        active := { Profile.default with ringCount := 3 } } }).cap = Cap.idle := by decide

theorem test_armCapture_waits :
    (after (.armCapture .p1 1 2 4) State.reset).cap
      = ⟨some .p1, .armed, some (.correlogram .s2), some .slugDeparted, none, [], 0, false⟩ := by decide

/-- R173: a correlogram whose largest magnitude is 2³² takes a shift of 2, and −1 rounds down to −1. -/
theorem test_correlogram_shift : captureShift (2 ^ 32) = 2 ∧ scaleValues 2 [-1, 2 ^ 32] = [-1, 2 ^ 30] := by
  decide

theorem test_captureCopyCompletion_fills :
    (after .captureCopyCompletion { State.reset with cap :=
        ⟨some .p2, .filling, some (.raw .a), some .immediate, some ⟨0, 0, none, none⟩, [5, 6], 0, false⟩ }).cap.count
      = 2 := by decide

theorem test_releaseCapture_of_owner :
    (after (.releaseCapture .p2) { State.reset with cap :=
        ⟨some .p2, .armed, some (.raw .a), some .ringFailed, none, [], 0, false⟩ }).cap = Cap.idle := by decide

/-! ### Ports -/

/-- Section 10.9: an SOF that comes before 2 ms of idle is discarded and restarts the idle count. -/
theorem test_byteReceived_too_early :
    (after (.byteReceived .p1 0xA5 false) (ports ⟨.b38400, .waitIdle, 1, [], .free, []⟩)).mpt.get .p1
      = ⟨.b38400, .waitIdle, 0, [], .free, []⟩ := by decide

theorem test_interByteTimeout_counts :
    (after (.interByteTimeout .p2) (ports ⟨.b38400, .receiving, 1, [0xA5], .free, []⟩)).efu.stats.checkErrors = ⟨0, 1, 0⟩ := by decide

theorem test_idleGapElapsed_readies :
    ((after (.idleGapElapsed .p3) State.reset).mpt.get .p3).rx = .ready := by decide

/-- R185: a frame abandoned under the response is an overrun and no check error. -/
theorem test_responseStart_abandons :
    (after (.responseStart .p1) (ports ⟨.b38400, .receiving, 1, [0xA5], .preparing, [0xA5]⟩)).efu.stats.overruns = ⟨1, 0, 0⟩ := by
  decide

theorem test_responseEnd_frees :
    ((after (.responseEnd .p1) (ports ⟨.b38400, .waitIdle, 0, [], .sending, [0xA5]⟩)).mpt.get .p1).tx = .free := by decide

/-- Section 10.9: a request that completes while its port prepares a response is an overrun. -/
theorem test_readTotals_overrun :
    (after (.readTotals .p3) (ports ⟨.b38400, .waitIdle, 0, [], .preparing, [0xA5]⟩)).efu.stats.overruns = ⟨0, 0, 1⟩ := by decide

/-- R183: UNKNOWN echoes the command byte. -/
theorem test_unknownCommand_answer :
    ((after (.unknownCommand .p1 0x7F) State.reset).mpt.get .p1).response.take 5
      = [0xA5, 0x00, 0x02, 0x7F, 0x01] := by decide

/-- R190: the first items of IDENTIFY. -/
theorem test_identify_answer :
    ((after (.identify .p2) State.reset).mpt.get .p2).response.take 11
      = [0xA5, 0x00, 21, 0x01, 0x00, 0x0E, 0x21, 0x04, 0x20, 1, 4] := by decide

/-- Section 10.9: the READ_FLOW response has 62 bytes. -/
theorem test_readFlow_length : ((after (.readFlow .p3) State.reset).mpt.get .p3).response.length = 62 := by decide

/-- R166: 37 counters of four bytes. -/
theorem test_readStats_length : ((after (.readStats .p1) State.reset).mpt.get .p1).response.length = 155 := by
  decide +kernel

/-- R163: FULL, the count, the window number and two entries of 13 bytes after a first power-on. -/
theorem test_readFaults_length : ((after (.readFaults .p1) State.reset).mpt.get .p1).response.length = 39 := by
  decide

theorem test_readPairs_length : ((after (.readPairs .p1) State.reset).mpt.get .p1).response.length = 192 := by
  decide +kernel

/-- R70: a start index above 15 is refused with RANGE. -/
theorem test_readSlugs_above_fifteen :
    ((after (.readSlugs .p1 16) State.reset).mpt.get .p1).response.take 5 = [0xA5, 0, 2, 0x12, 3] := by decide

/-- R71: no entry, and the sample index of the last frame stored. -/
theorem test_readDeparted_empty :
    ((after (.readDeparted .p1) { State.reset with sfe := { Sfe.reset with lastIndex := 258 } }).mpt.get
      .p1).response.take 10 = [0xA5, 0, 7, 0x13, 0, 0, 0, 0, 1, 2] := by decide

/-- R21: ringCount, CRYSTAL and the stable time first. -/
theorem test_readHealth_items :
    ((after (.readHealth .p1) State.reset).mpt.get .p1).response.take 9
      = [0xA5, 0, 85, 0x14, 0, 4, 0, 0, 0] := by decide

/-- R175: the third chunk of a capture of 130 values holds 10 of them. -/
theorem test_readCapture_last_chunk :
    (Cap.chunk ⟨some .p1, .full, some (.raw .a), some .immediate, none, List.replicate 130 0, 130, false⟩
      120).length = 10 := by decide

/-! ### Witnesses: states and operands that meet the hypotheses of the statements

Each theorem is named for its statement, and its parts stand in the order of the statement's clauses. -/

/-- Every request on a port that can take it. -/
theorem test_free : Free .p1 State.reset ∧ Free .p2 held ∧ Free .p1 held := ⟨⟨rfl, rfl⟩, ⟨rfl, rfl⟩, ⟨rfl, rfl⟩⟩

theorem test_hyp_StepRunsFront :
    (State.reset.setPending [.frameStrobe]).pending = .frameStrobe :: [] := rfl

/-- A claim expires at the tick that reaches its expiry, and not one tick before. -/
theorem test_hyp_IdleStepTicks :
    (State.unpowered.pending = [] ∧ State.unpowered.power ≠ .running)
      ∧ (State.reset.pending = [] ∧ State.reset.power = .running)
      ∧ (Pls.start 50).gen = .idle
      ∧ (let x : Pls := ⟨0, 1, 0, .high, 50, 48, true⟩; x.gen ≠ .idle ∧ x.elapsed + 1 < x.width)
      ∧ (let x : Pls := ⟨0, 1, 0, .high, 50, 49, true⟩; x.gen = .high ∧ x.width ≤ x.elapsed + 1)
      ∧ (let x : Pls := ⟨1000, 1, 0, .gap, 50, 49, false⟩
         x.gen = .gap ∧ x.width ≤ x.elapsed + 1 ∧ Profile.default.pulseWeight ≤ x.credit)
      ∧ (let x : Pls := ⟨999, 1, 0, .gap, 50, 49, false⟩
         x.gen = .gap ∧ x.width ≤ x.elapsed + 1 ∧ x.credit < Profile.default.pulseWeight)
      ∧ (let s := held.setTimebase 119999
         s.pst.claim = some ⟨.p1, 120000⟩ ∧ 120000 ≤ s.timebase + 1 ∧ s.pst.commitPending = false)
      ∧ (let s := held.setTimebase 119998
         s.pst.claim = some ⟨.p1, 120000⟩ ∧ s.timebase + 1 < 120000)
      ∧ (let s := ports ⟨.b19200, .waitIdle, 1, [], .free, []⟩
         (s.mpt.get .p1).tx ≠ .sending ∧ (s.mpt.get .p1).rx = .waitIdle)
      ∧ (let s := ports ⟨.b19200, .receiving, 1, [0xA5], .free, []⟩
         (s.mpt.get .p1).tx ≠ .sending ∧ (s.mpt.get .p1).rx = .receiving ∧ 2 ≤ (s.mpt.get .p1).idle + 1)
      ∧ (let s := ports ⟨.b19200, .receiving, 0, [0xA5], .free, []⟩
         (s.mpt.get .p1).tx ≠ .sending ∧ (s.mpt.get .p1).rx = .receiving ∧ (s.mpt.get .p1).idle + 1 < 2)
      ∧ ((ports ⟨.b19200, .ready, 2, [], .free, []⟩).mpt.get .p1).rx = .ready := by
  decide

/-- The longest response payload, and one changed byte. -/
theorem test_hyp_ResponseFormAndCheck :
    (List.replicate 510 (0 : Byte)).length ≤ 510 ∧ (0x00#8 ≠ 0x80#8) := by
  constructor
  · rw [List.length_replicate]
  · decide

/-- The longest request payload; a known, an unknown and a wrong-length request. -/
theorem test_hyp_BytesMakeTheRequest :
    (let s := ports ⟨.b19200, .ready, 2, [], .free, []⟩
     s.power = .running ∧ (s.mpt.get .p1).tx = .free ∧ (s.mpt.get .p1).rx = .ready)
      ∧ (List.replicate 250 (0 : Byte)).length ≤ 250
      ∧ requestOf (.takeEvents .p1 0x8001) = some (.p1, 0x20, [0x80, 0x01])
      ∧ (0x02#8).toNat ∉ codes
      ∧ ((0x20#8).toNat ∈ codes ∧ ∀ p x, requestOf (.takeEvents p x) = some (p, 0x20, two x))
      ∧ ((ports ⟨.b19200, .ready, 2, [], .preparing, []⟩).mpt.get .p1).tx = .preparing
      ∧ (0x00#8 ++ 0x00#8 : BitVec 16) ≠ crc16 (bodyOf 0x15 []) := by
  refine ⟨by decide, by rw [List.length_replicate], by decide, by decide, ⟨by decide, fun p x => rfl⟩, by decide,
    by decide +kernel⟩

theorem test_hyp_RequestsNotTaken :
    requestOf (.readTotals .p1) = some (.p1, 0x15, [])
      ∧ (let s := ports ⟨.b19200, .ready, 2, [], .preparing, []⟩
         s.power = .running ∧ (s.mpt.get .p1).tx = .preparing)
      ∧ ((ports ⟨.b19200, .waitIdle, 0, [], .sending, []⟩).mpt.get .p1).tx = .sending
      ∧ State.unpowered.power ≠ .running := by decide

/-- The bytes: each receiver state, a length of 0 and of 252, and the last byte but one of a frame of 5. -/
theorem test_hyp_BytesAndPortEvents :
    ((State.reset.mpt.get .p1).tx ≠ .sending ∧ (State.reset.mpt.get .p1).rx = .waitIdle)
      ∧ ((ports ⟨.b19200, .ready, 2, [], .free, []⟩).mpt.get .p1).rx = .ready
      ∧ ((0x00#8 : Byte).toNat = 0 ∧ 251 < (0xFC#8 : Byte).toNat)
      ∧ (let c := (ports ⟨.b19200, .receiving, 0, [0xA5], .free, []⟩).mpt.get .p1
         c.rx = .receiving ∧ c.buffer.length = 1)
      ∧ (let c := (ports ⟨.b19200, .receiving, 0, [0xA5, 0x01, 0x10], .free, []⟩).mpt.get .p1
         c.rx = .receiving ∧ c.buffer ++ [0xFF] = 0xA5 :: 0x01 :: [0x10, 0xFF]
          ∧ [0x10#8, 0xFF#8].length ≠ (0x01#8 : Byte).toNat + 2)
      ∧ (let c := (ports ⟨.b19200, .receiving, 0, [0xA5, 0x01, 0x15, 0x00], .free, []⟩).mpt.get .p1
         c.rx = .receiving ∧ c.buffer ++ [0x00] = 0xA5 :: 0x01 :: [0x15] ++ [0x00, 0x00] ∧ c.tx = .free
          ∧ (0x00#8 ++ 0x00#8 : BitVec 16) ≠ crc16 [0x01, 0x15])
      ∧ (let c := (ports ⟨.b19200, .receiving, 0, [0xA5], .preparing, []⟩).mpt.get .p1
         c.tx = .preparing ∧ c.rx = .receiving)
      ∧ (let c := (ports ⟨.b19200, .ready, 2, [], .preparing, []⟩).mpt.get .p1
         c.tx = .preparing ∧ c.rx ≠ .receiving)
      ∧ ((ports ⟨.b19200, .waitIdle, 0, [], .sending, []⟩).mpt.get .p1).tx = .sending := by decide +kernel

/-- The resets: a part held in reset, one that runs, and one without power. -/
theorem test_hyp_resets :
    (after .nrstAsserted State.reset).power = .held ∧ Free .p1 State.reset
      ∧ State.reset.pst.active.accepted = true ∧ State.reset.power ≠ .off := by
  refine ⟨by decide, ⟨rfl, rfl⟩, by decide, by decide⟩

/-- R118: a checkpoint at the ends of the ranges, one whose residue is not below its divisor, one whose check
does not match, and none. -/
theorem test_hyp_TotalsAndPulseAfterReset :
    (let c := checkpointOf 1 99999999 1 999999999999999 100
     totalsAfterCut ⟨none, [], none, some c⟩ = some c ∧ Restorable c)
      ∧ ¬ Restorable (checkpointOf 1 100000000 1 0 100) ∧ ¬ Restorable { checkpoint with check := 0 }
      ∧ totalsAfterCut ⟨some (.totals checkpoint), [], none, some checkpoint⟩ = none := by
  unfold Restorable
  decide +kernel

theorem test_hyp_StoreAfterReset :
    profileAfterCut ⟨none, [], some (imageOf worked), none⟩ = some (imageOf worked) ∧ Loadable (imageOf worked)
      ∧ profileAfterCut ⟨some (.profile (imageOf worked)), [], some (imageOf worked), none⟩ = none
      ∧ ¬ Loadable (imageOf { worked with stopVel := 8000 })
      ∧ ¬ Loadable ⟨worked, profileCheck worked + 1⟩ := by
  have whole : ∀ x, profileAfterCut ⟨none, [], some x, none⟩ = some x := fun _ => rfl
  have cut : ∀ x y, profileAfterCut ⟨some (.profile x), [], some y, none⟩ = none := fun _ _ => rfl
  have stored : ∀ p, (imageOf p).check = profileCheck (imageOf p).profile := fun p => by simp only [imageOf]
  refine ⟨whole _, ⟨stored _, by decide⟩, cut _ _, fun h => absurd h.2 (by decide), fun h => ?_⟩
  have := h.1
  simp at this

theorem test_hyp_ReportsCaptureAndPortsAfterReset :
    (after (.armCapture .p1 1 2 4) State.reset).cap.state = .armed
      ∧ (after (.armCapture .p1 1 2 0) State.reset).cap.state = .filling ∧ State.reset.cap.state = .idle := by decide

theorem test_no_frame_open :
    State.reset.power = .running ∧ State.reset.sfe.frame = none ∧ opened.sfe.frame = some frame := by decide

/-- The first reply of a frame, the last one, a second one, and one of a ring that is not configured. -/
theorem test_hyp_FrameStrobeAndReply :
    FrameOpen ⟨1, PerRing.fill none⟩ { opened with sfe := { opened.sfe with frame := some ⟨1, PerRing.fill none⟩ } }
      ∧ Configured opened .a ∧ Configured opened .d
      ∧ (∃ x : Ring, x ≠ .a ∧ Configured opened x ∧ (PerRing.fill (none : Option Reply)).get x = none)
      ∧ (∀ x : Ring, x ≠ .a → Configured opened x →
          ((PerRing.fill (some (Reply.good 0))).set .a none).get x ≠ none)
      ∧ frame.replies.get .a ≠ none
      ∧ ¬ Configured { opened with pst := { opened.pst with active := { Profile.default with ringCount := 3 } } } .d := by
  refine ⟨⟨rfl, rfl⟩, by unfold Configured; decide, by unfold Configured; decide, ⟨.b, by decide, by
    unfold Configured; decide, rfl⟩, ?_, by decide, by unfold Configured; decide⟩
  intro x hx _
  cases x <;> first | exact absurd rfl hx | decide

/-- What a detector reports: a detection of the least width, a runt, and a slug that is long at 4N. -/
theorem test_hyp_detectors :
    live opened .a = true ∧ live allFailed .a = false
      ∧ detectorStep Profile.default 800 10 399 (.inSlug 6 900) = (.armed, .detection 6 900 4)
      ∧ detectorStep Profile.default 800 10 399 (.inSlug 7 900) = (.armed, .runt)
      ∧ detectorStep Profile.default 800 2048 400 (.inSlug 0 900) = (.holdoff, .long)
      ∧ detectorStep Profile.default 800 2047 400 (.inSlug 0 900) = (.inSlug 0 900, .nothing) := by decide

/-- The last frame but one of a window, with a saturated, a substituted and an ordinary reply; and the last one,
with a geometry commit that waits, with another commit and with none. -/
theorem test_hyp_FrameStored :
    FrameOpen frame opened ∧ opened.sfe.windowPos + 1 ≠ opened.pst.active.n
      ∧ 510 + 1 ≠ opened.pst.active.n ∧ frame.index = opened.sfe.lastIndex + 1
      ∧ Saturated (some (.good 65535)) ∧ Substituted (some .parityError) ∧ Substituted none
      ∧ ¬ Substituted (some (.good 1)) ∧ ¬ Saturated (some (.good 1))
      ∧ AtBoundary frame (committing worked closing) ∧ ¬ Closes frame (committing worked closing)
      ∧ Closes frame (committing recarried closing) ∧ Closes frame closing := by
  refine ⟨⟨rfl, rfl⟩, by decide, by decide, by decide, Or.inr rfl, fun c => by simp, fun c => by simp, ?_, ?_,
    ⟨⟨rfl, rfl⟩, by decide⟩, fun h => absurd h.2 (by decide), ⟨⟨⟨rfl, rfl⟩, by decide⟩, by decide⟩,
    ⟨⟨rfl, rfl⟩, by decide⟩, by decide⟩
  · intro h; exact h 1 rfl
  · rintro (h | h) <;> simp at h

/-- R4, R5: a seeded ring whose mean falls by a unit, and an unseeded one; the clamp at its lower end. -/
theorem test_newSample :
    newMean Profile.default (some (.good 100)) { RingSense.reset with seeded := true, mean := 25601 } = 25600
      ∧ newMean Profile.default none { RingSense.reset with lastGood := 7 } = 1792
      ∧ newSample Profile.default (some (.good 0)) { RingSense.reset with seeded := true, mean := 16776960 }
        = -32767 := by decide

theorem test_closing : Closes frame closing := ⟨⟨⟨rfl, rfl⟩, by decide⟩, by decide⟩

theorem test_readying : Closes frame readying ∧ ReadyAt readying ∧ Closes frame allFailed ∧ ReadyAt allFailed :=
  ⟨⟨⟨⟨rfl, rfl⟩, by decide⟩, by decide⟩, Or.inr (by decide), ⟨⟨⟨rfl, rfl⟩, by decide⟩, by decide⟩,
    Or.inr (by decide)⟩

theorem test_not_ready : ¬ ReadyAt closing ∧ ¬ ReadyAt { closing with sfe := { closing.sfe with fill := 1534 } } := by
  unfold ReadyAt
  decide

/-- A boundary that is not ready, and one that is ready with a pair, gives no completion without pairs. -/
theorem test_no_emptyCompletion :
    ¬ EmptyCompletion closing (after .replyDeadline closing)
      ∧ ¬ EmptyCompletion readying (after .replyDeadline readying) :=
  ⟨fun h => test_not_ready.1 h.1, fun h => absurd (h.2.1 .s0) (by decide +kernel)⟩

/-- A boundary as it stands once its correlation has been judged. -/
def judged (s : State) : State :=
  let u := (s.storeFrame frame).trackFrame
  (((u.setFreeCount (u.freeCount + 1)).closeWindow.applyPending u.freeCount).rebuildTable).correlatorBoundary

/-- A completion without pairs publishes on the boundary so judged. -/
theorem judged_publishes (s : State) (hp : s.power = .running) (hf : s.sfe.frame = some frame)
    (hw : ((s.storeFrame frame).trackFrame).sfe.windowPos = ((s.storeFrame frame).trackFrame).active.n)
    (hc : (judged s).completesWithoutPairs = true) : OnlyPublishes (judged s) (after .replyDeadline s) := by
  have h : after .replyDeadline s = State.boundary ((s.storeFrame frame).trackFrame) := by
    simp only [after, exec, execReplyDeadline]
    rw [State.whenRunning_running _ _ hp]
    simp only [State.takeDeadline, hf, State.closeFrame]
    rw [if_pos hw]
  rw [h]
  unfold State.boundary
  simp only
  exact (if_pos hc).symm ▸ State.finishWithCompletion_onlyPublishes _ _ _ _

/-- A boundary that is ready without a pair gives a completion without pairs, and keeps the profile. -/
theorem test_emptyCompletion :
    EmptyCompletion allFailed (after .replyDeadline allFailed)
      ∧ (after .replyDeadline allFailed).pst.active = allFailed.pst.active := by
  have h := judged_publishes allFailed rfl rfl (by decide +kernel) (by decide +kernel)
  refine ⟨⟨Or.inr (by decide), fun k => ?_,
    fun f => by simp [allFailed, readying, closing, State.reset, Xcr.reset]⟩, ?_⟩
  · rw [h.1]
    cases k <;> decide +kernel
  · rw [h.2.2.2.1]
    decide +kernel

/-- A ring that fails at a boundary that gives a completion without pairs, with a capture ARMED on it. -/
theorem test_failing :
    AtBoundary frame failing ∧ ArmedOn .ringFailed failing.cap ∧ failing.cap.content = some (.correlogram .s0)
      ∧ EmptyCompletion failing (after .replyDeadline failing) ∧ Configured failing .a
      ∧ (failing.sfe.rings.get .a).health = .suspect
      ∧ ((after .replyDeadline failing).sfe.rings.get .a).health = .failed := by
  have h := judged_publishes failing rfl rfl (by decide +kernel) (by decide +kernel)
  refine ⟨⟨⟨rfl, rfl⟩, by decide⟩, ⟨rfl, _, rfl, rfl⟩, rfl, ⟨Or.inr (by decide), fun k => ?_,
    fun f => by simp [failing, allFailed, readying, closing, State.reset, Xcr.reset]⟩,
    by unfold Configured; decide, rfl, ?_⟩
  · rw [h.1]
    cases k <;> decide +kernel
  · rw [h.2.2.1]
    decide +kernel

/-- A window with 33 samples missing at ring A and 32 at ring B, whose entries the map holds. -/
def missing : State :=
  { closing with
    sfe := { closing.sfe with rings := ⟨{ RingSense.reset with tally := ⟨33, 0, 0⟩ },
      { RingSense.reset with tally := ⟨32, 0, 0⟩ }, RingSense.reset, RingSense.reset⟩ }
    efu := { closing.efu with faults :=
      [⟨⟨.ring .a, .sampleMissing⟩, 1, 2, 65535, false⟩, ⟨⟨.ring .b, .sampleMissing⟩, 1, 2, 3, true⟩] } }

/-- A condition that holds and one that does not, with and without an entry; a commit that waits. -/
theorem test_hyp_reports :
    FrameOpen frame missing ∧ missing.sfe.windowPos + 1 = missing.pst.active.n
      ∧ missing.pst.active.n / 16 < ((after .replyDeadline missing).sfe.rings.get .a).closed.missing
      ∧ ¬ missing.pst.active.n / 16 < ((after .replyDeadline missing).sfe.rings.get .b).closed.missing
      ∧ (∀ e ∈ missing.efu.faults, e.key ≠ ⟨.clock, .clockFallback⟩)
      ∧ FrameOpen frame (committing worked closing)
      ∧ (committing worked closing).sfe.windowPos + 1 = (committing worked closing).pst.active.n :=
  ⟨⟨rfl, rfl⟩, by decide, by decide +kernel, by decide +kernel, by decide, ⟨rfl, rfl⟩, by decide⟩

/-- The stable time of R19 at and below its end, and each row of R12 at its limit. -/
theorem test_hyp_BoundaryGradesRings :
    Closes frame (committing recarried closing)
      ∧ Closes frame { closing with sfe := { closing.sfe with clock := .fallback, stable := 1024 } }
      ∧ Closes frame { closing with sfe := { closing.sfe with clock := .fallback, stable := 1023 } }
      ∧ (let x := { RingSense.reset with health := .suspect, badRun := 1 }; x.badRun + 1 < 3)
      ∧ (let x := { RingSense.reset with health := .suspect, badRun := 2 }; 3 ≤ x.badRun + 1)
      ∧ (let x := { RingSense.reset with health := .failed, goodRun := 2 }; x.goodRun + 1 < 4)
      ∧ (let x := { RingSense.reset with health := .failed, goodRun := 3 }; 4 ≤ x.goodRun + 1) := by
  refine ⟨⟨⟨⟨rfl, rfl⟩, by decide⟩, by decide⟩, ⟨⟨⟨rfl, rfl⟩, by decide⟩, by decide⟩,
    ⟨⟨⟨rfl, rfl⟩, by decide⟩, by decide⟩, by decide, by decide, by decide, by decide⟩

theorem test_hyp_ClockChanges :
    State.reset.sfe.clock = .crystal
      ∧ (after .crystalFailure State.reset).sfe.clock = .fallback
      ∧ (after .crystalFailure State.reset).power = .running := by decide

/-- A slot with a pair whose range is cut, one with a whole range, and a bridged pair that is unformable. -/
theorem test_hyp_PairTableOfChain :
    worked.accepted = true ∧ (∀ r : Ring, decide (r ≠ .b) = true → r.num < worked.ringCount)
      ∧ (Ring.all.filter fun r => decide (r ≠ .b)) = [.a, .c, .d]
      ∧ ((buildTable worked [.a, .c, .d]).get .s0).map PairEntry.rangeCut = some true
      ∧ ((buildTable worked [.a, .c, .d]).get .s1).map PairEntry.rangeCut = some false
      ∧ (let p := { Profile.default with fs := 2000, vMax := 20000, spacingAB := 5000, spacingBC := 5000,
                                         spacingCD := 5000 }
         p.accepted = true ∧ (buildTable p [.a, .d]).get .s0 = none)
      ∧ InFlightFits (silent.setPending [.correlationCompletion]) := by
  refine ⟨by decide, fun r _ => by cases r <;> decide, by decide, by decide, by decide, by decide, ?_⟩
  intro f h
  have hf : f = flight := by
    rcases h with h | h <;> simp [silent, running, State.setPending] at h
    exact h.symm
  subst hf
  refine ⟨by decide, fun k e he => ?_⟩
  have : e = pair := by cases k <;> simp [flight, PerSlot.get] at he; exact he.symm
  subst this
  decide

/-- A boundary that finds the correlator RUNNING, LATE and IDLE, the last ready with a pair and without, and
one that begins a correlation beside a commit that is no geometry commit. -/
theorem test_hyp_CorrelatorAtBoundary :
    Closes frame { closing with xcr := { Xcr.reset with state := .running flight } }
      ∧ Closes frame { closing with xcr := { Xcr.reset with state := .late flight } }
      ∧ closing.xcr.state = .idle
      ∧ (buildTable readying.pst.active readying.chain).get .s0 ≠ none
      ∧ (∀ k, (buildTable allFailed.pst.active allFailed.chain).get k = none)
      ∧ AtBoundary frame allFailed ∧ AtBoundary frame (committing worked closing)
      ∧ Closes frame (committing recarried readying) ∧ ReadyAt (committing recarried readying) := by
  refine ⟨⟨⟨⟨rfl, rfl⟩, by decide⟩, by decide⟩, ⟨⟨⟨rfl, rfl⟩, by decide⟩, by decide⟩, rfl, by decide,
    fun k => by cases k <;> decide, ⟨⟨rfl, rfl⟩, by decide⟩, ⟨⟨rfl, rfl⟩, by decide⟩,
    ⟨⟨⟨rfl, rfl⟩, by decide⟩, by decide⟩, Or.inr (by decide)⟩

/-- R26's own example: with ring B FAILED the pair A–C is unformable and C–D is not. -/
theorem test_worked_unformable :
    (let p := { Profile.default with fs := 2000, vMax := 2500 }
     unformableIn p [.a, .c, .d] = 1 ∧ unformableCount p [.a, .c, .d] = 1
      ∧ unformableIn p [.a, .b, .c, .d] = 0) := by decide

theorem test_inFlight : InFlightNow flight silent ∧ InFlightNow flight (running [0, 1, 3, 2]) :=
  ⟨⟨rfl, Or.inl rfl⟩, ⟨rfl, Or.inl rfl⟩⟩

/-- The checkpoint count on either side of 64 (R115). -/
theorem test_hyp_CompletionPublishes :
    InFlightNow flight { silent with tot := { silent.tot with checkpoint := 62 } }
      ∧ InFlightNow flight { silent with tot := { silent.tot with checkpoint := 63 } } ∧ 62 + 1 < 64 ∧ 64 ≤ 63 + 1 :=
  ⟨⟨rfl, Or.inl rfl⟩, ⟨rfl, Or.inl rfl⟩, by decide, by decide⟩

/-- No peak, a peak at either end, a peak of quality below qMin and one of quality above it. -/
theorem test_hyp_PairResultOfSums :
    flight.n ≤ 512 ∧ 1 ≤ pair.lmin ∧ pair.lmin ≤ pair.lmax
      ∧ ((senses []).pairResult flight pair).verdict = .invalid .noPeak
      ∧ ((senses [0, 3, 2, 1]).pairResult flight pair).kp = pair.lmin
      ∧ ((senses [0, 1, 2, 3]).pairResult flight pair).kp = pair.lmax
      ∧ ((senses [0, 1, 3, -5]).pairResult flight pair).kp = 2
      ∧ ((senses [0, 1, 3, -5]).pairResult flight pair).q < flight.qMin
      ∧ ((senses [0, 1, 3, 2]).pairResult flight pair).kp = 2
      ∧ flight.qMin ≤ ((senses [0, 1, 3, 2]).pairResult flight pair).q := by decide

/-- A run of one sample, one of 4N samples less one, and one of 4N. -/
theorem test_hyp_SlugRunReportedOnce :
    (let p := { Profile.default with n := 1 }
     0 < p.n ∧ p.n ≤ 512 ∧ (∀ d ∈ ([400, 400, 400] : List Int), ((800 : Nat) : Int) ≤ 2 * d)
      ∧ [400, 400, 400].length < 4 * p.n ∧ 4 * p.n ≤ [400, 400, 400, 400].length)
      ∧ (((800 : Nat) : Int) ≤ 800 ∧ 2 * (399 : Int) < ((800 : Nat) : Int))
      ∧ (∀ d ∈ ([799, -5] : List Int), d < ((800 : Nat) : Int)) := by decide

/-- A state that meets every invariant and takes a step. -/
theorem test_hyp_invariants :
    ∃ t, step (State.reset.setPending [.crystalFailure]) = .next t ∧ t.sfe.clock = .fallback := ⟨_, rfl, rfl⟩

theorem test_hyp_TrackerAndRingsKept :
    TrackerFits (State.reset.setStk { State.reset.stk with table := [slug] }) := by
  refine ⟨?_, ?_, ?_⟩ <;> decide

/-- A part with three rings configured, whose ring D is at rest. -/
theorem test_hyp_unconfigured :
    (let s := { State.reset with pst := { State.reset.pst with active := { worked with ringCount := 3 } } }
     UnconfiguredAtRest s ∧ ¬ Configured s .d ∧ Configured s .c) := by
  refine ⟨fun r _ => by cases r <;> exact ⟨rfl, rfl, rfl, rfl, rfl⟩, ?_, ?_⟩ <;> unfold Configured <;> decide

/-- A part whose only live ring is A. -/
def alone : State :=
  { State.reset with sfe := { Sfe.reset with rings :=
      { PerRing.fill { RingSense.reset with health := .failed } with a := RingSense.reset } } }

/-- A record that expects a detection at the ends of its interval and not beyond them; a ring with and
without a live ring after it; the origin ring, alone and not. -/
theorem test_hyp_DetectionHandled :
    Matches .b 10 slug ∧ Matches .b 60 slug ∧ ¬ Matches .b 9 slug ∧ ¬ Matches .b 61 slug ∧ ¬ Matches .c 10 slug
      ∧ (State.reset.setStk { State.reset.stk with table := [slug] }).stk.table = [] ++ slug :: []
      ∧ nextOf State.reset .b = some .c ∧ nextOf State.reset .d = none
      ∧ originOf State.reset = some .a ∧ originOf alone = some .a ∧ nextOf alone .a = none
      ∧ TrackerFits State.reset := by
  unfold Matches TrackerFits; decide

/-- A completion after its origin, that departs with its list at 7 and at 8 entries, and one at its origin. -/
theorem test_hyp_completions :
    slug.arrivals.getLast? = some ⟨.b, 40⟩ ∧ 0 < ((40#32 : Index) - slug.onset).toInt
      ∧ 0 < min 20000 (round (gapsBetween worked .a .b * worked.fs) 40)
      ∧ ((0#32 : Index) - slug.onset).toInt ≤ 0
      ∧ ¬ 8 ≤ (List.replicate 7 (⟨1, 2, 3, 4, 5, 6⟩ : Departed)).length
      ∧ 8 ≤ (List.replicate 8 (⟨1, 2, 3, 4, 5, 6⟩ : Departed)).length
      ∧ 0 < { worked with stationDistance := 1 }.stationDistance ∧ ¬ 0 < worked.stationDistance := by decide

/-- A capture ARMED on each kind that triggers it. -/
theorem test_armedOn :
    ArmedOn .slugDeparted (after (.armCapture .p1 1 2 4) State.reset).cap
      ∧ ArmedOn .ringFailed (after (.armCapture .p1 0 0 3) State.reset).cap
      ∧ ArmedOn .velocityLost (after (.armCapture .p1 1 0 2) silent).cap
      ∧ ArmedOn .guardTripped (after (.armCapture .p1 1 0 1) silent).cap :=
  ⟨⟨by decide, _, rfl, rfl⟩, ⟨by decide, _, rfl, rfl⟩, ⟨by decide, _, rfl, rfl⟩, ⟨by decide, _, rfl, rfl⟩⟩

/-- A boundary on the profile in force without a completion, and records to complete. -/
theorem test_hyp_TrackerBoundaryWork :
    slug.arrivals ≠ [] ∧ AtBoundary frame closing
      ∧ closing.pst.active.n ≠ 1 ∧ (after .replyDeadline closing).pst.active.fs = closing.pst.active.fs
      ∧ (after .replyDeadline closing).pst.active.n = closing.pst.active.n
      ∧ (after .replyDeadline closing).pst.active.ringCount = closing.pst.active.ringCount
      ∧ ¬ EmptyCompletion closing (after .replyDeadline closing)
      ∧ Configured closing .a ∧ (closing.sfe.rings.get .a).health ≠ .failed
      ∧ (allFailed.sfe.rings.get .a).health = .failed :=
  ⟨by decide, ⟨⟨rfl, rfl⟩, by decide⟩, by decide, by decide +kernel, by decide +kernel, by decide +kernel,
    test_no_emptyCompletion.1, by unfold Configured; decide, by decide, by decide⟩

/-- A start index of 15 and of 16, and a record found at its place. -/
theorem test_hyp_ReadSlugsAndDeparted :
    (0x0F#8 : Byte).toNat ≤ 15 ∧ 15 < (0x10#8 : Byte).toNat ∧ ([slug] : List SlugRecord)[(0#8 : Byte).toNat + 0]? = some slug
      ∧ slug.arrivals[0]? = some ⟨.b, 40⟩ ∧ slug.arrivals[1]? = none := by decide

/-- The four statuses a publication can give: CORRELATED, SLUG, HELD below holdWindows, LOST at it. -/
theorem test_hyp_VelocityChain :
    (after .correlationCompletion (running [0, 1, 3, 2])).fsv.record.status = .correlated
      ∧ (after .correlationCompletion
          { silent with stk := { silent.stk with sumDistance := 2400, sumTransit := 803, sumCount := 1 } }).fsv.record.status
        = .slug
      ∧ (after .correlationCompletion
          { silent with fsv := { silent.fsv with lastV := some 3015, hold := 7 } }).fsv.record.status = .held
      ∧ (after .correlationCompletion
          { silent with fsv := { silent.fsv with lastV := some 3015, hold := 8 } }).fsv.record.status = .lost := by
  decide

/-- A flush, no live ring, and live rings; an acceptable profile with φ below, between and past its points. -/
theorem test_hyp_SolidsFraction :
    InFlightNow flight { silent with fsv := { silent.fsv with flush := true } }
      ∧ (Ring.all.filter fun x => decide (x.num < allFailed.pst.active.ringCount)
          && decide ((allFailed.sfe.rings.get x).health ≠ .failed)) = []
      ∧ silent.chain ≠ [] ∧ silent.pst.active.accepted = true
      ∧ (1500 ≤ 1500 ∧ 1500 < 3000 ∧ (silent.pst.active.points.take 3)[1]? = some ⟨1500, 2400⟩
          ∧ (silent.pst.active.points.take 3)[2]? = some ⟨3000, 2900⟩) := by
  refine ⟨⟨rfl, Or.inl rfl⟩, by decide, by decide, by decide, by decide, by decide, by decide, by decide⟩

/-- A line that runs on its first record at stopVel, and one that stops just below it. -/
theorem test_hyp_LineStateMoves :
    lineStep Profile.default .held 300 .stopped 0 = (.starting, 1)
      ∧ lineStep Profile.default .held 300 .starting 18 = (.starting, 19)
      ∧ lineStep Profile.default .held 300 .starting 19 = (.running, 20)
      ∧ lineStep Profile.default .held 299 .running 20 = (.stopped, 0)
      ∧ lineStep Profile.default .lost 0 .running 20 = (.running, 20) := by decide

/-- An accumulator of eight records whose spread is at the limit of R88, and one just beyond it. -/
theorem test_hyp_FlushRequests :
    (let a : Accumulator := ⟨8, 49000, 50000, 392000⟩
     8 ≤ a.count ∧ (a.hi - a.lo) * 50 ≤ a.hi ∧ 1000 ≤ a.sum / a.count ∧ a.sum / a.count ≤ 65000)
      ∧ (let a : Accumulator := ⟨8, 48999, 50000, 392000⟩; ¬ (a.hi - a.lo) * 50 ≤ a.hi)
      ∧ State.reset.fsv.flush = false ∧ (after (.flushBegin .p1) State.reset).fsv.flush = true
      ∧ State.reset.pst.active.accepted = true := by decide

/-- A map of the twelve keys of the rings. -/
def ringFaults : List FaultEntry :=
  Ring.all.flatMap fun r => [FaultKind.sampleSaturated, .sampleMissing, .signalFlat].map fun k =>
    ⟨⟨.ring r, k⟩, 1, 1, 1, true⟩

/-- The part in a flush that is not stable, with a fault map. -/
def unstable (l : List FaultEntry) : State :=
  { State.reset with
    fsv := { State.reset.fsv with flush := true }
    efu := { State.reset.efu with faults := l } }

/-- R159, R161: a recording of a new key on a map of eleven entries, and of twelve; and of a key present. -/
theorem test_flushEnd_on_full_map :
    (let t := after (.flushEnd .p1) (unstable (ringFaults.drop 1))
     t.efu.faults.length = 12 ∧ t.efu.full = false)
      ∧ (let t := after (.flushEnd .p1) (unstable ringFaults)
         t.efu.faults = ringFaults ∧ t.efu.full = true
          ∧ hasKind (t.efu.ports.get .p3).posted .faultMapFull = true)
      ∧ (after (.flushEnd .p1) (unstable [⟨⟨.carrier, .flushUnstable⟩, 1, 2, 65535, false⟩])).efu.faults
        = [⟨⟨.carrier, .flushUnstable⟩, 1, 0, 65535, false⟩] := by decide

/-- The guard's rows: a danger count that reaches tripCount and one that does not; the classes at their
margins with the defaults (R99). -/
theorem test_hyp_GuardSteps :
    (let r := fun (m : Int) => { State.reset.fsv.record with status := .correlated, line := .running, margin := some m }
     (r 149).isDanger Profile.default = true ∧ (r 150).isDanger Profile.default = false
      ∧ (r 599).isWatch Profile.default = true ∧ (r 600).isWatch Profile.default = false
      ∧ (r 350).isGood Profile.default = true ∧ (r 349).isGood Profile.default = false)
      ∧ InFlightNow flight { silent with dgd := ⟨.watch, 2, 0, false⟩ }
      ∧ InFlightNow flight { silent with dgd := ⟨.tripped, 0, 9, true⟩ }
      ∧ InFlightNow flight { silent with dgd := ⟨.recovered, 0, 0, true⟩ } :=
  ⟨by decide, ⟨rfl, Or.inl rfl⟩, ⟨rfl, Or.inl rfl⟩, ⟨rfl, Or.inl rfl⟩⟩

theorem test_hyp_GuardRelease :
    releaseStatus .recovered .running = .ok ∧ releaseStatus .tripped .stopped = .ok
      ∧ releaseStatus .tripped .starting = .danger ∧ releaseStatus .watch .stopped = .state
      ∧ State.reset.dgd.state = .clear := by decide

theorem test_hyp_LinesAgreeKept : LinesAgree (State.reset.setPending [.crystalFailure]) := by
  refine ⟨by decide, by decide, fun p => ?_, by decide, by decide⟩
  constructor
  · intro h; cases p <;> exact absurd h (by decide)
  · rintro ⟨_, k, h, _⟩
    cases p <;> cases k <;> revert h <;> decide

/-- A total just below its limit, and one at it (R113). -/
theorem test_hyp_TotalsIntegrate :
    InFlightNow flight { silent with tot := { silent.tot with volume := 2 ^ 48 - 2 } }
      ∧ InFlightNow flight { silent with tot := { silent.tot with volume := 2 ^ 48 - 1 } }
      ∧ 2 ^ 48 - 2 + (500 * 10 ^ 6) / (500 * 10 ^ 6) < 2 ^ 48 ∧ 2 ^ 48 ≤ 2 ^ 48 - 1 + (500 * 10 ^ 6) / (500 * 10 ^ 6) :=
  ⟨⟨rfl, Or.inl rfl⟩, ⟨rfl, Or.inl rfl⟩, by decide, by decide⟩

theorem test_hyp_TotalsAgreeKept :
    TotalsAgree (State.reset.setPending [.crystalFailure]) := by
  refine ⟨?_, ?_, ?_, ?_, ?_, ?_, ?_⟩ <;> decide

theorem test_hyp_TotalsClear :
    (let s := { closing with tot := { closing.tot with clearPending := true } }
     AtBoundary frame s ∧ s.pst.commitPending = false)
      ∧ (∃ c, held.pst.claim = some c ∧ c.holder = .p1) ∧ (∀ c, State.reset.pst.claim = some c → c.holder ≠ .p1) :=
  ⟨⟨⟨⟨rfl, rfl⟩, by decide⟩, rfl⟩, ⟨_, rfl, rfl⟩, fun c h => by simp [State.reset] at h⟩

/-- A gap with a credit of just the weight, and of one less. -/
theorem test_hyp_PulseEvents :
    (let s := State.reset.setPls ⟨1000, 1, 0, .gap, 10, 9, false⟩
     s.pls.gen = .gap ∧ s.pst.active.pulseWeight ≤ s.pls.credit)
      ∧ (let s := State.reset.setPls ⟨999, 1, 0, .gap, 10, 9, false⟩
         s.pls.gen = .gap ∧ s.pls.credit < s.pst.active.pulseWeight)
      ∧ (State.reset.setPls ⟨0, 1, 0, .high, 10, 9, true⟩).pls.gen = .high := by decide

/-- A credit at the cap that gains one litre, and one that reaches the cap; and a command beside. -/
theorem test_hyp_PulseCreditConserved :
    InFlightNow flight { silent with pls := ⟨1000000, 0, 0, .high, 50, 0, true⟩ }
      ∧ 1000 * silent.pst.active.pulseWeight < 1000000 + 1 ∧ 999999 + 1 ≤ 1000 * silent.pst.active.pulseWeight
      ∧ ∃ t, exec .gapElapsed State.reset = .next t :=
  ⟨⟨rfl, Or.inl rfl⟩, by decide, by decide, ⟨_, rfl⟩⟩

/-- A claim at its expiry and one tick past it, held by the port and by another. -/
theorem test_hyp_ClaimOpensDropsExpires :
    State.reset.pst.claim = none ∧ held.pst.claim = some ⟨.p1, 120000⟩ ∧ Port.p1 ≠ Port.p2
      ∧ (held.setTimebase 120000).timebase ≤ 120000 ∧ 120000 < (held.setTimebase 120001).timebase
      ∧ (committing worked State.reset).pst.commitPending = true ∧ held.pst.commitPending = false
      ∧ (committing worked State.reset).pst.claim = some ⟨.p1, 120000⟩ := by decide

/-- The least and the largest value of field 38, one beyond, and a point at and beyond its range. -/
theorem test_hyp_WriteField :
    Holds .p1 held ∧ ¬ Holds .p2 held ∧ Holds .p1 (committing worked State.reset)
      ∧ Writable 38 5 ∧ Writable 38 50 ∧ ¬ Writable 38 51 ∧ ¬ Writable 38 4 ∧ ¬ Writable 43 5 ∧ ¬ Writable 0 5
      ∧ Writable 17 0x17702710#32 ∧ ¬ Writable 17 0x17712710#32 := by
  refine ⟨⟨_, rfl, rfl⟩, ?_, ⟨_, rfl, rfl⟩, ?_, ?_, ?_, ?_, ?_, ?_, ?_, ?_⟩
  · rintro ⟨c, h, h'⟩
    simp only [held, Option.some.injEq] at h
    subst h
    exact absurd h' (by decide)
  all_goals
    unfold Writable
    dsimp only
    decide

theorem test_hyp_ReadField :
    (0#8 : Byte).toNat < 1 ∧ 42 < (43#8 : Byte).toNat ∧ 1 < (2#8 : Byte).toNat ∧ 1 ≤ (42#8 : Byte).toNat
      ∧ (42#8 : Byte).toNat ≤ 42 ∧ (1#8 : Byte).toNat ≤ 1 ∧ held.pst.claim = some ⟨.p1, 120000⟩
      ∧ State.reset.pst.claim = none ∧ (held.setTimebase 120000).timebase ≤ 120000 := by decide

/-- A staging profile that fails each of the six checks first (R140), one that passes them all, and a write
of the profile region in progress. -/
theorem test_hyp_CommitEdit :
    ([{ worked with vMin := 8000 }, { worked with tripMargin := 601 }, { worked with thetaInit := 199 },
        { worked with dep2 := ⟨0, 1⟩ }, { worked with spacingAB := 100, fs := 100, vMax := 20000 },
        { worked with stopVel := 8000 }, worked].map fun p => p.firstFailure.map (·.1))
      = [some 1, some 2, some 3, some 4, some 5, some 6, none]
      ∧ ProfileWriting { held with pst := { held.pst with nv := ⟨some (.profile ⟨worked, 0⟩), [], none, none⟩ } }
      ∧ ¬ ProfileWriting (editing worked) ∧ Holds .p1 (editing worked) := by
  refine ⟨by decide, Or.inl ⟨_, rfl⟩, ?_, ⟨_, rfl, rfl⟩⟩
  rintro (⟨x, h⟩ | ⟨x, h⟩) <;> simp [editing, held, State.reset, Nv.blank] at h

theorem test_hyp_NvWriteCompletion :
    (let s := { State.reset with pst := { State.reset.pst with
        nv := ⟨some (.profile ⟨worked, 0⟩), [.totals checkpoint], none, none⟩ } }
     s.power = .running ∧ s.pst.nv.writing = some (.profile ⟨worked, 0⟩))
      ∧ (let s := { State.reset with pst := { State.reset.pst with
          nv := ⟨some (.totals checkpoint), [], none, none⟩ } }
         s.power = .running ∧ s.pst.nv.writing = some (.totals checkpoint)) := ⟨⟨rfl, rfl⟩, ⟨rfl, rfl⟩⟩

/-- A geometry commit, one of another carrier reference, bore and pulse weight, and one that changes
nothing, at boundaries that are not ready and that are ready with a pair; a RAW copy; and predictions at and
before the boundary's index. -/
theorem test_hyp_CommitApplied :
    ClosesWithCommit frame (committing worked closing)
      ∧ ClosesWithCommit frame
          (committing recarried closing)
      ∧ ClosesWithCommit frame (committing calm readying)
      ∧ ¬ EmptyCompletion (committing calm readying)
          (after .replyDeadline (committing calm readying))
      ∧ worked.fs ≠ closing.pst.active.fs ∧ closing.tot.rate = closing.pst.active.fs
      ∧ (after .replyDeadline (committing worked closing)).efu.stats.slugsCompleted = 0
      ∧ 0 ≤ ((1#32 : Index) - frame.index).toInt ∧ ¬ 0 ≤ ((0#32 : Index) - frame.index).toInt
      ∧ (let c := (after (.armCapture .p1 0 0 0) (committing worked closing)).cap
         c.state = .filling ∧ c.owner = some .p1 ∧ c.content = some (.raw .a)) :=
  ⟨⟨⟨⟨rfl, rfl⟩, by decide⟩, rfl⟩, ⟨⟨⟨rfl, rfl⟩, by decide⟩, rfl⟩, ⟨⟨⟨rfl, rfl⟩, by decide⟩, rfl⟩,
    fun h => absurd (h.2.1 .s0) (by decide +kernel), by decide, by decide, by decide +kernel, by decide, by decide,
    by decide +kernel⟩

theorem test_hyp_StoreAgreesKept : StoreAgrees (State.reset.setPending [.crystalFailure]) := by
  refine ⟨⟨by decide, by decide, fun _ => ⟨rfl, rfl⟩, by decide⟩, by decide, by decide, fun _ => rfl, ?_⟩
  intro j h
  simp [State.setPending, State.reset, Nv.blank] at h

/-- A device with a write of each region, each with its check. -/
theorem test_sealed (a b c d r : Nat) (p : Profile) :
    Sealed (.totals (checkpointOf a b c d r)) ∧ Sealed (.profile (imageOf p)) := by
  simp [Sealed, checkpointOf, imageOf, totalsCheck]

theorem test_hyp_TakeAndSetEvents : 7 < (8#8 : Byte).toNat ∧ (7#8 : Byte).toNat ≤ 7 := by decide

theorem test_hyp_ReportsAgreeKept : ReportsAgree (State.reset.setPending [.crystalFailure]) := by
  refine ⟨by decide, by decide, ?_, by decide⟩
  intro e he
  simp only [State.setPending, State.reset, List.mem_cons, List.not_mem_nil, or_false] at he
  rcases he with rfl | rfl <;> simp [FaultEntry.atStart]

/-- A unit owned by another port, FILLING, FULL, ARMED and IDLE; each last content and the last trigger. -/
theorem test_hyp_ArmCapture :
    OwnedByOther .p2 (after (.armCapture .p1 1 2 4) State.reset)
      ∧ ¬ OwnedByOther .p1 State.reset
      ∧ (after (.armCapture .p1 1 2 4) State.reset).cap.state = .armed
      ∧ contentOf 0 3 = some (.raw .d) ∧ contentOf 0 4 = none ∧ contentOf 1 2 = some (.correlogram .s2)
      ∧ contentOf 1 3 = none ∧ contentOf 2 0 = none ∧ triggerOf 4 = some .slugDeparted ∧ triggerOf 5 = none
      ∧ MayArm State.reset (.raw .d) ∧ MayArm State.reset (.correlogram .s2) := by
  refine ⟨⟨.p1, by decide, by decide⟩, ?_, by decide, by decide, by decide, by decide, by decide, by decide, by decide,
    by decide, by unfold MayArm Configured; decide, trivial⟩
  rintro ⟨o, h, _⟩
  simp [State.reset, Cap.idle] at h

/-- A FULL capture of 61 values read at offset 60, and the offsets on either side of 1,023. -/
theorem test_hyp_ReadCapture :
    (let c : Cap := ⟨some .p1, .full, some (.raw .a), some .immediate, some ⟨1, 2, none, none⟩,
        List.replicate 61 0, 61, false⟩
     c.owner = some .p1 ∧ c.state = .full ∧ c.buffer.length = c.count
      ∧ c.content = some (.raw .a) ∧ c.trigger = some .immediate ∧ c.header = some ⟨1, 2, none, none⟩
      ∧ c.buffer[60 + 0]? = some 0)
      ∧ (1023#16).toNat ≤ 1023 ∧ 1023 < (1024#16).toNat
      ∧ State.reset.cap.owner ≠ some .p1
      ∧ (let c := (after (.armCapture .p1 1 2 4) State.reset).cap
         c.owner = some .p1 ∧ c.state = .armed ∧ c.content = some (.correlogram .s2)
          ∧ c.trigger = some .slugDeparted) := by decide

theorem test_hyp_CaptureEndsAndRelease :
    (let c : Cap := ⟨some .p1, .filling, some (.raw .a), some .immediate, some ⟨1, 2, none, none⟩, [5], 0, false⟩
     c.state = .filling ∧ c.owner = some .p1 ∧ c.content = some (.raw .a))
      ∧ State.reset.cap.state ≠ .filling ∧ State.reset.cap.owner = none
      ∧ (after (.armCapture .p1 1 2 4) State.reset).cap.owner = some .p1
      ∧ ((after (.armCapture .p1 1 2 4) State.reset).mpt.get .p2).tx = .free := by decide

/-- A correlogram capture that waits for the completion of its slot and of another slot; a record that is the
third danger in a row, one that is LOST after FILLING; and a third bad window of ring A, alone, beside a commit
and judged at a geometry commit (test_failing has it beside a completion without pairs). -/
theorem test_hyp_CaptureAtCompletion :
    (let s := after (.armCapture .p1 1 0 0) silent
     s.cap.state = .filling ∧ s.cap.owner = some .p1 ∧ s.cap.content = some (.correlogram .s0)
      ∧ s.xcr.state = .running flight ∧ flight.pairs.get .s0 = some pair ∧ pair.lmin ≤ pair.lmax
      ∧ flight.n ≤ 512 ∧ s.cap.header = some ⟨0, 0, none, none⟩
      ∧ ((after .correlationCompletion s).xcr.results.get .s0).isSome = true)
      ∧ (let s := after (.armCapture .p1 1 1 0) silent
         s.cap.content = some (.correlogram .s1) ∧ flight.pairs.get .s1 = none)
      ∧ (let s := { silent with
           fsv := { silent.fsv with line := .running, lastV := none }, dgd := ⟨.watch, 2, 0, false⟩ }
         (after .correlationCompletion s).dgd.state = .tripped)
      ∧ (after .correlationCompletion silent).dgd.state ≠ .tripped
      ∧ (let t := after .correlationCompletion silent
         t.fsv.record.status = .lost ∧ silent.fsv.record.status ≠ .lost)
      ∧ (let x := { RingSense.reset with health := .suspect, badRun := 2, tally := ⟨33, 0, 0⟩ }
         let s := { closing with sfe := { closing.sfe with rings := { closing.sfe.rings with a := x } } }
         ((after .replyDeadline s).sfe.rings.get .a).health = .failed)
      ∧ (let s := committing recarried { failing with sfe := { failing.sfe with fill := 0 } }
         s.sfe.windowPos + 1 = s.pst.active.n
          ∧ ((after .replyDeadline s).sfe.rings.get .a).health = .failed)
      ∧ (let s := committing worked failing
         s.sfe.windowPos + 1 = s.pst.active.n
          ∧ ((after .replyDeadline s).sfe.rings.get .a).health = .healthy) := by decide +kernel

theorem test_hyp_CaptureAgreesKept : CaptureAgrees (after (.armCapture .p1 1 2 4) State.reset) := by
  refine ⟨?_, ?_, ?_, ?_, ?_, ?_⟩ <;> decide

theorem test_hyp_EventsOutOfPlace :
    State.unpowered.power ≠ .running ∧ State.unpowered.power = .off ∧ State.reset.power ≠ .held
      ∧ State.reset.sfe.frame = none ∧ State.reset.xcr.state = .idle ∧ State.reset.pst.nv.writing = none
      ∧ (State.reset.mpt.get .p1).rx ≠ .receiving ∧ (State.reset.mpt.get .p1).tx ≠ .preparing
      ∧ (State.reset.mpt.get .p1).tx ≠ .sending
      ∧ ((ports ⟨.b19200, .waitIdle, 0, [], .sending, []⟩).mpt.get .p1).tx = .sending
      ∧ (0x61#8 : Byte).toNat ∈ codes := by decide

end Sys2Proof.Tests
end

section
/-!
SUPPORT. Rings in the words of the statements, the kinds that an operation can post, and what the capture
unit does while it is not ARMED: facts that the proofs about every event share.
-/

namespace Sys2Proof.Machine

open Sys2Proof.Claim

/-! ### Rings -/

theorem isConfigured_iff (p : Profile) (r : Ring) : isConfigured p r = true ↔ r.num < p.ringCount := by
  simp [isConfigured]

theorem configured_iff (s : State) (r : Ring) : Configured s r ↔ isConfigured s.active r = true :=
  (isConfigured_iff s.active r).symm

theorem isLive_eq_live (s : State) (r : Ring) : s.isLive r = live s r := by
  rw [Bool.eq_iff_iff]
  simp [State.isLive, live, isConfigured_iff, State.active, State.health]

theorem Ring.mem_all (r : Ring) : r ∈ Ring.all := by cases r <;> decide

/-- A commit changes the geometry exactly when fs, N or ringCount changes (R143). -/
theorem isGeometry_iff (old new : Profile) :
    isGeometry old new = true ↔ old.fs ≠ new.fs ∨ old.n ≠ new.n ∨ old.ringCount ≠ new.ringCount := by
  simp [isGeometry, or_assoc]

/-! ### Frames of the statements -/

/-- Two states that agree in every block but those a list names. -/
theorem onlyChanges_iff (blocks : List Block) (s t : State) :
    OnlyChanges blocks s t ↔ ∀ b, b ∈ blocks ∨ Block.Same s t b := by
  simp only [OnlyChanges, or_iff_not_imp_left]

/-! ### Posting (R152) -/

/-- A kind pends at a port. -/
abbrev Pends (s : State) (p : Port) (k : EventKind) : Bool := hasKind (s.efu.ports.get p).posted k

/-- From `s` to `t` the pending sets gain at most the kinds listed and lose none, and the enable sets and
thresholds stand. -/
structure PostsWithin (kinds : List EventKind) (s t : State) : Prop where
  same : ∀ p k, k ∉ kinds → Pends t p k = Pends s p k
  grows : ∀ p k, Pends s p k = true → Pends t p k = true
  items : ∀ p, (t.efu.ports.get p).enable = (s.efu.ports.get p).enable
    ∧ (t.efu.ports.get p).threshold = (s.efu.ports.get p).threshold

theorem PostsWithin.of_ports {kinds : List EventKind} {s t : State} (h : t.efu.ports = s.efu.ports) :
    PostsWithin kinds s t := by
  constructor <;> simp [Pends, h]

/-- What leaves the attention items alone may come first. -/
theorem PostsWithin.after {kinds : List EventKind} {s t u : State} (g : PostsWithin kinds t u)
    (h : t.efu.ports = s.efu.ports) : PostsWithin kinds s u := by
  constructor
  · simpa [Pends, h] using g.same
  · simpa [Pends, h] using g.grows
  · simpa [h] using g.items

theorem PostsWithin.refl (kinds : List EventKind) (s : State) : PostsWithin kinds s s := .of_ports rfl

theorem PostsWithin.trans {kinds : List EventKind} {s t u : State} (h : PostsWithin kinds s t)
    (g : PostsWithin kinds t u) : PostsWithin kinds s u where
  same p k hk := (g.same p k hk).trans (h.same p k hk)
  grows p k hk := g.grows p k (h.grows p k hk)
  items p := ⟨(g.items p).1.trans (h.items p).1, (g.items p).2.trans (h.items p).2⟩

theorem PostsWithin.mono {kinds more : List EventKind} {s t : State} (h : PostsWithin kinds s t)
    (sub : kinds ⊆ more) : PostsWithin more s t where
  same p k hk := h.same p k fun hm => hk (sub hm)
  grows := h.grows
  items := h.items

theorem State.postTo_pends (k : EventKind) (p : Port) (s : State) : Pends (s.postTo k p) p k = true := by
  rw [Pends, State.postTo_efu, PerPort.get_set_same, Attention.hasKind_add, decide_eq_true rfl, Bool.or_true]

theorem State.postTo_within (k : EventKind) (p : Port) (s : State) : PostsWithin [k] s (s.postTo k p) := by
  have set (q : Port) : (s.postTo k p).efu.ports.get q
      = if q = p then Attention.add k (s.efu.ports.get q) else s.efu.ports.get q := by
    rw [State.postTo_efu, PerPort.get_set]
    split
    · next h => rw [h]
    · rfl
  constructor
  · intro q j hj
    rw [Pends, set]
    split
    · rw [Attention.hasKind_add, decide_eq_false (by simpa using hj), Bool.or_false]
    · rfl
  · intro q j hj
    rw [Pends, set]
    split
    · rw [Attention.hasKind_add, Bool.or_eq_true]
      exact .inl hj
    · exact hj
  · intro q
    rw [set]
    split <;> exact ⟨rfl, rfl⟩

theorem State.postCaptureDone_within (s : State) : PostsWithin [.captureDone] s s.postCaptureDone := by
  unfold State.postCaptureDone
  split
  · exact s.postTo_within _ _
  · exact .refl _ s

theorem State.completeCapture_within (v : List Int) (s : State) :
    PostsWithin [.captureDone] s (s.completeCapture v) :=
  (State.postCaptureDone_within _).after rfl

theorem State.completeEmpty_within (s : State) : PostsWithin [.captureDone] s s.completeEmpty :=
  (State.postCaptureDone_within _).after rfl

/-- A trigger posts at most CAPTURE_DONE, to the owner of a capture completed at once (R171, R172). -/
theorem State.triggerCapture_within (s : State) : PostsWithin [.captureDone] s s.triggerCapture := by
  unfold State.triggerCapture
  split
  · split
    · exact .of_ports rfl
    · exact (State.completeEmpty_within _).after rfl
  · exact .of_ports rfl

/-- The sets right after a kind is added to them, before it triggers a capture (R152). -/
def State.addKind (k : EventKind) (s : State) : State :=
  s.setEfu { s.efu with ports := s.efu.ports.map fun _ a => Attention.add k a }

theorem State.addKind_pends (k j : EventKind) (p : Port) (s : State) :
    Pends (s.addKind k) p j = (Pends s p j || decide (j = k)) := by
  rw [Pends, State.addKind, State.setEfu_efu, PerPort.get_map, Attention.hasKind_add]

theorem State.post_eq (k : EventKind) (s : State) :
    s.post k = if s.cap.waitsFor k then (s.addKind k).triggerCapture else s.addKind k := rfl

theorem State.addKind_within (k : EventKind) (s : State) : PostsWithin [k] s (s.addKind k) where
  same p j hj := by rw [State.addKind_pends, decide_eq_false (by simpa using hj), Bool.or_false]
  grows p j hj := by rw [State.addKind_pends, hj, Bool.true_or]
  items p := by simp [State.addKind]

/-- A posting adds its kind, and at most CAPTURE_DONE of a capture that it triggers (R152, R171). -/
theorem State.post_within (k : EventKind) (s : State) : PostsWithin [k, .captureDone] s (s.post k) := by
  have added : PostsWithin [k, .captureDone] s (s.addKind k) := (s.addKind_within k).mono (by simp)
  rw [State.post_eq]
  split
  · exact added.trans ((State.triggerCapture_within _).mono (by simp))
  · exact added

theorem State.post_pends (k : EventKind) (p : Port) (s : State) : Pends (s.post k) p k = true := by
  have added : Pends (s.addKind k) p k = true := by simp [State.addKind_pends]
  rw [State.post_eq]
  split
  · exact (State.triggerCapture_within _).grows p k added
  · exact added

/-- What pends after a posting: the kind posted and what pended before; CAPTURE_DONE goes its own way
(R152). -/
theorem State.post_pends_eq (k j : EventKind) (p : Port) (s : State) (hj : j ≠ .captureDone) :
    Pends (s.post k) p j = (Pends s p j || decide (j = k)) := by
  by_cases h : j = k
  · subst h
    simp [State.post_pends]
  · rw [(s.post_within k).same p j (by simp [h, hj]), decide_eq_false h, Bool.or_false]

/-- A posting in the words of the statements (R152). -/
theorem State.post_posted (k : EventKind) (s : State) : Posted [k] s (s.post k) := by
  intro p
  refine ⟨fun j hj => ?_, (s.post_within k).items p⟩
  refine (State.post_pends_eq k j p s hj).trans ?_
  simp

theorem posted_of_ports {s t u : State} {kinds : List EventKind} (h : Posted kinds s t)
    (g : t.efu.ports = u.efu.ports) : Posted kinds s u := by
  intro p
  rw [← g]
  exact h p

/-! ### The capture unit while it is not ARMED (R171) -/

theorem Cap.waitsFor_not_armed (c : Cap) (k : EventKind) (h : c.state ≠ .armed) : c.waitsFor k = false := by
  simp [Cap.waitsFor, h]

theorem State.post_cap (k : EventKind) (s : State) (h : s.cap.waitsFor k = false) : (s.post k).cap = s.cap := by
  rw [State.post_quiet k s h]
  rfl

/-- A capture that is not ARMED is left alone (R171). -/
def CapStands (s t : State) : Prop := s.cap.state ≠ .armed → t.cap = s.cap

theorem CapStands.of_cap {s t : State} (h : t.cap = s.cap) : CapStands s t := fun _ => h

theorem CapStands.refl (s : State) : CapStands s s := .of_cap rfl

theorem CapStands.trans {s t u : State} (h : CapStands s t) (g : CapStands t u) : CapStands s u := by
  intro hs
  have ht := h hs
  rw [g (by rw [ht]; exact hs), ht]

/-- What leaves the capture unit alone may come first. -/
theorem CapStands.after {s t u : State} (g : CapStands t u) (h : t.cap = s.cap) : CapStands s u :=
  CapStands.trans (.of_cap h) g

theorem State.post_capStands (k : EventKind) (s : State) : CapStands s (s.post k) := fun h =>
  s.post_cap k (s.cap.waitsFor_not_armed k h)

end Sys2Proof.Machine
end

section
/-!
SUPPORT. What the slug tracker can do to the blocks beside its tables, said once for each of its operations:
the relation `SlugWork`, and which detectors, thresholds and counters an operation leaves alone.
-/

namespace Sys2Proof.Machine

open Sys2Proof.Claim

/-! ### Counters -/

/-- The counters of windows, correlations and samples, which the tracker never counts (R164). -/
def SameWindowCounts (c d : Stats) : Prop :=
  d.windowsClosed = c.windowsClosed ∧ d.skipped = c.skipped ∧ d.discardedLate = c.discardedLate
  ∧ d.unformable = c.unformable ∧ d.substituted = c.substituted ∧ d.saturated = c.saturated

theorem SameWindowCounts.refl (c : Stats) : SameWindowCounts c c := ⟨rfl, rfl, rfl, rfl, rfl, rfl⟩

theorem SameWindowCounts.trans {c d e : Stats} (h : SameWindowCounts c d) (g : SameWindowCounts d e) :
    SameWindowCounts c e := by
  obtain ⟨h1, h2, h3, h4, h5, h6⟩ := h
  obtain ⟨g1, g2, g3, g4, g5, g6⟩ := g
  exact ⟨g1.trans h1, g2.trans h2, g3.trans h3, g4.trans h4, g5.trans h5, g6.trans h6⟩

/-- The departed list changes only with the count of completed slugs (R62, R66): a state with the same
count, below its limit, has the same list. -/
def DepartsCounted (s t : State) : Prop :=
  s.efu.stats.slugsCompleted ≤ Config.counterMax →
    s.efu.stats.slugsCompleted ≤ t.efu.stats.slugsCompleted
    ∧ t.efu.stats.slugsCompleted ≤ Config.counterMax
    ∧ (s.efu.stats.slugsCompleted < Config.counterMax →
      t.efu.stats.slugsCompleted = s.efu.stats.slugsCompleted → t.stk.departed = s.stk.departed)

theorem DepartsCounted.of_same {s t : State} (hc : t.efu.stats.slugsCompleted = s.efu.stats.slugsCompleted)
    (hd : t.stk.departed = s.stk.departed) : DepartsCounted s t := fun h =>
  ⟨hc.ge, hc.le.trans h, fun _ _ => hd⟩

/-- A completion that is counted may change the list. -/
theorem DepartsCounted.of_counted {s t : State}
    (hc : t.efu.stats.slugsCompleted = satAdd s.efu.stats.slugsCompleted 1) : DepartsCounted s t := by
  intro h
  simp only [satAdd] at hc
  exact ⟨by omega, by omega, fun _ _ => by omega⟩

theorem DepartsCounted.trans {s t u : State} (h : DepartsCounted s t) (g : DepartsCounted t u) :
    DepartsCounted s u := by
  intro hs
  obtain ⟨h1, h2, h3⟩ := h hs
  obtain ⟨g1, g2, g3⟩ := g h2
  refine ⟨h1.trans g1, g2, fun hlt heq => ?_⟩
  rw [g3 (by omega) (by omega), h3 hlt (by omega)]

/-! ### The work of the tracker -/

/-- What the tracker's operations have in common: they change no block beside the tracker, its events and
counters and a capture ARMED on a departure, and keep the capacity of the departed list. -/
structure SlugWork (s t : State) : Prop where
  blocks : OnlyTracks s t
  faults : t.efu.faults = s.efu.faults
  full : t.efu.full = s.efu.full
  posts : PostsWithin [.slugDeparted, .captureDone] s t
  cap : CapStands s t
  counts : SameWindowCounts s.efu.stats t.efu.stats
  capacity : s.stk.departed.length ≤ Config.departedCapacity →
    t.stk.departed.length ≤ Config.departedCapacity
  departs : DepartsCounted s t

theorem SlugWork.refl (s : State) : SlugWork s s :=
  ⟨.refl s, rfl, rfl, .refl _ s, .refl s, .refl _, id, .of_same rfl rfl⟩

theorem SlugWork.trans {s t u : State} (h : SlugWork s t) (g : SlugWork t u) : SlugWork s u where
  blocks := h.blocks.trans g.blocks
  faults := g.faults.trans h.faults
  full := g.full.trans h.full
  posts := h.posts.trans g.posts
  cap := h.cap.trans g.cap
  counts := h.counts.trans g.counts
  capacity := g.capacity ∘ h.capacity
  departs := h.departs.trans g.departs

/-- Work on the tracker alone that leaves the departed list. -/
theorem State.setStk_work (s : State) (k : Stk) (h : k.departed = s.stk.departed) : SlugWork s (s.setStk k) :=
  ⟨s.setStk_onlyTracks k, rfl, rfl, .of_ports rfl, .refl _, .refl _, fun hs => by simpa [h] using hs,
    .of_same rfl h⟩

theorem SlugWork.after_setStk {s t : State} {k : Stk} (g : SlugWork (s.setStk k) t)
    (h : k.departed = s.stk.departed) : SlugWork s t := (s.setStk_work k h).trans g

/-- Counting of slugs, none of them completed. -/
theorem State.count_work (f : Stats → Stats) (s : State) (h : SameWindowCounts s.efu.stats (f s.efu.stats))
    (hc : (f s.efu.stats).slugsCompleted = s.efu.stats.slugsCompleted) : SlugWork s (s.count f) :=
  ⟨(s.count_onlyReports f).onlyTracks, rfl, rfl, .of_ports rfl, .refl _, h, id, .of_same hc rfl⟩

theorem State.mapTrack_work (r : Ring) (f : RingTrack → RingTrack) (s : State) : SlugWork s (s.mapTrack r f) :=
  s.setStk_work _ rfl

theorem State.charge_work (r : Ring) (s : State) : SlugWork s (s.charge r) := s.mapTrack_work r _

theorem State.dropStale_work (x : SlugRecord) (s : State) : SlugWork s (s.dropStale x) :=
  (s.count_work _ (.refl _) rfl).trans (State.charge_work _ _)

@[simp] theorem State.depart_table (x : SlugRecord) (last : Index) (vs : Nat) (s : State) :
    (s.depart x last vs).stk.table = s.stk.table := by
  simp [State.depart]

/-- A departure drops the oldest entry of a full list before it adds one (R66). -/
theorem State.depart_capacity (x : SlugRecord) (last : Index) (vs : Nat) (s : State)
    (h : s.stk.departed.length ≤ Config.departedCapacity) :
    (s.depart x last vs).stk.departed.length ≤ Config.departedCapacity := by
  simp only [Config.departedCapacity] at h ⊢
  by_cases full : 8 ≤ s.stk.departed.length
  · simp [State.depart, Config.departedCapacity, full]
    omega
  · simp [State.depart, Config.departedCapacity, full]
    omega

theorem State.depart_posts (x : SlugRecord) (last : Index) (vs : Nat) (s : State) :
    PostsWithin [.slugDeparted, .captureDone] s (s.depart x last vs) := by
  unfold State.depart
  exact (State.post_within _ _).after rfl

theorem State.depart_cap (x : SlugRecord) (last : Index) (vs : Nat) (s : State) :
    CapStands s (s.depart x last vs) := by
  unfold State.depart
  exact (State.post_capStands _ _).after rfl

/-- What a completed slug with a positive transit adds to the sums and counters (R62). -/
def State.timeSlug (dist transit : Nat) (s : State) : State :=
  (s.setStk { s.stk with
    sumDistance := s.stk.sumDistance + dist
    sumTransit := s.stk.sumTransit + transit
    sumCount := s.stk.sumCount + 1 }).count fun c =>
      { c with
        slugsCompleted := satAdd c.slugsCompleted 1
        transitSum := satAdd c.transitSum transit
        transitCount := satAdd c.transitCount 1 }

/-- What a completion can do: nothing without an arrival, the count alone without a positive transit, the
sums and counters, and those with a departure (R62, R66). -/
theorem State.completeSlug_cases (x : SlugRecord) (s : State) :
    s.completeSlug x = s
    ∨ s.completeSlug x = s.count (fun c => { c with slugsCompleted := satAdd c.slugsCompleted 1 })
    ∨ ∃ dist transit, s.completeSlug x = s.timeSlug dist transit
      ∨ ∃ last vs, s.completeSlug x = (s.timeSlug dist transit).depart x last vs := by
  unfold State.completeSlug
  split
  · exact .inl rfl
  · next a _ =>
    simp only
    split
    · refine .inr (.inr ⟨spacing s.active x.origin a.ring, (indexDiff a.onset x.onset).toNat, ?_⟩)
      split
      · exact .inr ⟨_, _, rfl⟩
      · exact .inl rfl
    · exact .inr (.inl rfl)

@[simp] theorem State.completeSlug_table (x : SlugRecord) (s : State) :
    (s.completeSlug x).stk.table = s.stk.table := by
  rcases s.completeSlug_cases x with h | h | ⟨_, _, h | ⟨_, _, h⟩⟩ <;> rw [h]
  · rfl
  · rfl
  · rw [State.depart_table]
    rfl

@[simp] theorem State.completeSlug_rings (x : SlugRecord) (s : State) :
    (s.completeSlug x).stk.rings = s.stk.rings := by
  rcases s.completeSlug_cases x with h | h | ⟨_, _, h | ⟨_, _, h⟩⟩ <;> rw [h]
  · rfl
  · rfl
  · simp [State.depart, State.timeSlug]

theorem State.completeSlug_work (x : SlugRecord) (s : State) : SlugWork s (s.completeSlug x) := by
  have blocks := s.completeSlug_onlyTracks x
  rcases s.completeSlug_cases x with h | h | ⟨dist, transit, h | ⟨last, vs, h⟩⟩ <;> rw [h] at blocks ⊢
  · exact .refl s
  · exact ⟨blocks, rfl, rfl, .of_ports rfl, .refl _, .refl _, id, .of_counted rfl⟩
  · exact ⟨blocks, rfl, rfl, .of_ports rfl, .refl _, .refl _, id, .of_counted rfl⟩
  · exact
      { blocks := blocks
        faults := by simp [State.depart, State.timeSlug]
        full := by simp [State.depart, State.timeSlug]
        posts := (State.depart_posts x last vs (s.timeSlug dist transit)).after rfl
        cap := (State.depart_cap x last vs (s.timeSlug dist transit)).after rfl
        counts := by simp [State.depart, State.timeSlug, SameWindowCounts]
        capacity := fun hs => State.depart_capacity x last vs (s.timeSlug dist transit) hs
        departs := .of_counted (by simp [State.depart, State.timeSlug]) }

/-! ### Detections -/

/-- The first record that a test takes, with what `updateFirst` makes of the table (R56, R61). -/
theorem updateFirst_eq (q : SlugRecord → Bool) (f : SlugRecord → List SlugRecord) (x : SlugRecord)
    (l : List SlugRecord) (h : l.find? q = some x) :
    ∃ before after, l = before ++ x :: after ∧ (∀ y ∈ before, q y = false)
      ∧ updateFirst q f l = before ++ f x ++ after := by
  induction l with
  | nil => simp at h
  | cons y l ih =>
    by_cases hy : q y = true
    · obtain rfl : y = x := by simpa [List.find?, hy] using h
      exact ⟨[], l, rfl, by simp, by simp [updateFirst, hy]⟩
    · have hy' : q y = false := by simpa using hy
      obtain ⟨before, after, hl, hb, hu⟩ := ih (by simpa [List.find?, hy'] using h)
      exact ⟨y :: before, after, by simp [hl], by simpa [hy'] using hb, by simp [updateFirst, hy', hu]⟩

theorem State.arrive_work (q : SlugRecord → Bool) (x : SlugRecord) (r : Ring) (onset : Index) (s : State) :
    SlugWork s (s.arrive q x r onset) := by
  unfold State.arrive
  simp only
  split
  · exact s.setStk_work _ rfl
  · exact (State.completeSlug_work _ _).after_setStk rfl

theorem State.createRecord_work (r next : Ring) (onset : Index) (peak width : Nat) (s : State) :
    SlugWork s (s.createRecord r next onset peak width) := by
  unfold State.createRecord
  refine SlugWork.after_setStk (State.count_work _ _ ?_ ?_) ?_
  · exact .refl _
  · rfl
  · rfl

/-- What a detection does, by the branches of R56. -/
theorem State.detection_cases (r : Ring) (onset : Index) (peak width : Nat) (s : State) :
    let seen := s.mapTrack r fun x => { x with detected := true }
    (∃ x, s.stk.table.find? (matchesAt r onset) = some x
      ∧ s.detection r onset peak width = seen.arrive (matchesAt r onset) x r onset)
    ∨ (s.stk.table.find? (matchesAt r onset) = none
      ∧ ((s.chain.head? = some r ∧ ((∃ next, s.nextLive r = some next
            ∧ s.detection r onset peak width = seen.createRecord r next onset peak width)
          ∨ (s.nextLive r = none ∧ s.detection r onset peak width = seen)))
        ∨ (s.chain.head? ≠ some r ∧ s.detection r onset peak width
            = (seen.count fun c => { c with unmatched := satAdd c.unmatched 1 }).charge r))) := by
  intro seen
  have table : seen.stk.table = s.stk.table := rfl
  have chain : seen.chain = s.chain := rfl
  have next : seen.nextLive r = s.nextLive r := rfl
  have unfolded : s.detection r onset peak width
      = match seen.stk.table.find? (matchesAt r onset) with
        | some x => seen.arrive (matchesAt r onset) x r onset
        | none =>
          if seen.chain.head? = some r then
            match seen.nextLive r with
            | some next => seen.createRecord r next onset peak width
            | none => seen
          else (seen.count fun c => { c with unmatched := satAdd c.unmatched 1 }).charge r := rfl
  rw [table, chain, next] at unfolded
  cases hf : s.stk.table.find? (matchesAt r onset) with
  | some x => exact .inl ⟨x, rfl, by rw [unfolded, hf]⟩
  | none =>
    refine .inr ⟨rfl, ?_⟩
    by_cases hh : s.chain.head? = some r
    · refine .inl ⟨hh, ?_⟩
      cases hn : s.nextLive r with
      | some n => exact .inl ⟨n, rfl, by rw [unfolded, hf, if_pos hh, hn]⟩
      | none => exact .inr ⟨rfl, by rw [unfolded, hf, if_pos hh, hn]⟩
    · exact .inr ⟨hh, by rw [unfolded, hf, if_neg hh]⟩

theorem State.detection_work (r : Ring) (onset : Index) (peak width : Nat) (s : State) :
    SlugWork s (s.detection r onset peak width) := by
  have seen : SlugWork s (s.mapTrack r fun x => { x with detected := true }) := s.mapTrack_work r _
  rcases s.detection_cases r onset peak width with ⟨x, _, h⟩ | ⟨_, ⟨_, ⟨next, _, h⟩ | ⟨_, h⟩⟩ | ⟨_, h⟩⟩ <;>
    rw [h]
  · exact seen.trans (State.arrive_work _ _ _ _ _)
  · exact seen.trans (State.createRecord_work _ _ _ _ _ _)
  · exact seen
  · exact (seen.trans (State.count_work _ _ (.refl _) rfl)).trans (State.charge_work _ _)

/-! ### Detectors and thresholds -/

/-- The detectors, thresholds and quiet counts stand, and no runt or long slug is counted. -/
def SameDetectors (s t : State) : Prop :=
  (∀ r, (t.stk.rings.get r).detector = (s.stk.rings.get r).detector
    ∧ (t.stk.rings.get r).theta = (s.stk.rings.get r).theta
    ∧ (t.stk.rings.get r).quiet = (s.stk.rings.get r).quiet)
  ∧ t.efu.stats.runts = s.efu.stats.runts ∧ t.efu.stats.long = s.efu.stats.long

theorem SameDetectors.of_rings {s t : State} (h : t.stk.rings = s.stk.rings)
    (hr : t.efu.stats.runts = s.efu.stats.runts) (hl : t.efu.stats.long = s.efu.stats.long) :
    SameDetectors s t := ⟨fun r => by simp [h], hr, hl⟩

theorem SameDetectors.refl (s : State) : SameDetectors s s := .of_rings rfl rfl rfl

theorem SameDetectors.trans {s t u : State} (h : SameDetectors s t) (g : SameDetectors t u) :
    SameDetectors s u := by
  obtain ⟨h, hr, hl⟩ := h
  obtain ⟨g, gr, gl⟩ := g
  exact ⟨fun r => ⟨(g r).1.trans (h r).1, (g r).2.1.trans (h r).2.1, (g r).2.2.trans (h r).2.2⟩,
    gr.trans hr, gl.trans hl⟩

/-- A change of a ring's other items. -/
theorem State.mapTrack_sameDetectors (r : Ring) (f : RingTrack → RingTrack) (s : State)
    (h : ∀ x, (f x).detector = x.detector ∧ (f x).theta = x.theta ∧ (f x).quiet = x.quiet) :
    SameDetectors s (s.mapTrack r f) := by
  refine ⟨fun k => ?_, rfl, rfl⟩
  simp only [State.mapTrack, State.setStk_stk, PerRing.get_set]
  split
  · next hk => rw [hk]; exact h _
  · exact ⟨rfl, rfl, rfl⟩

theorem State.charge_sameDetectors (r : Ring) (s : State) : SameDetectors s (s.charge r) :=
  s.mapTrack_sameDetectors r _ fun _ => ⟨rfl, rfl, rfl⟩

theorem State.completeSlug_sameDetectors (x : SlugRecord) (s : State) : SameDetectors s (s.completeSlug x) := by
  refine .of_rings (s.completeSlug_rings x) ?_ ?_ <;>
    rcases s.completeSlug_cases x with h | h | ⟨_, _, h | ⟨_, _, h⟩⟩ <;> rw [h] <;>
      simp [State.depart, State.timeSlug]

theorem State.dropStale_sameDetectors (x : SlugRecord) (s : State) : SameDetectors s (s.dropStale x) :=
  SameDetectors.trans (t := s.count fun c => { c with stale := satAdd c.stale 1 }) (.of_rings rfl rfl rfl)
    (State.charge_sameDetectors _ _)

theorem State.arrive_sameDetectors (q : SlugRecord → Bool) (x : SlugRecord) (r : Ring) (onset : Index)
    (s : State) : SameDetectors s (s.arrive q x r onset) := by
  unfold State.arrive
  simp only
  split
  · exact .of_rings rfl rfl rfl
  · exact SameDetectors.trans (.of_rings rfl rfl rfl) (State.completeSlug_sameDetectors _ _)

/-- A detection touches of the rings only its own, which it marks and may charge (R54, R56). -/
theorem State.detection_sameDetectors (r : Ring) (onset : Index) (peak width : Nat) (s : State) :
    SameDetectors s (s.detection r onset peak width) := by
  have seen : SameDetectors s (s.mapTrack r fun x => { x with detected := true }) :=
    s.mapTrack_sameDetectors r _ fun _ => ⟨rfl, rfl, rfl⟩
  rcases s.detection_cases r onset peak width with ⟨x, _, h⟩ | ⟨_, ⟨_, ⟨next, _, h⟩ | ⟨_, h⟩⟩ | ⟨_, h⟩⟩ <;>
    rw [h]
  · exact seen.trans (State.arrive_sameDetectors _ _ _ _ _)
  · exact seen.trans (.of_rings rfl rfl rfl)
  · exact seen
  · exact seen.trans ((SameDetectors.of_rings rfl rfl rfl).trans (State.charge_sameDetectors _ _))

/-- The thresholds stand. -/
def SameThresholds (s t : State) : Prop := ∀ r, (t.stk.rings.get r).theta = (s.stk.rings.get r).theta

theorem SameThresholds.refl (s : State) : SameThresholds s s := fun _ => rfl

theorem SameThresholds.trans {s t u : State} (h : SameThresholds s t) (g : SameThresholds t u) :
    SameThresholds s u := fun r => (g r).trans (h r)

theorem SameDetectors.thresholds {s t : State} (h : SameDetectors s t) : SameThresholds s t :=
  fun r => (h.1 r).2.1

/-! ### A frame at the detectors (R48) -/

/-- What the detector of a live ring makes of the newest sample of its history (R48 to R51). -/
def State.detectorOut (i : Index) (r : Ring) (s : State) : Detector × SlugEnd :=
  detectorStep s.active (s.stk.rings.get r).theta i (-((s.sfe.rings.get r).hist.headD 0))
    (s.stk.rings.get r).detector

/-- The detector of a ring moves on, and a runt or a long slug is counted (R49 to R51). -/
def State.advance (r : Ring) (out : Detector × SlugEnd) (s : State) : State :=
  let s' := s.mapTrack r fun x => { x with detector := out.1 }
  match out.2 with
  | .runt => s'.count fun c => { c with runts := satAdd c.runts 1 }
  | .long => s'.count fun c => { c with long := satAdd c.long 1 }
  | _ => s'

/-- A detection is handled, and nothing else that a detector reports (R56). -/
def State.handleEnd (r : Ring) (e : SlugEnd) (s : State) : State :=
  match e with
  | .detection onset peak width => s.detection r onset peak width
  | _ => s

/-- A ring's part of a frame: its detector moves on, and then a detection is handled. -/
theorem State.trackRing_eq (i : Index) (r : Ring) (s : State) :
    s.trackRing i r = if s.isLive r then
        (s.advance r (s.detectorOut i r)).handleEnd r (s.detectorOut i r).2
      else s := by
  unfold State.trackRing State.advance State.handleEnd State.detectorOut
  simp only
  split
  · split <;> simp_all
  · rfl

theorem State.advance_work (r : Ring) (out : Detector × SlugEnd) (s : State) : SlugWork s (s.advance r out) := by
  have moved : SlugWork s (s.mapTrack r fun x => { x with detector := out.1 }) := s.mapTrack_work r _
  unfold State.advance
  simp only
  split
  · exact moved.trans (State.count_work _ _ (.refl _) rfl)
  · exact moved.trans (State.count_work _ _ (.refl _) rfl)
  · exact moved

theorem State.handleEnd_work (r : Ring) (e : SlugEnd) (s : State) : SlugWork s (s.handleEnd r e) := by
  cases e with
  | detection onset peak width => exact s.detection_work r onset peak width
  | _ => exact .refl s

theorem State.trackRing_work (i : Index) (r : Ring) (s : State) : SlugWork s (s.trackRing i r) := by
  rw [State.trackRing_eq]
  split
  · exact (s.advance_work r _).trans (State.handleEnd_work _ _ _)
  · exact .refl s

/-- The detectors' part of a frame changes no block beside the tracker and its reports (R48). -/
theorem State.trackFrame_work (s : State) : SlugWork s s.trackFrame :=
  foldl_keeps SlugWork.refl SlugWork.trans (fun s r => s.trackRing_work s.sfe.lastIndex r) _ _

theorem State.advance_rings (r : Ring) (out : Detector × SlugEnd) (s : State) :
    (s.advance r out).stk = (s.mapTrack r fun x => { x with detector := out.1 }).stk := by
  unfold State.advance
  simp only
  split <;> rfl

theorem State.advance_thresholds (r : Ring) (out : Detector × SlugEnd) (s : State) :
    SameThresholds s (s.advance r out) := by
  intro k
  rw [State.advance_rings]
  simp only [State.mapTrack, State.setStk_stk, PerRing.get_set]
  split
  · next h => rw [h]
  · rfl

theorem State.handleEnd_sameDetectors (r : Ring) (e : SlugEnd) (s : State) : SameDetectors s (s.handleEnd r e) := by
  cases e with
  | detection onset peak width => exact s.detection_sameDetectors r onset peak width
  | _ => exact .refl s

theorem State.trackRing_thresholds (i : Index) (r : Ring) (s : State) : SameThresholds s (s.trackRing i r) := by
  rw [State.trackRing_eq]
  split
  · exact (s.advance_thresholds r _).trans (State.handleEnd_sameDetectors _ _ _).thresholds
  · exact .refl s

/-- A frame moves no threshold (R53). -/
theorem State.trackFrame_thresholds (s : State) : SameThresholds s s.trackFrame :=
  foldl_keeps SameThresholds.refl SameThresholds.trans (fun s r => s.trackRing_thresholds s.sfe.lastIndex r) _ _

/-! ### The boundary (R52, R55, R63, R64) -/

theorem State.staleSweep_work (i : Index) (s : State) : SlugWork s (s.staleSweep i) := by
  unfold State.staleSweep
  exact (foldl_keeps SlugWork.refl SlugWork.trans (fun s x => State.dropStale_work x s) _ _).after_setStk rfl

/-- The stale sweep keeps the records that are not stale (R63). -/
theorem State.staleSweep_table (i : Index) (s : State) :
    (s.staleSweep i).stk.table = s.stk.table.filter fun x => !s.isStale i x := by
  have kept : ∀ (l : List SlugRecord) (u : State),
      (l.foldl (fun s x => s.dropStale x) u).stk.table = u.stk.table := fun l u =>
    foldl_keeps (R := fun u v : State => v.stk.table = u.stk.table) (f := fun s x => s.dropStale x)
      (fun _ => rfl) (fun h g => g.trans h) (fun _ _ => rfl) l u
  exact kept _ _

theorem reAimList_work (l : List SlugRecord) (s : State) : SlugWork s (reAimList l s).2 := by
  induction l generalizing s with
  | nil => exact .refl s
  | cons x l ih =>
    unfold reAimList
    split
    · split
      · exact ih s
      · split
        · exact (s.dropStale_work x).trans (ih _)
        · exact (s.completeSlug_work x).trans (ih _)
    · exact ih s

theorem State.reAim_work (s : State) : SlugWork s s.reAim := by
  unfold State.reAim
  exact (reAimList_work _ s).trans (State.setStk_work _ _ rfl)

theorem State.staleSweep_sameDetectors (i : Index) (s : State) : SameDetectors s (s.staleSweep i) := by
  unfold State.staleSweep
  exact SameDetectors.trans (.of_rings rfl rfl rfl)
    (foldl_keeps SameDetectors.refl SameDetectors.trans (fun s x => State.dropStale_sameDetectors x s) _ _)

theorem reAimList_sameDetectors (l : List SlugRecord) (s : State) : SameDetectors s (reAimList l s).2 := by
  induction l generalizing s with
  | nil => exact .refl s
  | cons x l ih =>
    unfold reAimList
    split
    · split
      · exact ih s
      · split
        · exact (s.dropStale_sameDetectors x).trans (ih _)
        · exact (s.completeSlug_sameDetectors x).trans (ih _)
    · exact ih s

theorem State.reAim_sameDetectors (s : State) : SameDetectors s s.reAim := by
  unfold State.reAim
  exact (reAimList_sameDetectors _ s).trans (.of_rings rfl rfl rfl)

/-- The tracker once the records are sorted and the thresholds adjusted, before the departed entries of the
past go (R63). -/
def State.sortTable (changed : Bool) (s : State) : State :=
  ((s.armFailed.staleSweep s.sfe.lastIndex).reAim).adjustThresholds changed

theorem State.trackerBoundary_eq (changed : Bool) (s : State) :
    s.trackerBoundary changed = ((s.sortTable changed).expireDeparted s.sfe.lastIndex).addOccupancy := rfl

theorem State.sortTable_work (changed : Bool) (s : State) : SlugWork s (s.sortTable changed) := by
  unfold State.sortTable
  have armed : SlugWork s s.armFailed := s.setStk_work _ rfl
  exact ((armed.trans (State.staleSweep_work _ _)).trans (State.reAim_work _)).trans
    (State.setStk_work _ _ rfl)

/-- What the end of the tracker's boundary work changes: the departed entries of the past and the occupancy
sum (R63, R68). -/
theorem State.trackerBoundary_after_sort (changed : Bool) (s : State) :
    let u := s.sortTable changed
    let t := s.trackerBoundary changed
    t.stk = { u.stk with departed := u.stk.departed.filter fun e => !indexBefore e.predicted s.sfe.lastIndex }
    ∧ t.efu.ports = u.efu.ports ∧ t.efu.faults = u.efu.faults ∧ t.efu.full = u.efu.full ∧ t.cap = u.cap
    ∧ t.efu.stats = { u.efu.stats with occupancy := t.efu.stats.occupancy } :=
  ⟨rfl, rfl, rfl, rfl, rfl, rfl⟩

end Sys2Proof.Machine
end

section
/-!
SUPPORT. The slug table keeps its capacity and its tags distinct (R57, R58), and the thresholds of the
configured rings their range (R53, R55), through every operation of the tracker.
-/

namespace Sys2Proof.Machine

open Sys2Proof.Claim

/-! ### Free tags (R58) -/

/-- The tag that the search ends at: the first of `fuel` values from `tag` upward that no record holds, or
the one after them when every one is held. -/
theorem freeTag_spec (l : List SlugRecord) (fuel : Nat) (tag : BitVec 8) :
    ∃ k ≤ fuel, freeTag l fuel tag = tag + BitVec.ofNat 8 k
      ∧ (∀ j < k, tag + BitVec.ofNat 8 j ∈ l.map (·.tag))
      ∧ (k < fuel → tag + BitVec.ofNat 8 k ∉ l.map (·.tag)) := by
  induction fuel generalizing tag with
  | zero => exact ⟨0, le_rfl, by simp [freeTag], by simp, by simp⟩
  | succ fuel ih =>
    by_cases held : tag ∈ l.map (·.tag)
    · obtain ⟨k, hk, he, hb, ha⟩ := ih (tag + 1)
      have shift (j : Nat) : tag + 1 + BitVec.ofNat 8 j = tag + BitVec.ofNat 8 (j + 1) := by
        rw [BitVec.ofNat_add, BitVec.add_assoc, BitVec.add_comm 1]
        rfl
      refine ⟨k + 1, by omega, ?_, ?_, ?_⟩
      · have taken : l.any (fun x => x.tag == tag) = true := by simpa using held
        rw [freeTag, if_pos taken, he, shift]
      · intro j hj
        cases j with
        | zero => simpa using held
        | succ j => rw [← shift]; exact hb j (by omega)
      · intro h
        rw [← shift]
        exact ha (by omega)
    · have free : ¬ l.any (fun x => x.tag == tag) = true := by simpa using held
      exact ⟨0, by omega, by rw [freeTag, if_neg free]; simp, by simp, fun _ => by simpa using held⟩

/-- Fewer than 256 records leave a tag free, and the search finds one (R58). -/
theorem freeTag_not_mem (l : List SlugRecord) (tag : BitVec 8) (h : l.length < 256) :
    freeTag l 256 tag ∉ l.map (·.tag) := by
  obtain ⟨k, hk, he, hb, ha⟩ := freeTag_spec l 256 tag
  rw [he]
  by_cases hlt : k < 256
  · exact ha hlt
  · obtain rfl : k = 256 := by omega
    have distinct : ((List.range 256).map fun j => tag + BitVec.ofNat 8 j).Nodup := by
      refine List.Nodup.map_on ?_ List.nodup_range
      intro i hi j hj hij
      have hi := List.mem_range.1 hi
      have hj := List.mem_range.1 hj
      have := congrArg BitVec.toNat ((BitVec.add_right_inj tag).1 hij)
      simpa [Nat.mod_eq_of_lt hi, Nat.mod_eq_of_lt hj] using this
    have held : ((List.range 256).map fun j => tag + BitVec.ofNat 8 j) ⊆ l.map (·.tag) := by
      intro x hx
      obtain ⟨j, hj, rfl⟩ := List.mem_map.1 hx
      exact hb j (List.mem_range.1 hj)
    have := (List.subperm_of_subset distinct held).length_le
    simp only [List.length_map, List.length_range] at this
    omega

/-! ### The slug table (R57, R58) -/

/-- The records of `t` have tags of `s`, in the same order. -/
def TagsWithin (s t : State) : Prop :=
  List.Sublist (t.stk.table.map (·.tag)) (s.stk.table.map (·.tag))

theorem TagsWithin.of_table {s t : State} (h : t.stk.table = s.stk.table) : TagsWithin s t := by
  rw [TagsWithin, h]

theorem TagsWithin.trans {s t u : State} (h : TagsWithin s t) (g : TagsWithin t u) : TagsWithin s u :=
  List.Sublist.trans g h

/-- The tracker's invariant, from the table and the work that left the departed list within its capacity. -/
theorem TagsWithin.fits {s t : State} (h : TagsWithin s t) (g : SlugWork s t) (hs : TrackerFits s) :
    TrackerFits t := by
  obtain ⟨length, nodup, departed⟩ := hs
  refine ⟨?_, h.nodup nodup, g.capacity departed⟩
  have := h.length_le
  simp only [List.length_map] at this
  omega

/-- The invariant speaks of the tracker alone. -/
theorem trackerFits_congr {s t : State} (h : t.stk = s.stk) : TrackerFits t ↔ TrackerFits s := by
  simp only [TrackerFits, h]

@[simp] theorem State.aim_tag (s : State) (x : SlugRecord) (refRing next : Ring) :
    (s.aim x refRing next).tag = x.tag := by
  simp only [State.aim]
  split <;> rfl

theorem State.arrive_tags (q : SlugRecord → Bool) (x : SlugRecord) (r : Ring) (onset : Index) (s : State)
    (h : s.stk.table.find? q = some x) : TagsWithin s (s.arrive q x r onset) := by
  unfold State.arrive TagsWithin
  simp only
  split
  · next next _ =>
    obtain ⟨before, after, hl, _, hu⟩ := updateFirst_eq q
      (fun _ => [s.aim { x with arrivals := x.arrivals ++ [⟨r, onset⟩], reference := onset } r next]) x _ h
    simp only [State.setStk_stk]
    rw [hu, hl]
    simp
  · obtain ⟨before, after, hl, _, hu⟩ := updateFirst_eq q (fun _ => []) x _ h
    simp only [State.completeSlug_table, State.setStk_stk]
    rw [hu, hl]
    simp

theorem insertRecord_perm (x : SlugRecord) (l : List SlugRecord) : (insertRecord x l).Perm (x :: l) := by
  induction l with
  | nil => exact .refl _
  | cons y l ih =>
    unfold insertRecord
    split
    · exact .refl _
    · exact (ih.cons y).trans (.swap x y l)

/-- A record that is created takes a free tag and, in a full table, the place of the oldest (R57, R58). -/
theorem State.createRecord_fits (r next : Ring) (onset : Index) (peak width : Nat) (s : State)
    (hs : TrackerFits s) : TrackerFits (s.createRecord r next onset peak width) := by
  obtain ⟨length, nodup, departed⟩ := hs
  unfold State.createRecord
  simp only
  generalize hk : (if decide (Config.slugCapacity ≤ s.stk.table.length) = true then s.stk.table.drop 1
    else s.stk.table) = kept
  have short : kept.length ≤ 15 := by
    rw [← hk]
    by_cases full : Config.slugCapacity ≤ s.stk.table.length
    · rw [decide_eq_true full, if_pos rfl, List.length_drop]
      omega
    · rw [decide_eq_false full, if_neg Bool.false_ne_true]
      simp only [Config.slugCapacity] at full
      omega
  have distinct : (kept.map (·.tag)).Nodup := by
    rw [← hk]
    split
    · exact (nodup.sublist ((List.drop_sublist 1 _).map _))
    · exact nodup
  have perm := insertRecord_perm (s.aim
    { tag := freeTag kept 256 (s.stk.tagCounter + 1), origin := r, onset := onset, peak := peak,
      width := width, next := next, reference := onset, basis := .range, eMin := onset, eMax := onset,
      arrivals := [] } r next) kept
  refine ⟨?_, ?_, departed⟩
  · rw [State.count_stk, State.setStk_stk, perm.length_eq]
    simpa [Nat.lt_succ_iff] using short
  · rw [State.count_stk, State.setStk_stk, (perm.map (·.tag)).nodup_iff]
    simp only [List.map_cons, State.aim_tag, List.nodup_cons]
    exact ⟨freeTag_not_mem kept _ (by omega), distinct⟩

theorem State.detection_fits (r : Ring) (onset : Index) (peak width : Nat) (s : State) (hs : TrackerFits s) :
    TrackerFits (s.detection r onset peak width) := by
  have work := s.detection_work r onset peak width
  have seen : TrackerFits (s.mapTrack r fun x => { x with detected := true }) := hs
  rcases s.detection_cases r onset peak width with ⟨x, hx, h⟩ | ⟨_, ⟨_, ⟨next, _, h⟩ | ⟨_, h⟩⟩ | ⟨_, h⟩⟩
  · rw [h] at work ⊢
    exact (State.arrive_tags _ x r onset (s.mapTrack r _) hx).fits (State.arrive_work _ _ _ _ _) seen
  · rw [h]
    exact State.createRecord_fits _ _ _ _ _ _ seen
  · rw [h]
    exact seen
  · rw [h]
    exact seen

theorem State.handleEnd_fits (r : Ring) (e : SlugEnd) (s : State) (hs : TrackerFits s) :
    TrackerFits (s.handleEnd r e) := by
  cases e with
  | detection onset peak width => exact s.detection_fits r onset peak width hs
  | _ => exact hs

theorem State.trackRing_fits (i : Index) (r : Ring) (s : State) (hs : TrackerFits s) :
    TrackerFits (s.trackRing i r) := by
  rw [State.trackRing_eq]
  split
  · exact State.handleEnd_fits _ _ _ ((trackerFits_congr (s.advance_rings r _)).2 hs)
  · exact hs

/-- A frame's detections keep the tracker's invariant (R57, R58, R66). -/
theorem State.trackFrame_fits (s : State) (hs : TrackerFits s) : TrackerFits s.trackFrame :=
  foldl_keeps (R := fun s t => TrackerFits s → TrackerFits t) (f := fun s r => s.trackRing s.sfe.lastIndex r)
    (fun _ => id) (fun h g => g ∘ h) (fun s r => s.trackRing_fits s.sfe.lastIndex r) _ _ hs

/-! ### The boundary -/

theorem reAimList_tags (l : List SlugRecord) (s : State) :
    List.Sublist ((reAimList l s).1.map (·.tag)) (l.map (·.tag)) := by
  induction l generalizing s with
  | nil => exact .refl _
  | cons x l ih =>
    unfold reAimList
    split
    · split
      · simpa using ih s
      · split
        · exact (ih _).cons _
        · exact (ih _).cons _
    · simpa using ih s

theorem State.sortTable_tags (changed : Bool) (s : State) : TagsWithin s (s.sortTable changed) := by
  have swept : TagsWithin s.armFailed (s.armFailed.staleSweep s.sfe.lastIndex) := by
    rw [TagsWithin, State.staleSweep_table]
    exact List.filter_sublist.map _
  exact TagsWithin.trans swept (reAimList_tags _ _)

/-- The tracker's work at a boundary keeps its invariant (R57, R63, R64, R68). -/
theorem State.trackerBoundary_fits (changed : Bool) (s : State) (hs : TrackerFits s) :
    TrackerFits (s.trackerBoundary changed) := by
  obtain ⟨length, nodup, departed⟩ := (s.sortTable_tags changed).fits (s.sortTable_work changed) hs
  exact ⟨length, nodup, (List.length_filter_le _ _).trans departed⟩

theorem State.trackerGeometry_fits (old : Profile) (s : State) (hs : TrackerFits s) :
    TrackerFits (s.trackerGeometry old) := by
  obtain ⟨_, _, departed⟩ := hs
  refine ⟨by simp [State.trackerGeometry], by simp [State.trackerGeometry], ?_⟩
  simp only [State.trackerGeometry, State.setStk_stk]
  split
  · exact departed
  · simpa using departed

theorem State.trackerWork_fits (old : Profile) (geometry : Bool) (s : State) (hs : TrackerFits s) :
    TrackerFits (s.trackerWork old geometry) := by
  have worked := s.trackerBoundary_fits
    (old.thetaMin != s.active.thetaMin || old.thetaMax != s.active.thetaMax) hs
  unfold State.trackerWork
  simp only
  split
  · exact State.trackerGeometry_fits old _ worked
  · exact worked

/-! ### Thresholds (R53, R55) -/

/-- A threshold within the range of a profile. -/
def InThetaRange (p : Profile) (theta : Nat) : Prop := p.thetaMin ≤ theta ∧ theta ≤ p.thetaMax

theorem inThetaRange_clamp (p : Profile) (h : p.thetaMin ≤ p.thetaMax) (x : Nat) :
    InThetaRange p (max p.thetaMin (min p.thetaMax x)) := by
  simp only [InThetaRange]
  omega

/-- A boundary leaves a ring's threshold within the range of the active profile: a threshold that is not
adjusted was within it, unless the range changed, and is then clamped (R55). -/
theorem RingTrack.boundary_inRange (p : Profile) (failed changed : Bool) (x : RingTrack)
    (h : p.thetaMin ≤ p.thetaMax) (hx : changed = false → InThetaRange p x.theta) :
    InThetaRange p (x.boundary p failed changed).theta := by
  unfold RingTrack.boundary
  cases failed with
  | false => exact inThetaRange_clamp p h _
  | true =>
    cases changed with
    | false => exact hx rfl
    | true => exact inThetaRange_clamp p h _

/-- What the boundary makes of a ring's items: those of a configured ring are adjusted, on the threshold the
ring had (R55). -/
theorem State.sortTable_ring (changed : Bool) (s : State) (r : Ring) :
    ∃ x : RingTrack, x.theta = (s.stk.rings.get r).theta
      ∧ (s.sortTable changed).stk.rings.get r
        = if isConfigured s.active r then x.boundary s.active (s.health r == .failed) changed else x := by
  have armed : (s.armFailed.stk.rings.get r).theta = (s.stk.rings.get r).theta := by
    simp only [State.armFailed, State.setStk_stk, PerRing.get_map]
    split <;> rfl
  have kept := ((State.staleSweep_sameDetectors s.sfe.lastIndex s.armFailed).trans
    (State.reAim_sameDetectors _)).thresholds r
  obtain ⟨k, e, c, hu⟩ := (State.staleSweep_onlyTracks s.sfe.lastIndex s.armFailed).trans
    (State.reAim_onlyTracks _)
  refine ⟨(s.armFailed.staleSweep s.sfe.lastIndex).reAim.stk.rings.get r, kept.trans armed, ?_⟩
  have active : (s.armFailed.staleSweep s.sfe.lastIndex).reAim.active = s.active := by rw [hu]; rfl
  have health : (s.armFailed.staleSweep s.sfe.lastIndex).reAim.health r = s.health r := by rw [hu]; rfl
  simp only [State.sortTable, State.adjustThresholds, State.setStk_stk, PerRing.get_map, active, health]

/-- After the tracker's boundary work every configured ring's threshold lies in the range (R55). -/
theorem State.trackerBoundary_inRange (changed : Bool) (s : State)
    (h : s.active.thetaMin ≤ s.active.thetaMax) (r : Ring) (hr : isConfigured s.active r = true)
    (hs : changed = false → InThetaRange s.active (s.stk.rings.get r).theta) :
    InThetaRange s.active ((s.trackerBoundary changed).stk.rings.get r).theta := by
  obtain ⟨x, hx, sorted⟩ := s.sortTable_ring changed r
  have same : (s.trackerBoundary changed).stk.rings.get r = (s.sortTable changed).stk.rings.get r := rfl
  rw [same, sorted, if_pos hr]
  exact RingTrack.boundary_inRange _ _ _ _ h fun hc => by rw [hx]; exact hs hc

end Sys2Proof.Machine
end

section
/-!
SUPPORT. The fault map under the recordings of one event (R159 to R161): what a recording does to the entry
of its own key, that it leaves the entries of other keys alone, and how the map and FULL grow.
-/

namespace Sys2Proof.Machine

open Sys2Proof.Claim

/-! ### The entries of a key -/

/-- The entries with a key: at most one in a well-formed map (R158). -/
def Efu.entries (key : FaultKey) (e : Efu) : List FaultEntry := e.faults.filter fun x => decide (x.key = key)

theorem Efu.mem_entries (key : FaultKey) (e : Efu) (x : FaultEntry) :
    x ∈ e.entries key ↔ x ∈ e.faults ∧ x.key = key := by
  simp [Efu.entries]

theorem Efu.entries_eq_nil (key : FaultKey) (e : Efu) : e.entries key = [] ↔ ∀ x ∈ e.faults, x.key ≠ key := by
  simp [Efu.entries, List.filter_eq_nil_iff]

theorem Efu.holdsKey_iff (key : FaultKey) (e : Efu) : e.holdsKey key = true ↔ e.entries key ≠ [] := by
  simp [Efu.holdsKey, Efu.entries_eq_nil]

/-- A change of the entry of one key, as the entries of each key see it. -/
theorem Efu.entries_changeEntry (e : Efu) (key k : FaultKey) (f : FaultEntry → FaultEntry)
    (hf : ∀ x, (f x).key = x.key) :
    (e.changeEntry key f).entries k = if k = key then (e.entries k).map f else e.entries k := by
  have keys (x : FaultEntry) : (if x.key = key then f x else x).key = x.key := by split <;> simp [hf]
  simp only [Efu.entries, Efu.changeEntry, List.filter_map, Function.comp_def, keys]
  split
  · next h =>
    refine List.map_congr_left fun x hx => if_pos ?_
    rw [← h]
    simpa using (List.mem_filter.1 hx).2
  · next h =>
    refine (List.map_congr_left fun x hx => if_neg ?_).trans (List.map_id _)
    have hk : x.key = k := by simpa using (List.mem_filter.1 hx).2
    rw [hk]
    exact h

/-- The entries of a key are the same. -/
def KeepsKey (key : FaultKey) (s t : State) : Prop := t.efu.entries key = s.efu.entries key

theorem KeepsKey.of_faults {key : FaultKey} {s t : State} (h : t.efu.faults = s.efu.faults) :
    KeepsKey key s t := by simp [KeepsKey, Efu.entries, h]

theorem KeepsKey.refl (key : FaultKey) (s : State) : KeepsKey key s s := rfl

theorem KeepsKey.trans {key : FaultKey} {s t u : State} (h : KeepsKey key s t) (g : KeepsKey key t u) :
    KeepsKey key s u := Eq.trans g h

/-! ### How the map grows -/

/-- The map loses no entry; FULL stays set, is newly set only on a map without room, and FAULT_MAP_FULL is
posted when it is (R158, R161). -/
structure MapGrows (s t : State) : Prop where
  length : s.efu.faults.length ≤ t.efu.faults.length
  full : s.efu.full = true → t.efu.full = true
  room : t.efu.full = true → s.efu.full = true ∨ Config.faultCapacity ≤ t.efu.faults.length
  posted : FullPosted s t

theorem MapGrows.of_same {s t : State} (hf : t.efu.faults = s.efu.faults) (hb : t.efu.full = s.efu.full)
    (hp : ∀ p, Pends t p .faultMapFull = Pends s p .faultMapFull) : MapGrows s t := by
  refine ⟨by rw [hf], by rw [hb]; exact id, by rw [hb]; exact .inl, fun p => ?_⟩
  rw [hb, Bool.not_and_self, Bool.or_false]
  exact hp p

theorem MapGrows.refl (s : State) : MapGrows s s := .of_same rfl rfl fun _ => rfl

theorem MapGrows.trans {s t u : State} (h : MapGrows s t) (g : MapGrows t u) : MapGrows s u where
  length := h.length.trans g.length
  full := g.full ∘ h.full
  room hu := by
    rcases g.room hu with ht | ht
    · exact (h.room ht).imp_right fun hl => hl.trans g.length
    · exact .inr ht
  posted p := by
    have hs := h.full
    have ht := g.full
    rw [g.posted p, h.posted p]
    revert hs ht
    cases s.efu.full <;> cases t.efu.full <;> cases u.efu.full <;> simp

/-- Postings of other kinds leave the map alone. -/
theorem PostsWithin.mapGrows {kinds : List EventKind} {s t : State} (h : PostsWithin kinds s t)
    (hk : EventKind.faultMapFull ∉ kinds) (hf : t.efu.faults = s.efu.faults) (hb : t.efu.full = s.efu.full) :
    MapGrows s t := .of_same hf hb fun p => h.same p _ hk

theorem State.markFull_grows (s : State) (h : Config.faultCapacity ≤ s.efu.faults.length) :
    MapGrows s s.markFull := by
  rcases s.markFull_cases with ⟨_, hm⟩ | ⟨hfull, hm⟩ <;> rw [hm]
  · exact .refl s
  · refine ⟨by simp, by simp, by simp [h], fun p => ?_⟩
    have := State.post_pends .faultMapFull p (s.setEfu { s.efu with full := true })
    simp only [Pends] at this
    simp [this, hfull]

theorem State.noteFault_grows (active : Bool) (key : FaultKey) (s : State) :
    MapGrows s (s.noteFault active key) := by
  rcases s.noteFault_cases active key with ⟨_, h⟩ | ⟨_, _, h⟩ | ⟨_, hl, h⟩ <;> rw [h]
  · exact ⟨by simp [Efu.changeEntry], id, .inl, fun p => by simp [Efu.changeEntry]⟩
  · exact ⟨by simp, id, .inl, fun p => by simp⟩
  · exact s.markFull_grows hl

/-! ### One recording -/

/-- An entry after a recording, or a report of a condition that held, at window `w` (R159, R160). -/
def FaultEntry.noted (w : Index) (active : Bool) (x : FaultEntry) : FaultEntry :=
  { x with last := w, occurrences := min (x.occurrences + 1) 65535, active := active }

/-- The entries of a key after a recording: those present count on, and a key without one gains one unless
the map is full (R159 to R161). -/
def TakesRecording (w : Index) (active : Bool) (key : FaultKey) (s t : State) : Prop :=
  (s.efu.entries key ≠ [] → t.efu.entries key = (s.efu.entries key).map (FaultEntry.noted w active))
  ∧ (s.efu.entries key = [] → t.efu.entries key = [⟨key, w, w, 1, active⟩]
    ∨ (t.efu.entries key = [] ∧ Config.faultCapacity ≤ t.efu.faults.length ∧ t.efu.full = true))

theorem State.markFull_faults (s : State) : s.markFull.efu.faults = s.efu.faults := by
  rcases s.markFull_cases with ⟨_, h⟩ | ⟨_, h⟩ <;> rw [h]
  simp

theorem State.markFull_full (s : State) : s.markFull.efu.full = true := by
  rcases s.markFull_cases with ⟨hf, h⟩ | ⟨_, h⟩ <;> rw [h]
  · exact hf
  · simp

theorem State.noteFault_takes (active : Bool) (key : FaultKey) (s : State) :
    TakesRecording s.xcr.windowNumber active key s (s.noteFault active key) := by
  rcases s.noteFault_cases active key with ⟨hk, h⟩ | ⟨hk, _, h⟩ | ⟨hk, hl, h⟩ <;> rw [h]
  · have present := (Efu.holdsKey_iff key s.efu).1 hk
    refine ⟨fun _ => ?_, fun hn => absurd hn present⟩
    rw [State.setEfu_efu, Efu.entries_changeEntry]
    · rw [if_pos rfl]
      rfl
    · exact fun _ => rfl
  · have absent : s.efu.entries key = [] := by
      rw [← not_not (a := s.efu.entries key = []), ← ne_eq, ← Efu.holdsKey_iff, hk]
      exact Bool.false_ne_true
    refine ⟨fun hn => absurd absent hn, fun _ => .inl ?_⟩
    simp only [Efu.entries] at absent
    simp [Efu.entries, absent]
  · have absent : s.efu.entries key = [] := by
      rw [← not_not (a := s.efu.entries key = []), ← ne_eq, ← Efu.holdsKey_iff, hk]
      exact Bool.false_ne_true
    refine ⟨fun hn => absurd absent hn, fun _ => .inr ⟨?_, ?_, s.markFull_full⟩⟩
    · rw [← absent]
      simp only [Efu.entries, s.markFull_faults]
    · rw [s.markFull_faults]
      exact hl

theorem State.noteFault_keepsKey (active : Bool) (key k : FaultKey) (s : State) (hk : k ≠ key) :
    KeepsKey k s (s.noteFault active key) := by
  rcases s.noteFault_cases active key with ⟨_, h⟩ | ⟨_, _, h⟩ | ⟨_, _, h⟩ <;> rw [h]
  · rw [KeepsKey, State.setEfu_efu, Efu.entries_changeEntry, if_neg hk]
    exact fun _ => rfl
  · simp [KeepsKey, Efu.entries, hk.symm]
  · exact .of_faults s.markFull_faults

/-! ### The recordings of a boundary (R160) -/

/-- What a recording leaves of the entries of its key: a report of a condition that did not hold makes them
inactive (R160). -/
def TakesNote (w : Index) (x : Note) (s t : State) : Prop :=
  match x.2 with
  | some false => t.efu.entries x.1 = (s.efu.entries x.1).map fun e => { e with active := false }
  | some true => TakesRecording w true x.1 s t
  | none => TakesRecording w false x.1 s t

theorem State.takeNote_takes (x : Note) (s : State) : TakesNote s.xcr.windowNumber x s (s.takeNote x) := by
  obtain ⟨key, _ | _ | _⟩ := x
  · exact s.noteFault_takes false key
  · show Efu.entries key (s.efu.changeEntry key _) = _
    rw [Efu.entries_changeEntry, if_pos rfl]
    exact fun _ => rfl
  · exact s.noteFault_takes true key

theorem State.takeNote_keepsKey (x : Note) (k : FaultKey) (s : State) (hk : k ≠ x.1) :
    KeepsKey k s (s.takeNote x) := by
  obtain ⟨key, _ | _ | _⟩ := x
  · exact s.noteFault_keepsKey false key k hk
  · show Efu.entries k (s.efu.changeEntry key _) = _
    rw [Efu.entries_changeEntry, if_neg hk]
    exact fun _ => rfl
  · exact s.noteFault_keepsKey true key k hk

theorem State.takeNote_grows (x : Note) (s : State) : MapGrows s (s.takeNote x) := by
  obtain ⟨key, _ | _ | _⟩ := x
  · exact s.noteFault_grows false key
  · exact ⟨by simp [State.takeNote, State.reportFault, Efu.changeEntry], id, .inl,
      fun p => by simp [State.takeNote, State.reportFault, Efu.changeEntry]⟩
  · exact s.noteFault_grows true key

@[simp] theorem State.takeNote_xcr (x : Note) (s : State) : (s.takeNote x).xcr = s.xcr := by
  obtain ⟨e, c, h⟩ := s.takeNote_onlyReports x
  rw [h]

/-- A recording stays as it is while what follows leaves its key alone and the map only grows. -/
theorem TakesNote.then {w : Index} {x : Note} {s t u : State} (h : TakesNote w x s t)
    (hk : KeepsKey x.1 t u) (hg : MapGrows t u) : TakesNote w x s u := by
  have recording {active : Bool} (h : TakesRecording w active x.1 s t) : TakesRecording w active x.1 s u := by
    obtain ⟨present, absent⟩ := h
    refine ⟨fun hp => Eq.trans hk (present hp), fun ha => ?_⟩
    rcases absent ha with new | ⟨none, length, full⟩
    · exact .inl (Eq.trans hk new)
    · exact .inr ⟨Eq.trans hk none, length.trans hg.length, hg.full full⟩
  obtain ⟨key, _ | _ | _⟩ := x
  · exact recording h
  · exact Eq.trans hk h
  · exact recording h

/-- What leaves the key of a recording alone may come first. -/
theorem TakesNote.after {w : Index} {x : Note} {s t u : State} (g : TakesNote w x t u)
    (hk : KeepsKey x.1 s t) : TakesNote w x s u := by
  have same : t.efu.entries x.1 = s.efu.entries x.1 := hk
  obtain ⟨key, _ | _ | _⟩ := x <;> simp only [TakesNote, TakesRecording] at g same ⊢ <;> rwa [← same]

theorem insertNote_perm (n : Nat) (x : Note) (l : List Note) : (insertNote n x l).Perm (x :: l) := by
  induction l with
  | nil => exact .refl _
  | cons y l ih =>
    unfold insertNote
    split
    · exact .refl _
    · exact (ih.cons y).trans (.swap x y l)

theorem orderNotes_perm (n : Nat) (l : List Note) : (orderNotes n l).Perm l := by
  have sorted (l : List Note) : (l.foldr (insertNote n) []).Perm l := by
    induction l with
    | nil => exact .refl _
    | cons x l ih => exact (insertNote_perm n x _).trans (ih.cons x)
  match l with
  | [] => exact .refl _
  | [x] => exact .refl _
  | x :: y :: l => exact sorted (x :: y :: l)

/-- The recordings of a boundary are taken one after another, in some order (R160). -/
theorem State.takeNotes_eq_foldl (n : Nat) (l : List Note) (s : State) :
    ∃ order : List Note, order.Perm l ∧ s.takeNotes n l = order.foldl State.takeNote s := by
  refine ⟨l.filter (fun x => !s.needsEntry x) ++ orderNotes n (l.filter s.needsEntry), ?_, ?_⟩
  · refine ((orderNotes_perm n _).append_left _).trans (List.perm_append_comm.trans ?_)
    simpa using List.filter_append_perm s.needsEntry l
  · rw [List.foldl_append]
    rfl

theorem State.takeNotes_grows (n : Nat) (l : List Note) (s : State) : MapGrows s (s.takeNotes n l) := by
  obtain ⟨order, _, h⟩ := s.takeNotes_eq_foldl n l
  rw [h]
  exact foldl_keeps MapGrows.refl MapGrows.trans (fun s x => s.takeNote_grows x) _ _

theorem foldl_takeNote_keepsKey (k : FaultKey) (l : List Note) (s : State) (hk : k ∉ l.map (·.1)) :
    KeepsKey k s (l.foldl State.takeNote s) := by
  induction l generalizing s with
  | nil => exact .refl k s
  | cons x l ih =>
    simp only [List.map_cons, List.mem_cons, not_or] at hk
    exact (s.takeNote_keepsKey x k hk.1).trans (ih _ hk.2)

theorem State.takeNotes_keepsKey (n : Nat) (k : FaultKey) (l : List Note) (s : State)
    (hk : k ∉ l.map (·.1)) : KeepsKey k s (s.takeNotes n l) := by
  obtain ⟨order, perm, h⟩ := s.takeNotes_eq_foldl n l
  rw [h]
  exact foldl_takeNote_keepsKey k order s fun hm => hk ((perm.map _).mem_iff.1 hm)

/-- Recordings under distinct keys do not disturb each other: each is taken as it would be alone (R160). -/
theorem State.takeNotes_takes (n : Nat) (x : Note) (l : List Note) (s : State) (hx : x ∈ l)
    (distinct : (l.map (·.1)).Nodup) : TakesNote s.xcr.windowNumber x s (s.takeNotes n l) := by
  obtain ⟨order, perm, h⟩ := s.takeNotes_eq_foldl n l
  obtain ⟨before, after, rfl⟩ := List.append_of_mem (perm.mem_iff.2 hx)
  have distinct := (perm.map _).nodup_iff.2 distinct
  rw [List.map_append, List.map_cons, List.nodup_middle, List.nodup_cons, List.mem_append, not_or] at distinct
  obtain ⟨⟨hb, ha⟩, _⟩ := distinct
  rw [h, List.foldl_append, List.foldl_cons]
  have first := foldl_takeNote_keepsKey x.1 before s hb
  have window : (before.foldl State.takeNote s).xcr = s.xcr :=
    foldl_keeps (R := fun s t : State => t.xcr = s.xcr) (fun _ => rfl) (fun h g => g.trans h)
      (fun s x => s.takeNote_xcr x) before s
  have taken := State.takeNote_takes x (before.foldl State.takeNote s)
  rw [window] at taken
  exact (taken.then (foldl_takeNote_keepsKey x.1 after _ ha)
    (foldl_keeps MapGrows.refl MapGrows.trans (fun s x => s.takeNote_grows x) _ _)).after first

/-- A recording in the words of the statements, at the boundary whose window number is the next one (R159). -/
theorem TakesRecording.noted {active : Bool} {key : FaultKey} {s t : State}
    (h : TakesRecording (s.xcr.windowNumber + 1) active key s t) : Noted active key s t := by
  obtain ⟨present, absent⟩ := h
  refine ⟨fun e he hk => ?_, fun hn => ?_⟩
  · have mem := (Efu.mem_entries key s.efu e).2 ⟨he, hk⟩
    have taken := present (List.ne_nil_of_mem mem)
    refine ((Efu.mem_entries key t.efu _).1 ?_).1
    rw [taken]
    exact List.mem_map_of_mem mem
  · rcases absent ((Efu.entries_eq_nil key s.efu).2 hn) with new | ⟨none, length, full⟩
    · refine .inl ((Efu.mem_entries key t.efu _).1 ?_).1
      rw [new]
      exact List.mem_singleton_self _
    · exact .inr ⟨length, full, (Efu.entries_eq_nil key t.efu).1 none⟩

/-- A report in the words of the statements (R160). -/
theorem TakesNote.reported {key : FaultKey} {holds : Bool} {s t : State}
    (h : TakesNote (s.xcr.windowNumber + 1) (key, some holds) s t) : Reported key (holds = true) s t := by
  cases holds with
  | true => exact ⟨fun _ => TakesRecording.noted h, fun hn => absurd rfl hn⟩
  | false =>
    have inactive : t.efu.entries key = (s.efu.entries key).map fun e => { e with active := false } := h
    refine ⟨fun hp => absurd hp Bool.false_ne_true, fun _ => ⟨fun e he hk => ?_, fun hn => ?_⟩⟩
    · refine ((Efu.mem_entries key t.efu _).1 ?_).1
      rw [inactive]
      exact List.mem_map_of_mem ((Efu.mem_entries key s.efu e).2 ⟨he, hk⟩)
    · rw [← Efu.entries_eq_nil, inactive, (Efu.entries_eq_nil key s.efu).2 hn, List.map_nil]

theorem Reported.congr {key : FaultKey} {a b : Prop} {s t : State} (h : Reported key a s t) (hab : a ↔ b) :
    Reported key b s t := by
  rwa [← propext hab]

end Sys2Proof.Machine
end

section
/-!
SUPPORT. What a publication, a totals clear and the recordings of a boundary do: the blocks after a
publication, the kinds it posts, and what everything that follows the grading of a boundary keeps.
-/

namespace Sys2Proof.Machine

open Sys2Proof.Claim

/-! ### What the later parts of a boundary keep -/

/-- The kinds that are posted after the rings have been graded and a commit has been applied. -/
def laterKinds : List EventKind :=
  [.slugDeparted, .captureDone, .totalsCleared, .faultMapFull, .recordPublished, .velocityLost,
    .guardTripped, .guardWatch, .guardRecovered, .pulseOverrun]

/-- What every later part of a boundary does to the reports: it posts later kinds alone, counts no window and
no sample, and lets the fault map only grow. -/
structure Steady (s t : State) : Prop where
  posts : PostsWithin laterKinds s t
  counts : SameWindowCounts s.efu.stats t.efu.stats
  map : MapGrows s t

theorem Steady.refl (s : State) : Steady s s := ⟨.refl _ s, .refl _, .refl s⟩

theorem Steady.trans {s t u : State} (h : Steady s t) (g : Steady t u) : Steady s u :=
  ⟨h.posts.trans g.posts, h.counts.trans g.counts, h.map.trans g.map⟩

/-- What leaves the event and fault unit alone. -/
theorem Steady.of_efu {s t : State} (h : t.efu = s.efu) : Steady s t :=
  ⟨.of_ports (by rw [h]), by rw [h]; exact .refl _, .of_same (by rw [h]) (by rw [h]) (by simp [Pends, h])⟩

theorem Steady.after {s t u : State} (g : Steady t u) (h : t.efu = s.efu) : Steady s u :=
  (Steady.of_efu h).trans g

/-- Postings of later kinds other than FAULT_MAP_FULL. -/
theorem PostsWithin.steady {kinds : List EventKind} {s t : State} (h : PostsWithin kinds s t)
    (sub : kinds ⊆ laterKinds) (hk : EventKind.faultMapFull ∉ kinds) (hf : t.efu.faults = s.efu.faults)
    (hb : t.efu.full = s.efu.full) (hc : SameWindowCounts s.efu.stats t.efu.stats) : Steady s t :=
  ⟨h.mono sub, hc, h.mapGrows hk hf hb⟩

theorem SlugWork.steady {s t : State} (h : SlugWork s t) : Steady s t :=
  h.posts.steady (by decide) (by decide) h.faults h.full h.counts

theorem State.post_steady (k : EventKind) (s : State) (hk : k ∈ laterKinds) (hf : k ≠ .faultMapFull) :
    Steady s (s.post k) :=
  (s.post_within k).steady (by intro j; simp only [List.mem_cons, List.not_mem_nil, or_false]; rintro (rfl | rfl) <;> simp_all [laterKinds])
    (by simp [hf.symm]) (s.post_faults k) (s.post_full k) (by rw [s.post_stats k]; exact .refl _)

theorem OnlyEvents.keepsKey {s t : State} (h : OnlyEvents s t) (key : FaultKey) : KeepsKey key s t := by
  obtain ⟨p, c, rfl⟩ := h
  exact .of_faults rfl

/-! ### Recordings -/

theorem State.markFull_within (s : State) : PostsWithin [.faultMapFull, .captureDone] s s.markFull := by
  rcases s.markFull_cases with ⟨_, h⟩ | ⟨_, h⟩ <;> rw [h]
  · exact .refl _ s
  · exact (State.post_within _ _).after rfl

theorem State.markFull_cap (s : State) : s.markFull.cap = s.cap := by
  rcases s.markFull_cases with ⟨_, h⟩ | ⟨_, h⟩ <;> rw [h]
  exact State.post_cap _ _ (Cap.waitsFor_none _ _ (by decide))

theorem State.markFull_stats (s : State) : s.markFull.efu.stats = s.efu.stats := by
  rcases s.markFull_cases with ⟨_, h⟩ | ⟨_, h⟩ <;> rw [h]
  simp

theorem State.noteFault_within (active : Bool) (key : FaultKey) (s : State) :
    PostsWithin [.faultMapFull, .captureDone] s (s.noteFault active key) := by
  rcases s.noteFault_cases active key with ⟨_, h⟩ | ⟨_, _, h⟩ | ⟨_, _, h⟩ <;> rw [h]
  · exact .of_ports rfl
  · exact .of_ports rfl
  · exact s.markFull_within

/-- A recording triggers no capture: none waits for FAULT_MAP_FULL (R171). -/
@[simp] theorem State.noteFault_cap (active : Bool) (key : FaultKey) (s : State) :
    (s.noteFault active key).cap = s.cap := by
  rcases s.noteFault_cases active key with ⟨_, h⟩ | ⟨_, _, h⟩ | ⟨_, _, h⟩ <;> rw [h]
  · rfl
  · rfl
  · exact s.markFull_cap

@[simp] theorem State.noteFault_stats (active : Bool) (key : FaultKey) (s : State) :
    (s.noteFault active key).efu.stats = s.efu.stats := by
  rcases s.noteFault_cases active key with ⟨_, h⟩ | ⟨_, _, h⟩ | ⟨_, _, h⟩ <;> rw [h]
  · rfl
  · rfl
  · exact s.markFull_stats

theorem State.noteFault_steady (active : Bool) (key : FaultKey) (s : State) :
    Steady s (s.noteFault active key) :=
  ⟨(s.noteFault_within active key).mono (by decide), by rw [s.noteFault_stats]; exact .refl _,
    s.noteFault_grows active key⟩

theorem State.takeNote_steady (x : Note) (s : State) : Steady s (s.takeNote x) := by
  obtain ⟨key, _ | _ | _⟩ := x
  · exact s.noteFault_steady false key
  · exact ⟨.of_ports rfl, .refl _, s.takeNote_grows (key, some false)⟩
  · exact s.noteFault_steady true key

theorem State.takeNote_cap (x : Note) (s : State) : (s.takeNote x).cap = s.cap := by
  obtain ⟨key, _ | _ | _⟩ := x
  · exact s.noteFault_cap false key
  · rfl
  · exact s.noteFault_cap true key

theorem State.takeNotes_steady (n : Nat) (l : List Note) (s : State) : Steady s (s.takeNotes n l) := by
  obtain ⟨order, _, h⟩ := s.takeNotes_eq_foldl n l
  rw [h]
  exact foldl_keeps Steady.refl Steady.trans (fun s x => s.takeNote_steady x) _ _

@[simp] theorem State.takeNotes_cap (n : Nat) (l : List Note) (s : State) : (s.takeNotes n l).cap = s.cap := by
  obtain ⟨order, _, h⟩ := s.takeNotes_eq_foldl n l
  rw [h]
  exact foldl_keeps (R := fun s t : State => t.cap = s.cap) (fun _ => rfl) (fun h g => g.trans h)
    (fun s x => s.takeNote_cap x) order s

/-! ### The totals clear (R120) -/

theorem State.applyClear_steady (s : State) : Steady s s.applyClear :=
  (State.post_steady .totalsCleared _ (by decide) (by decide)).after rfl

@[simp] theorem State.applyClear_cap (s : State) : s.applyClear.cap = s.cap :=
  State.post_cap _ _ (Cap.waitsFor_none _ _ (by decide))

/-- A clear changes the totals, the queue of writes and the pending sets, and nothing else (R120). -/
theorem State.applyClear_eq (s : State) :
    s.applyClear = { s with
      tot := { s.tot.cleared with checkpoint := 0 }
      pst := { s.pst with nv := s.pst.nv.queue (.totals s.tot.cleared.snapshot) }
      efu := s.applyClear.efu } := by
  have quiet : s.applyClear = (s.setTot s.tot.cleared).queueCheckpoint.addKind .totalsCleared :=
    State.post_quiet _ _ (Cap.waitsFor_none _ _ (by decide))
  rw [quiet]
  rfl

theorem State.applyClear_faults (s : State) : s.applyClear.efu.faults = s.efu.faults := by
  simp [State.applyClear]

theorem State.applyClear_pends (s : State) (p : Port) : Pends s.applyClear p .totalsCleared = true :=
  State.post_pends _ _ _

theorem State.applyClearIfPending_steady (s : State) : Steady s s.applyClearIfPending := by
  unfold State.applyClearIfPending
  split
  · exact s.applyClear_steady
  · exact .refl s

@[simp] theorem State.applyClearIfPending_cap (s : State) : s.applyClearIfPending.cap = s.cap := by
  unfold State.applyClearIfPending
  split
  · exact s.applyClear_cap
  · rfl

theorem State.applyClearIfPending_faults (s : State) : s.applyClearIfPending.efu.faults = s.efu.faults := by
  unfold State.applyClearIfPending
  split
  · exact s.applyClear_faults
  · rfl

/-- A clear that may be pending changes at most the totals, the queue of writes and the pending sets. -/
theorem State.applyClearIfPending_eq (s : State) :
    s.applyClearIfPending = { s with
      tot := s.applyClearIfPending.tot
      pst := s.applyClearIfPending.pst
      efu := s.applyClearIfPending.efu } := by
  unfold State.applyClearIfPending
  split
  · rw [State.applyClear_eq]
  · rfl

/-! ### A publication (R73) -/

/-- Posting kinds one after another. -/
theorem foldl_post_within (kinds : List EventKind) (s : State) :
    PostsWithin (.captureDone :: kinds) s (kinds.foldl (fun s k => s.post k) s) := by
  induction kinds generalizing s with
  | nil => exact .refl _ s
  | cons k kinds ih =>
    exact ((s.post_within k).mono (by simp)).trans ((ih _).mono (by simp))

theorem guardEvents_subset (p : Profile) (r : FlowRecord) (g : Dgd) :
    guardEvents p r g ⊆ [.guardTripped, .guardWatch, .guardRecovered] := by
  unfold guardEvents
  cases g.state <;> simp only <;> split <;> (try split) <;> simp

theorem foldl_post_only (kinds : List EventKind) (s : State) :
    OnlyEvents s (kinds.foldl (fun s k => s.post k) s) :=
  foldl_keeps OnlyEvents.refl OnlyEvents.trans (fun s k => s.post_only k) _ _

theorem foldl_post_capStands (kinds : List EventKind) (s : State) :
    CapStands s (kinds.foldl (fun s k => s.post k) s) :=
  foldl_keeps CapStands.refl CapStands.trans (fun s k => s.post_capStands k) _ _

/-- The guard's step drives the guard, writes its state into the standing record, and posts (R100, R105). -/
theorem State.guardStep_blocks (s : State) :
    OnlyEvents ((s.setDgd (s.dgd.step s.active s.fsv.record)).setFsv
      (s.fsv.writeGuard (s.dgd.step s.active s.fsv.record).state)) s.guardStep := foldl_post_only _ _

theorem State.guardStep_within (s : State) :
    PostsWithin [.guardTripped, .guardWatch, .guardRecovered, .captureDone] s s.guardStep := by
  refine ((foldl_post_within _ _).mono (List.cons_subset.2 ⟨by simp, fun k hk => ?_⟩)).after rfl
  have := guardEvents_subset _ _ _ hk
  simp only [List.mem_cons, List.not_mem_nil, or_false] at this ⊢
  tauto

theorem State.guardStep_capStands (s : State) : CapStands s s.guardStep :=
  (foldl_post_capStands _ _).after rfl

/-- A credited increment changes the pulse unit, and past the cap the reports (R121). -/
theorem State.creditPulse_blocks (k : Nat) (s : State) :
    OnlyReports (s.setPls (s.creditPulse k).pls) (s.creditPulse k) := by
  unfold State.creditPulse
  simp only
  split
  · exact .refl s
  · split
    · have reports (t : State) : OnlyReports t ((t.post .pulseOverrun).recordFault overrunKey) :=
        (State.post_onlyReports _ _).trans (State.noteFault_onlyReports _ _ _)
      obtain ⟨e, c, h⟩ := reports (s.setPls ((s.pls.addCredit s.active k).examineIfIdle s.active))
      rw [h]
      exact ⟨e, c, rfl⟩
    · exact .refl _

theorem State.creditPulse_within (k : Nat) (s : State) :
    PostsWithin [.pulseOverrun, .faultMapFull, .captureDone] s (s.creditPulse k) := by
  unfold State.creditPulse
  simp only
  split
  · exact .refl _ s
  · split
    · exact (((State.post_within _ _).mono (by simp)).trans
        ((State.noteFault_within _ _ _).mono (by simp))).after rfl
    · exact .of_ports rfl

theorem State.creditPulse_steady (k : Nat) (s : State) : Steady s (s.creditPulse k) := by
  unfold State.creditPulse
  simp only
  split
  · exact .refl s
  · split
    · exact ((State.post_steady .pulseOverrun _ (by decide) (by decide)).trans
        (State.noteFault_steady _ _ _)).after rfl
    · exact .of_efu rfl

/-- No capture waits for the kinds that a credit can post (R171). -/
theorem State.creditPulse_cap (k : Nat) (s : State) : (s.creditPulse k).cap = s.cap := by
  unfold State.creditPulse
  simp only
  split
  · rfl
  · split
    · rw [State.recordFault, State.noteFault_cap, State.post_cap]
      · rfl
      · exact Cap.waitsFor_none _ _ (by decide)
    · rfl

theorem State.creditPulse_stats (k : Nat) (s : State) : (s.creditPulse k).efu.stats = s.efu.stats := by
  unfold State.creditPulse
  simp only
  split
  · rfl
  · split
    · rw [State.recordFault, State.noteFault_stats, State.post_stats]
      rfl
    · rfl

theorem State.creditPulse_keepsKey (k : Nat) (key : FaultKey) (s : State) (hk : key ≠ overrunKey) :
    KeepsKey key s (s.creditPulse k) := by
  unfold State.creditPulse
  simp only
  split
  · exact .refl key s
  · split
    · refine KeepsKey.trans (.of_faults ?_) (State.noteFault_keepsKey _ _ _ _ hk)
      rw [State.post_faults]
      rfl
    · exact .of_faults rfl

/-- The totals after a counted publication: at the 64th the count starts again (R115). -/
def Tot.published (t : Tot) : Tot :=
  { t with checkpoint := if Config.checkpointEvery ≤ t.checkpoint + 1 then 0 else t.checkpoint + 1 }

/-- The profile store after a counted publication: at the 64th a checkpoint is queued (R115). -/
def Pst.published (t : Tot) (x : Pst) : Pst :=
  if Config.checkpointEvery ≤ t.checkpoint + 1 then { x with nv := x.nv.queue (.totals t.snapshot) } else x

theorem State.countPublication_eq (s : State) :
    s.countPublication = { s with tot := s.tot.published, pst := s.pst.published s.tot } := by
  unfold State.countPublication Tot.published Pst.published
  simp only
  split <;> rfl

/-- What an integration leaves alone; the totals and the queue of writes are those of the counted
publication (R112, R115). -/
theorem State.integrateRecord_blocks (s : State) :
    OnlyReports { s with
        tot := (s.tot.afterRecord s.active s.fsv.area s.fsv.record).published
        pst := s.pst.published (s.tot.afterRecord s.active s.fsv.area s.fsv.record)
        pls := s.integrateRecord.pls } s.integrateRecord := by
  have credited := State.creditPulse_blocks
    (increment s.active s.tot (s.tot.afterRecord s.active s.fsv.area s.fsv.record))
    (s.setTot (s.tot.afterRecord s.active s.fsv.area s.fsv.record)).countPublication
  rw [State.countPublication_eq] at credited
  unfold State.integrateRecord
  simp only
  rw [State.countPublication_eq]
  exact credited

theorem State.countPublication_efu (s : State) : s.countPublication.efu = s.efu := by
  rw [State.countPublication_eq]

theorem State.countPublication_cap (s : State) : s.countPublication.cap = s.cap := by
  rw [State.countPublication_eq]

theorem State.integrateRecord_within (s : State) :
    PostsWithin [.pulseOverrun, .faultMapFull, .captureDone] s s.integrateRecord :=
  (State.creditPulse_within _ _).after (by rw [State.countPublication_efu]; rfl)

/-- A solved record reaches the solver, the degraded mark, the slug sums and the records counter. -/
theorem State.solve_eq (w : Index) (rs : PerSlot (Option PairResult)) (s : State) :
    s.solve w rs = { s with
      sfe := s.sfe.takeDegraded
      stk := s.stk.clearSums
      fsv := s.solverAfter (s.computeRecord w rs)
      efu := { s.efu with stats := Stats.countRecord (s.computeRecord w rs).status s.efu.stats } } := rfl

/-- The record of a publication with the state of the guard that stepped on it (R100). -/
def State.publishedRecord (w : Index) (rs : PerSlot (Option PairResult)) (s : State) : FlowRecord :=
  { s.computeRecord w rs with guard := (s.dgd.step s.active (s.computeRecord w rs)).state }

/-- The guard's step and the integration of a standing record, block by block (R73). -/
theorem State.guardStep_integrateRecord_blocks (s : State) :
    s.guardStep.integrateRecord = { s with
      fsv := s.fsv.writeGuard (s.dgd.step s.active s.fsv.record).state
      dgd := s.dgd.step s.active s.fsv.record
      tot := (s.tot.afterRecord s.active s.fsv.area
        (s.fsv.writeGuard (s.dgd.step s.active s.fsv.record).state).record).published
      pst := s.pst.published (s.tot.afterRecord s.active s.fsv.area
        (s.fsv.writeGuard (s.dgd.step s.active s.fsv.record).state).record)
      pls := s.guardStep.integrateRecord.pls
      efu := s.guardStep.integrateRecord.efu
      cap := s.guardStep.integrateRecord.cap } := by
  obtain ⟨e, c, after⟩ := s.guardStep.integrateRecord_blocks
  generalize s.guardStep.integrateRecord = t at after ⊢
  obtain ⟨e', c', guarded⟩ := s.guardStep_blocks
  generalize s.guardStep = g at after guarded
  subst guarded
  rw [after]
  rfl

/-- RECORD_PUBLISHED, and VELOCITY_LOST where the record just solved as `u` is LOST and the standing record of
`s` was not (R73, R80). -/
def State.announce (s u : State) : State :=
  let s1 := u.post .recordPublished
  if u.fsv.record.status == .lost && s.fsv.record.status != .lost then s1.post .velocityLost else s1

theorem State.announce_only (s u : State) : OnlyEvents u (s.announce u) := by
  unfold State.announce
  simp only
  split
  · exact (State.post_only _ _).trans (State.post_only _ _)
  · exact State.post_only _ _

/-- A publication solves the record, announces it, steps the guard and integrates (R73). -/
theorem State.publish_steps (w : Index) (rs : PerSlot (Option PairResult)) (s : State) :
    s.publish w rs = (s.announce (s.solve w rs)).guardStep.integrateRecord := by
  unfold State.publish State.announce
  simp only [State.post_fsv]

/-- The blocks after a publication (R73): the degraded mark taken, the slug sums emptied, the solver with the
published record, the guard after its step, and the totals with the queue of writes. -/
theorem State.publish_eq (w : Index) (rs : PerSlot (Option PairResult)) (s : State) :
    s.publish w rs = { s with
      sfe := s.sfe.takeDegraded
      stk := s.stk.clearSums
      fsv := { s.solverAfter (s.computeRecord w rs) with record := s.publishedRecord w rs }
      dgd := s.dgd.step s.active (s.computeRecord w rs)
      tot := (s.tot.afterRecord s.active s.fsv.area (s.publishedRecord w rs)).published
      pst := s.pst.published (s.tot.afterRecord s.active s.fsv.area (s.publishedRecord w rs))
      pls := (s.publish w rs).pls
      efu := (s.publish w rs).efu
      cap := (s.publish w rs).cap } := by
  have steps := s.publish_steps w rs
  have after := (s.announce (s.solve w rs)).guardStep_integrateRecord_blocks
  rw [← steps] at after
  generalize s.publish w rs = t at after ⊢
  obtain ⟨e, c, announced⟩ := s.announce_only (s.solve w rs)
  rw [after, announced]
  rfl

end Sys2Proof.Machine
end

section
/-!
SUPPORT. What a publication and a completion report: the kinds they post, the counters, the fault map and
the capture unit.
-/

namespace Sys2Proof.Machine

open Sys2Proof.Claim

/-! ### The counters -/

theorem plus_eq_satAdd (c k : Nat) : plus c k = satAdd c k := by
  simp only [plus, satAdd, Config.counterMax]
  split <;> omega

theorem Stats.countRecord_sameWindowCounts (st : VelStatus) (c : Stats) :
    SameWindowCounts c (c.countRecord st) := by
  cases st <;> exact .refl _

/-- The records counters in the words of the statements (R73). -/
theorem Stats.countRecord_countsRecord (st : VelStatus) (c : Stats) : CountsRecord st c (c.countRecord st) := by
  cases st <;> simp [CountsRecord, Stats.countRecord, bump, plus_eq_satAdd]

theorem OnlyEvents.stats {s t : State} (h : OnlyEvents s t) : t.efu.stats = s.efu.stats := by
  obtain ⟨p, c, rfl⟩ := h
  rfl

theorem OnlyEvents.faults {s t : State} (h : OnlyEvents s t) : t.efu.faults = s.efu.faults := by
  obtain ⟨p, c, rfl⟩ := h
  rfl

theorem OnlyEvents.full {s t : State} (h : OnlyEvents s t) : t.efu.full = s.efu.full := by
  obtain ⟨p, c, rfl⟩ := h
  rfl

/-! ### A publication (R73) -/

theorem State.announce_within (s u : State) :
    PostsWithin [.recordPublished, .velocityLost, .captureDone] u (s.announce u) := by
  have first := (State.post_within .recordPublished u).mono
    (more := [.recordPublished, .velocityLost, .captureDone]) (by simp)
  unfold State.announce
  simp only
  split
  · exact first.trans ((State.post_within .velocityLost _).mono (by simp))
  · exact first

theorem State.announce_recordPublished (s u : State) (p : Port) :
    Pends (s.announce u) p .recordPublished = true := by
  unfold State.announce
  simp only
  split
  · exact (State.post_within _ _).grows _ _ (State.post_pends _ _ _)
  · exact State.post_pends _ _ _

/-- VELOCITY_LOST is posted on a fresh loss and on nothing else (R80). -/
theorem State.announce_velocityLost (s u : State) (p : Port) :
    Pends (s.announce u) p .velocityLost
      = (Pends u p .velocityLost || decide (u.fsv.record.status = .lost ∧ s.fsv.record.status ≠ .lost)) := by
  have first := State.post_pends_eq .recordPublished .velocityLost p u (by decide)
  rw [decide_eq_false (by decide), Bool.or_false] at first
  unfold State.announce
  simp only
  split
  · next h =>
    rw [State.post_pends, decide_eq_true (by simpa using h), Bool.or_true]
  · next h =>
    rw [first, decide_eq_false (by simpa using h), Bool.or_false]

theorem State.announce_capStands (s u : State) : CapStands u (s.announce u) := by
  unfold State.announce
  simp only
  split
  · exact (State.post_capStands _ _).trans (State.post_capStands _ _)
  · exact State.post_capStands _ _

theorem State.announce_steady (s u : State) : Steady u (s.announce u) := by
  have only := s.announce_only u
  exact (s.announce_within u).steady (by decide) (by decide) only.faults only.full
    (by rw [only.stats]; exact .refl _)

theorem State.guardStep_steady (s : State) : Steady s s.guardStep :=
  s.guardStep_within.steady (by decide) (by decide) s.guardStep_blocks.faults s.guardStep_blocks.full
    (by rw [s.guardStep_blocks.stats]; exact .refl _)

theorem State.guardStep_stats (s : State) : s.guardStep.efu.stats = s.efu.stats := s.guardStep_blocks.stats

theorem State.guardStep_keepsKey (key : FaultKey) (s : State) : KeepsKey key s s.guardStep :=
  .of_faults s.guardStep_blocks.faults

theorem State.integrateRecord_steady (s : State) : Steady s s.integrateRecord :=
  (State.creditPulse_steady _ _).after (by rw [State.countPublication_efu]; rfl)

theorem State.integrateRecord_cap (s : State) : s.integrateRecord.cap = s.cap := by
  rw [State.integrateRecord, State.creditPulse_cap, State.countPublication_cap]
  rfl

theorem State.integrateRecord_stats (s : State) : s.integrateRecord.efu.stats = s.efu.stats := by
  rw [State.integrateRecord, State.creditPulse_stats, State.countPublication_efu]
  rfl

theorem State.integrateRecord_keepsKey (key : FaultKey) (s : State) (hk : key ≠ overrunKey) :
    KeepsKey key s s.integrateRecord := by
  refine KeepsKey.trans (.of_faults ?_) (State.creditPulse_keepsKey _ key _ hk)
  rw [State.countPublication_efu]
  rfl

/-- After the record is announced, the guard and the totals post their own kinds alone (R105, R121). -/
theorem State.publish_within (w : Index) (rs : PerSlot (Option PairResult)) (s : State) :
    PostsWithin [.guardTripped, .guardWatch, .guardRecovered, .pulseOverrun, .faultMapFull, .captureDone]
      (s.announce (s.solve w rs)) (s.publish w rs) := by
  rw [State.publish_steps]
  exact ((State.guardStep_within _).mono (by decide)).trans ((State.integrateRecord_within _).mono (by decide))

theorem State.publish_recordPublished (w : Index) (rs : PerSlot (Option PairResult)) (s : State) (p : Port) :
    Pends (s.publish w rs) p .recordPublished = true :=
  (s.publish_within w rs).grows p _ (s.announce_recordPublished _ p)

theorem State.publish_velocityLost (w : Index) (rs : PerSlot (Option PairResult)) (s : State) (p : Port) :
    Pends (s.publish w rs) p .velocityLost
      = (Pends s p .velocityLost
        || decide ((s.computeRecord w rs).status = .lost ∧ s.fsv.record.status ≠ .lost)) :=
  ((s.publish_within w rs).same p _ (by decide)).trans (s.announce_velocityLost _ p)

theorem State.publish_stats (w : Index) (rs : PerSlot (Option PairResult)) (s : State) :
    (s.publish w rs).efu.stats = s.efu.stats.countRecord (s.computeRecord w rs).status := by
  rw [State.publish_steps, State.integrateRecord_stats, State.guardStep_stats, (s.announce_only _).stats,
    State.solve_eq]

theorem State.publish_steady (w : Index) (rs : PerSlot (Option PairResult)) (s : State) :
    Steady s (s.publish w rs) := by
  have solved : Steady s (s.solve w rs) :=
    ⟨.of_ports rfl, Stats.countRecord_sameWindowCounts _ _, .of_same rfl rfl fun _ => rfl⟩
  rw [State.publish_steps]
  exact ((solved.trans (s.announce_steady _)).trans (State.guardStep_steady _)).trans
    (State.integrateRecord_steady _)

theorem State.publish_capStands (w : Index) (rs : PerSlot (Option PairResult)) (s : State) :
    CapStands s (s.publish w rs) := by
  rw [State.publish_steps]
  refine CapStands.trans ?_ (.of_cap (State.integrateRecord_cap _))
  exact ((s.announce_capStands _).trans (State.guardStep_capStands _)).after rfl

theorem State.publish_keepsKey (w : Index) (rs : PerSlot (Option PairResult)) (key : FaultKey) (s : State)
    (hk : key ≠ overrunKey) : KeepsKey key s (s.publish w rs) := by
  rw [State.publish_steps]
  refine KeepsKey.trans (.trans ?_ (State.guardStep_keepsKey key _)) (State.integrateRecord_keepsKey key _ hk)
  exact .of_faults (s.announce_only _).faults

/-! ### A completion (R44, R173) -/

theorem State.publishResults_eq (w : Index) (rs : PerSlot (Option PairResult)) (s : State) :
    s.publishResults w rs = { s with
      xcr := { s.xcr with state := .idle, results := rs, resultWindow := w }
      efu := { s.efu with stats := s.efu.stats.countCompletion rs } } := rfl

/-- The capture unit takes a completion without touching another block but the reports (R173). -/
theorem State.captureCompletion_only (c : Option InFlight) (s : State) :
    OnlyEvents s (s.captureCompletion c) := by
  unfold State.captureCompletion
  split
  · unfold State.copyCorrelogram
    split
    · exact State.completeEmpty_only _
    · exact OnlyEvents.trans ⟨s.efu.ports, _, rfl⟩ (State.completeCapture_only _ _)
  · exact .refl s

theorem State.captureCompletion_within (c : Option InFlight) (s : State) :
    PostsWithin [.captureDone] s (s.captureCompletion c) := by
  unfold State.captureCompletion
  split
  · unfold State.copyCorrelogram
    split
    · exact State.completeEmpty_within _
    · exact (State.completeCapture_within _ _).after rfl
  · exact .refl _ s

/-- A RAW capture takes no notice of a completion (R173). -/
theorem State.captureCompletion_of_raw (c : Option InFlight) (s : State) (r : Ring)
    (h : s.cap.content = some (.raw r)) : s.captureCompletion c = s := by
  unfold State.captureCompletion
  rw [h]
  split
  · next h' => simp at h'
  · rfl

/-- The state that a completion publishes from: the results stand, and the capture unit has its copy (R44). -/
def State.completed (c : Option InFlight) (w : Index) (rs : PerSlot (Option PairResult)) (s : State) : State :=
  (s.publishResults w rs).captureCompletion c

theorem State.complete_eq (c : Option InFlight) (w : Index) (rs : PerSlot (Option PairResult)) (s : State) :
    s.complete c w rs = (s.completed c w rs).publish w rs := rfl

theorem State.completed_eq (c : Option InFlight) (w : Index) (rs : PerSlot (Option PairResult)) (s : State) :
    s.completed c w rs = { s with
      xcr := { s.xcr with state := .idle, results := rs, resultWindow := w }
      efu := { s.efu with
        ports := (s.completed c w rs).efu.ports
        stats := s.efu.stats.countCompletion rs }
      cap := (s.completed c w rs).cap } := by
  obtain ⟨p, u, h⟩ := (s.publishResults w rs).captureCompletion_only c
  generalize hc : s.completed c w rs = t
  rw [State.completed, h] at hc
  rw [← hc]
  rfl

theorem State.completed_within (c : Option InFlight) (w : Index) (rs : PerSlot (Option PairResult)) (s : State) :
    PostsWithin [.captureDone] s (s.completed c w rs) :=
  (State.captureCompletion_within c _).after rfl

theorem State.completed_steady (c : Option InFlight) (w : Index) (rs : PerSlot (Option PairResult)) (s : State) :
    Steady s (s.completed c w rs) :=
  (s.completed_within c w rs).steady (by decide) (by decide) (by rw [State.completed_eq])
    (by rw [State.completed_eq]) (by rw [State.completed_eq]; exact ⟨rfl, rfl, rfl, rfl, rfl, rfl⟩)

end Sys2Proof.Machine
end

section
/-!
PROOFS. The statements about a correlation completion (R44, R73).
-/

namespace Sys2Proof.Machine

open Sys2Proof.Claim

/-! ### Snapshots (R115, R144) -/

/-- The bytes of the statements are the model's (R187). -/
theorem be_eq_bytesBE (w x : Nat) : be w x = bytesBE w x := (bytesBE_eq w x).symm

/-- The CRC-16 of a checkpoint's items is the model's check (R115). -/
theorem totalsCheck_eq (c : Checkpoint) : totalsCheck c = crc16 c.itemBytes := by
  simp only [totalsCheck, be_eq_bytesBE, Checkpoint.itemBytes, u48, u32, u64, u16]

theorem Tot.snapshot_eq (t : Tot) :
    t.snapshot = checkpointOf t.volume t.volumeResidue t.solids t.solidsResidue t.rate := by
  simp only [Tot.snapshot, checkpointOf, Checkpoint.seal, totalsCheck_eq]

/-! ### The blocks after a publication and before it -/

section
variable (w : Index) (rs : PerSlot (Option PairResult)) (s : State)

@[simp] theorem State.publish_sfe : (s.publish w rs).sfe = s.sfe.takeDegraded := by rw [State.publish_eq]

@[simp] theorem State.publish_xcr : (s.publish w rs).xcr = s.xcr := by rw [State.publish_eq]

@[simp] theorem State.publish_stk : (s.publish w rs).stk = s.stk.clearSums := by rw [State.publish_eq]

theorem State.publish_fsv :
    (s.publish w rs).fsv = { s.solverAfter (s.computeRecord w rs) with record := s.publishedRecord w rs } := by
  rw [State.publish_eq]

theorem State.publish_tot :
    (s.publish w rs).tot = (s.tot.afterRecord s.active s.fsv.area (s.publishedRecord w rs)).published := by
  rw [State.publish_eq]

theorem State.publish_pst :
    (s.publish w rs).pst
      = s.pst.published (s.tot.afterRecord s.active s.fsv.area (s.publishedRecord w rs)) := by
  rw [State.publish_eq]

theorem State.publish_changes :
    OnlyChanges [.sfe, .stk, .fsv, .dgd, .tot, .pls, .pst, .efu, .cap] s (s.publish w rs) := by
  rw [State.publish_eq]
  intro b
  cases b <;> simp [Block.Same]

variable (c : Option InFlight)

@[simp] theorem State.completed_sfe : (s.completed c w rs).sfe = s.sfe := by rw [State.completed_eq]

@[simp] theorem State.completed_stk : (s.completed c w rs).stk = s.stk := by rw [State.completed_eq]

@[simp] theorem State.completed_fsv : (s.completed c w rs).fsv = s.fsv := by rw [State.completed_eq]

@[simp] theorem State.completed_tot : (s.completed c w rs).tot = s.tot := by rw [State.completed_eq]

@[simp] theorem State.completed_pst : (s.completed c w rs).pst = s.pst := by rw [State.completed_eq]

@[simp] theorem State.completed_xcr : (s.completed c w rs).xcr
    = { s.xcr with state := .idle, results := rs, resultWindow := w } := by rw [State.completed_eq]

@[simp] theorem State.completed_stats : (s.completed c w rs).efu.stats = s.efu.stats.countCompletion rs := by
  rw [State.completed_eq]

theorem State.completed_changes : OnlyChanges [.xcr, .efu, .cap] s (s.completed c w rs) := by
  rw [State.completed_eq]
  intro b
  cases b <;> simp [Block.Same]

end

theorem onlyChanges_trans {blocks : List Block} {s t u : State} (h : OnlyChanges blocks s t)
    (g : OnlyChanges blocks t u) : OnlyChanges blocks s u := by
  intro b hb
  have ht := h b hb
  have hu := g b hb
  cases b <;> exact Eq.trans hu ht

theorem onlyChanges_mono {blocks more : List Block} {s t : State} (h : OnlyChanges blocks s t)
    (sub : blocks ⊆ more) : OnlyChanges more s t := fun b hb => h b fun hm => hb (sub hm)

/-! ### The record and the counters of a completion -/

theorem velocityChain_not_filling (vc vs lastV : Option Nat) (hold windows : Nat) :
    (velocityChain vc vs lastV hold windows).1 ≠ .filling := by
  unfold velocityChain
  split <;> (try split) <;> simp

theorem State.computeRecord_status_ne (w : Index) (rs : PerSlot (Option PairResult)) (s : State) :
    (s.computeRecord w rs).status ≠ .filling := velocityChain_not_filling _ _ _ _ _

theorem PerSlot.any_toList {α : Type} (q : PerSlot α) (f : α → Bool) :
    q.toList.any f = true ↔ ∃ k, f (q.get k) = true := by
  simp only [PerSlot.toList, List.any_cons, List.any_nil, Bool.or_false, Bool.or_eq_true]
  constructor
  · rintro (h | h | h)
    · exact ⟨.s0, h⟩
    · exact ⟨.s1, h⟩
    · exact ⟨.s2, h⟩
  · rintro ⟨_ | _ | _, h⟩
    · exact .inl h
    · exact .inr (.inl h)
    · exact .inr (.inr h)

theorem anyRangeCut_iff (rs : PerSlot (Option PairResult)) :
    anyRangeCut rs = true ↔ ∃ k x, rs.get k = some x ∧ x.rangeCut = true := by
  rw [anyRangeCut, PerSlot.any_toList]
  simp only [Option.any_eq_true]

theorem PairResult.vp?_isSome (x : PairResult) : x.vp?.isSome = true ↔ ∃ v, x.verdict = .valid v := by
  unfold PairResult.vp?
  cases x.verdict <;> simp

/-- A completion counts each slot whose result is valid, and no other (R45). -/
theorem Stats.countCompletion_valid (rs : PerSlot (Option PairResult)) (c : Stats) (k : Slot) :
    (∀ x v, rs.get k = some x → x.verdict = .valid v →
      (c.countCompletion rs).valid.get k = plus (c.valid.get k) 1)
    ∧ ((∀ x v, rs.get k = some x → x.verdict ≠ .valid v) →
      (c.countCompletion rs).valid.get k = c.valid.get k) := by
  simp only [Stats.countCompletion, PerSlot.get_map, plus_eq_satAdd]
  constructor
  · intro x v hx hv
    rw [if_pos]
    rw [hx, Option.bind_some, PairResult.vp?_isSome]
    exact ⟨v, hv⟩
  · intro h
    rw [if_neg]
    cases hk : rs.get k with
    | none => simp
    | some x =>
      rw [Option.bind_some, PairResult.vp?_isSome]
      rintro ⟨v, hv⟩
      exact h x v hk hv

theorem Stats.countRecord_valid (st : VelStatus) (c : Stats) : (c.countRecord st).valid = c.valid := by
  cases st <;> rfl

theorem Stats.countRecord_completed (st : VelStatus) (c : Stats) :
    (c.countRecord st).completed = c.completed := by
  cases st <;> rfl

theorem Stats.countCompletion_countsRecord {st : VelStatus} {rs : PerSlot (Option PairResult)} {c d : Stats}
    (h : CountsRecord st (c.countCompletion rs) d) : CountsRecord st c d := h

/-! ### The checkpoint of a publication (R115) -/

theorem Tot.integrate_checkpoint (vn mn : Nat) (t : Tot) : (t.integrate vn mn).checkpoint = t.checkpoint := by
  rw [Tot.integrate]

theorem Tot.afterRecord_checkpoint (p : Profile) (area : Nat) (r : FlowRecord) (t : Tot) :
    (t.afterRecord p area r).checkpoint = t.checkpoint := by
  unfold Tot.afterRecord
  split
  · exact Tot.integrate_checkpoint _ _ t
  · rfl

/-- Up to the 63rd publication the count rises; at the 64th it starts again and a checkpoint is queued. -/
theorem publication_checkpoint (t : Tot) (x : Pst) :
    (t.checkpoint + 1 < 64 → t.published.checkpoint = t.checkpoint + 1 ∧ x.published t = x)
    ∧ (64 ≤ t.checkpoint + 1 → t.published.checkpoint = 0
      ∧ x.published t = { x with nv := x.nv.queue (.totals (checkpointOf t.published.volume
          t.published.volumeResidue t.published.solids t.published.solidsResidue t.published.rate)) }) := by
  have every : Config.checkpointEvery = 64 := rfl
  refine ⟨fun h => ⟨?_, ?_⟩, fun h => ⟨?_, ?_⟩⟩
  · rw [Tot.published, every, if_neg (Nat.not_le.2 h)]
  · rw [Pst.published, every, if_neg (Nat.not_le.2 h)]
  · rw [Tot.published, every, if_pos h]
  · rw [Pst.published, every, if_pos h, Tot.snapshot_eq]
    rfl

/-! ### The statement -/

theorem exec_correlationCompletion (f : InFlight) (s : State) (h : InFlightNow f s) :
    exec .correlationCompletion s
      = .next ((s.completed (some f) f.window (s.sfe.resultSet f)).publish f.window (s.sfe.resultSet f)) := by
  obtain ⟨running, inFlight⟩ := h
  have found : s.xcr.state.inFlight = some f := by
    rcases inFlight with h | h <;> rw [h] <;> rfl
  show Host.Outcome.next (s.whenRunning State.completeCorrelation) = _
  rw [State.whenRunning_running _ _ running, State.completeCorrelation, found]
  rfl

/-- Settles O21: the results stand and the capture unit has its copy in the state that the publication starts
from, and each clause reads a block of that publication. -/
theorem completionPublishes : Obligations.CompletionPublishes := by
  unfold Obligations.CompletionPublishes
  intro f s h
  refine ⟨_, exec_correlationCompletion f s h, ?_⟩
  have blocks := onlyChanges_mono (s.completed_changes f.window (s.sfe.resultSet f) (some f))
    (more := [.sfe, .xcr, .stk, .fsv, .dgd, .tot, .pls, .pst, .efu, .cap]) (by decide)
  have results (k : Slot) : (s.sfe.resultSet f).get k = (f.pairs.get k).map fun e => s.sfe.pairResult f e := by
    rw [Sfe.resultSet, PerSlot.get_map]
  have slots := Stats.countCompletion_valid (s.sfe.resultSet f) s.efu.stats
  have copied := s.completed_within (some f) f.window (s.sfe.resultSet f)
  have completed := s.completed_stats f.window (s.sfe.resultSet f) (some f)
  have standing := s.completed_fsv f.window (s.sfe.resultSet f) (some f)
  have front := s.completed_sfe f.window (s.sfe.resultSet f) (some f)
  have totals := s.completed_tot f.window (s.sfe.resultSet f) (some f)
  have store := s.completed_pst f.window (s.sfe.resultSet f) (some f)
  have correlator := s.completed_xcr f.window (s.sfe.resultSet f) (some f)
  have tracker := s.completed_stk f.window (s.sfe.resultSet f) (some f)
  generalize s.completed (some f) f.window (s.sfe.resultSet f) = c at *
  generalize s.sfe.resultSet f = rs at *
  have record := congrArg Fsv.record (c.publish_fsv f.window rs)
  have stats := c.publish_stats f.window rs
  rw [completed] at stats
  have counted := Stats.countRecord_countsRecord (c.computeRecord f.window rs).status
    (s.efu.stats.countCompletion rs)
  have checkpoint := publication_checkpoint
    (c.tot.afterRecord c.active c.fsv.area (c.publishedRecord f.window rs)) c.pst
  rw [Tot.afterRecord_checkpoint, ← c.publish_tot, ← c.publish_pst, totals, store] at checkpoint
  obtain ⟨below, reached⟩ := checkpoint
  rw [c.publish_xcr, correlator, c.publish_sfe, front, c.publish_stk, tracker, record, stats]
  refine ⟨onlyChanges_trans blocks (onlyChanges_mono (c.publish_changes f.window rs) (by decide)), rfl, rfl, rfl, rfl, results, ?_,
    fun k => ?_, fun k => ?_, Stats.countCompletion_countsRecord counted, anyRangeCut_iff rs, rfl, ?_, ?_,
    c.computeRecord_status_ne f.window rs, ?_, ?_, rfl, c.publish_recordPublished f.window rs, fun p => ?_,
    below, reached⟩
  · rw [Stats.countRecord_completed, plus_eq_satAdd]
    rfl
  · rw [Stats.countRecord_valid]
    exact (slots k).1
  · rw [Stats.countRecord_valid]
    exact (slots k).2
  · rw [← standing]
    rfl
  · rw [c.publish_fsv]
    rfl
  · rw [← front]
    rfl
  · cases hc : s.sfe.clock <;> simp [Sfe.takeDegraded, hc]
  · refine (c.publish_velocityLost f.window rs p).trans ?_
    rw [copied.same p _ (by decide), standing]
    rfl

end Sys2Proof.Machine
end

section
/-!
PROOFS. The statements about resets: what the measurement blocks hold after each start, and the state after
reset.
-/

namespace Sys2Proof.Machine

open Sys2Proof.Claim

/-! ### The state after reset -/

theorem Profile.default_accepted : Profile.default.accepted = true := by decide

theorem Profile.default_inRange : Profile.default.inRange = true := by decide

theorem reset_unconfiguredAtRest : UnconfiguredAtRest State.reset := by
  intro r _
  rw [show (State.reset.sfe.rings.get r) = RingSense.reset from PerRing.get_fill _ r]
  exact ⟨rfl, rfl, rfl, rfl, rfl⟩

theorem reset_thresholdsInRange : ThresholdsInRange State.reset := by
  intro r _
  rw [show (State.reset.stk.rings.get r) = RingTrack.start 800 from PerRing.get_fill _ r]
  decide

theorem reset_recordAgrees : RecordAgrees State.reset :=
  ⟨by decide, by decide, by decide, fun v h => (by cases h), fun _ => ⟨rfl, rfl⟩,
    fun _ h => absurd rfl h, fun h => absurd h (by decide)⟩

theorem reset_linesAgree : LinesAgree State.reset := by
  refine ⟨by decide, by decide, fun p => ?_, fun h => absurd h (by decide), fun _ => rfl⟩
  rw [show (State.reset.efu.ports.get p) = Attention.reset from PerPort.get_fill _ p]
  simp [Attention.reset, hasKind]

theorem reset_storeAgrees : StoreAgrees State.reset := by
  refine ⟨⟨Profile.default_accepted, Profile.default_inRange, fun _ => ⟨rfl, rfl⟩, fun h => ?_⟩, fun h => ?_,
    List.nodup_nil, fun _ => rfl, fun j h => ?_⟩
  · exact absurd h (by decide)
  · exact absurd h (by decide)
  · rcases h with h | h <;> cases h

theorem reset_reportsAgree : ReportsAgree State.reset := by
  refine ⟨by decide, by decide, fun e he => ?_, by decide⟩
  have atStart : ∃ key, e = FaultEntry.atStart key := by
    simp only [State.reset, List.mem_cons, List.not_mem_nil, or_false] at he
    exact he.elim (fun h => ⟨_, h⟩) fun h => ⟨_, h⟩
  obtain ⟨key, rfl⟩ := atStart
  exact ⟨le_refl 1, Nat.le_of_ble_eq_true rfl, fun h => absurd h Bool.false_ne_true⟩

theorem reset_captureAgrees : CaptureAgrees State.reset := by
  refine ⟨by decide, fun _ => rfl, fun h => absurd rfl h, by decide, fun h => absurd h (by decide),
    fun h => absurd h (by decide)⟩

/-- Settles O59. -/
theorem resetAgrees : Obligations.ResetAgrees := by
  unfold Obligations.ResetAgrees
  refine ⟨fun f h => ?_, reset_unconfiguredAtRest, ⟨by decide, by decide, by decide⟩, reset_thresholdsInRange,
    reset_recordAgrees, reset_linesAgree, ?_, reset_storeAgrees, reset_reportsAgree, reset_captureAgrees⟩
  · rcases h with h | h <;> cases h
  · unfold TotalsAgree
    decide

/-! ### The three starts (R14, R17, R47, R72) -/

/-- The blocks of the measurement after a POR and an NRST. -/
theorem State.startBlocks_measurement (straps : PerPort StrapPair) (s : State) :
    (s.startBlocks straps).power = .running ∧ (s.startBlocks straps).sfe = Sfe.reset
    ∧ (s.startBlocks straps).xcr = Xcr.reset
    ∧ (s.startBlocks straps).stk = Stk.start (s.startBlocks straps).pst.active.thetaInit 255 := by
  unfold State.startBlocks
  simp only
  split <;> simp [State.recordFault, Pst.start]

/-- A POR and an NRST's end start the blocks and then look at the totals and the reports alone. -/
def Started (s t : State) : Prop :=
  t.power = s.power ∧ t.sfe = s.sfe ∧ t.xcr = s.xcr ∧ t.stk = s.stk ∧ t.pst.active = s.pst.active

theorem State.powerOn_started (straps : PerPort StrapPair) (s : State) :
    Started (s.startBlocks straps) (s.powerOn straps) := by
  unfold State.powerOn Started
  simp only
  split <;> simp [State.recordFault]

theorem State.endReset_started (straps : PerPort StrapPair) (s : State) :
    Started (s.startBlocks straps) (s.endReset straps) := ⟨rfl, rfl, rfl, rfl, rfl⟩

/-- What every POR and every NRST's end gives: a running part whose measurement blocks have just started. -/
theorem afterStart_of (straps : PerPort StrapPair) (s : State) (post : State → Prop)
    (h : ∀ t, t.sfe = Sfe.reset → t.xcr = Xcr.reset → t.stk = Stk.start t.pst.active.thetaInit 255 → post t) :
    AfterStart s straps post := by
  obtain ⟨running, hsfe, hxcr, hstk⟩ := s.startBlocks_measurement straps
  have started (t : State) (ht : Started (s.startBlocks straps) t) : t.power = .running ∧ post t := by
    obtain ⟨a, b, c, d, e⟩ := ht
    exact ⟨a.trans running, h t (b.trans hsfe) (c.trans hxcr) (by rw [d, hstk, e])⟩
  refine ⟨⟨_, rfl, started _ (s.powerOn_started straps)⟩, fun held => ⟨s.endReset straps, ?_, ?_⟩⟩
  · show Host.Outcome.next (match s.power with | .held => s.endReset straps | .off | .running => s) = _
    rw [held]
  · exact started _ (s.endReset_started straps)

/-- A RESTART answers OK in the state that its blocks restart into (R191). -/
theorem afterRestart_of (p : Port) (s : State) (post : State → Prop)
    (h : post (s.answer p 0x43 State.answerRestart)) : AfterRestart s p post := by
  rintro ⟨running, free⟩
  refine ⟨s.answer p 0x43 State.answerRestart, ?_, rfl, h⟩
  show Host.Outcome.next (s.request p 0x43 State.answerRestart) = _
  rw [State.request_free _ _ _ _ running free]

/-- Settles O8: a POR and an NRST's end leave what a RESTART would make of fresh blocks, and a RESTART keeps
the tag counter, the clock, the last good codes and the closed tallies beside. -/
theorem measurementAfterReset : Obligations.MeasurementAfterReset := by
  unfold Obligations.MeasurementAfterReset
  intro straps p s emptied
  have restarted (t : State) (f : Sfe) (tag : BitVec 8) (hsfe : t.sfe = f.restart) (hxcr : t.xcr = Xcr.reset)
      (hstk : t.stk = Stk.start t.pst.active.thetaInit tag) : emptied t := by
    simp [emptied, hsfe, hxcr, hstk, Sfe.restart, Sfe.flush, RingSense.flush, Tally.zero, Xcr.reset, Stk.start,
      RingTrack.start]
  refine ⟨afterStart_of straps s _ fun t hsfe hxcr hstk => ?_, afterRestart_of p s _ ?_⟩
  · refine ⟨restarted t Sfe.reset 255 hsfe hxcr hstk, ?_⟩
    rw [hsfe, hstk]
    exact ⟨rfl, rfl, rfl, rfl, fun r => by simp [Sfe.reset, RingSense.reset, Tally.zero]⟩
  · refine ⟨restarted _ s.sfe s.stk.tagCounter rfl rfl rfl, rfl, rfl, rfl, rfl, fun r => ?_⟩
    simp [State.answerRestart, State.restartBlocks, Sfe.restart, Sfe.flush, RingSense.flush]

end Sys2Proof.Machine
end

section
/-!
PROOFS. The statements about the 1 ms timebase and the clock source (R18, R19, R122, R138, R180).
-/

namespace Sys2Proof.Machine

open Sys2Proof.Claim

/-! ### A tick on the ports (R180) -/

/-- A port after one ms more. -/
def PortState.tick (c : PortState) : PortState :=
  if c.tx = .sending then c
  else match c.rx with
    | .ready => c
    | .waitIdle => if Config.gapMs ≤ c.idle + 1 then c.idleGap else { c with idle := c.idle + 1 }
    | .receiving => if Config.gapMs ≤ c.idle + 1 then c.endFrame else { c with idle := c.idle + 1 }

/-- Whether the ms abandons a frame in reception. -/
def PortState.timesOut (c : PortState) : Bool :=
  decide (c.tx ≠ .sending ∧ c.rx = .receiving ∧ Config.gapMs ≤ c.idle + 1)

theorem State.tickPort_eq (p : Port) (s : State) :
    s.tickPort p
      = (if (s.mpt.get p).timesOut then s.countCheckError p else s).setPort p (s.mpt.get p).tick := by
  have stands : s.setPort p (s.mpt.get p) = s := by simp [State.setPort, State.setMpt]
  unfold State.tickPort PortState.tick PortState.timesOut
  by_cases ht : (s.mpt.get p).tx = .sending
  · simp [ht, stands]
  · by_cases hi : Config.gapMs ≤ (s.mpt.get p).idle + 1 <;> cases hr : (s.mpt.get p).rx <;>
      simp [ht, hi, hr, stands, State.byteTimeout, State.dropFrame]

theorem State.tickPort_port (p q : Port) (s : State) :
    (s.tickPort p).mpt.get q = if q = p then (s.mpt.get p).tick else s.mpt.get q := by
  rw [State.tickPort_eq, State.setPort, State.setMpt_mpt, PerPort.get_set]
  split
  · rfl
  · split <;> rfl

theorem State.tickPort_checkErrors (p q : Port) (s : State) :
    (s.tickPort p).efu.stats.checkErrors.get q
      = if q = p ∧ (s.mpt.get p).timesOut = true then plus (s.efu.stats.checkErrors.get q) 1
        else s.efu.stats.checkErrors.get q := by
  rw [State.tickPort_eq, plus_eq_satAdd]
  by_cases h : (s.mpt.get p).timesOut = true
  · by_cases hq : q = p
    · subst hq
      simp [h, State.countCheckError, State.setPort]
    · simp [h, hq, State.countCheckError, State.setPort, PerPort.get_set_ne]
  · simp [h, State.setPort]

/-- A tick on a port leaves every block but the ports and the check errors alone. -/
theorem State.tickPort_blocks (p : Port) (s : State) :
    ∃ (m : PerPort PortState) (c : Stats),
      s.tickPort p = { s with mpt := m, efu := { s.efu with stats := c } } := by
  rw [State.tickPort_eq]
  split
  · exact ⟨_, _, rfl⟩
  · exact ⟨_, s.efu.stats, rfl⟩

/-- A tick on the three ports. -/
def State.tickPorts (s : State) : State := ((s.tickPort .p1).tickPort .p2).tickPort .p3

theorem State.tickPorts_port (s : State) (q : Port) : s.tickPorts.mpt.get q = (s.mpt.get q).tick := by
  simp only [State.tickPorts, State.tickPort_port]
  cases q <;> simp

theorem State.tickPorts_checkErrors (s : State) (q : Port) (h : (s.mpt.get q).timesOut = true) :
    s.tickPorts.efu.stats.checkErrors.get q = plus (s.efu.stats.checkErrors.get q) 1 := by
  simp only [State.tickPorts, State.tickPort_checkErrors, State.tickPort_port]
  cases q <;> simp [h]

theorem State.tickPorts_blocks (s : State) :
    ∃ (m : PerPort PortState) (c : Stats),
      s.tickPorts = { s with mpt := m, efu := { s.efu with stats := c } } := by
  obtain ⟨m1, c1, h1⟩ := s.tickPort_blocks .p1
  obtain ⟨m2, c2, h2⟩ := (s.tickPort .p1).tickPort_blocks .p2
  obtain ⟨m3, c3, h3⟩ := ((s.tickPort .p1).tickPort .p2).tickPort_blocks .p3
  refine ⟨m3, c3, ?_⟩
  rw [State.tickPorts, h3, h2, h1]

theorem PortState.tick_waitIdle (c : PortState) (ht : c.tx ≠ .sending) (hr : c.rx = .waitIdle) :
    c.tick.rx = (if 2 ≤ c.idle + 1 then .ready else .waitIdle)
    ∧ c.tick.idle = (if 2 ≤ c.idle + 1 then 2 else c.idle + 1) := by
  have gap : Config.gapMs = 2 := rfl
  simp only [PortState.tick, if_neg ht, hr, gap]
  split <;> simp [PortState.idleGap, ht, hr, gap]

theorem PortState.tick_receiving (c : PortState) (ht : c.tx ≠ .sending) (hr : c.rx = .receiving) :
    (2 ≤ c.idle + 1 → c.tick = c.endFrame ∧ c.timesOut = true)
    ∧ (c.idle + 1 < 2 → c.tick = { c with idle := c.idle + 1 }) := by
  have gap : Config.gapMs = 2 := rfl
  simp only [PortState.tick, PortState.timesOut, if_neg ht, hr, gap]
  exact ⟨fun h => by simp [h, ht], fun h => if_neg (Nat.not_le.2 h)⟩

theorem PortState.tick_stands (c : PortState) (h : c.tx = .sending ∨ c.rx = .ready) : c.tick = c := by
  rcases h with h | h <;> simp [PortState.tick, h]

/-! ### A tick on the claim, the clock and the pulse (R19, R122, R138) -/

/-- A claim is due at a tick. -/
def State.claimDue (s : State) : Prop :=
  ∃ c, s.pst.claim = some c ∧ c.expiry ≤ s.timebase ∧ s.pst.commitPending = false

/-- A claim that is due expires, and another tick leaves it alone (R138). -/
theorem State.tickClaim_cases (s : State) :
    (s.claimDue ∧ s.tickClaim = (s.setPst s.pst.endClaim).post .claimExpired)
      ∨ (¬ s.claimDue ∧ s.tickClaim = s) := by
  unfold State.tickClaim State.claimDue State.expireClaim
  cases hc : s.pst.claim with
  | none => exact .inr ⟨by simp, rfl⟩
  | some c =>
    by_cases he : c.expiry ≤ s.timebase
    · cases hp : s.pst.commitPending <;> simp [he]
    · simp [he]

/-- An expiry reaches the claim, the staging profile and the reports, since no capture waits for it (R171). -/
theorem State.tickClaim_blocks (s : State) :
    ∃ (x : Pst) (q : PerPort Attention), x.active = s.pst.active ∧ x.commitPending = s.pst.commitPending
      ∧ s.tickClaim = { s with pst := x, efu := { s.efu with ports := q } } := by
  rcases s.tickClaim_cases with ⟨_, h⟩ | ⟨_, h⟩
  · refine ⟨s.pst.endClaim, s.efu.ports.map fun _ a => Attention.add .claimExpired a, rfl, rfl, ?_⟩
    rw [h, State.post_quiet _ _ (Cap.waitsFor_none _ _ (by decide))]
    rfl
  · exact ⟨s.pst, s.efu.ports, rfl, rfl, h⟩

theorem Sfe.tick_eq (f : Sfe) :
    f.tick = { f with stable := if f.clock = .crystal then f.stable else min (f.stable + 1) 1024 } := by
  unfold Sfe.tick
  cases h : f.clock with
  | crystal => exact congrArg (fun c => { f with clock := c }) h
  | fallback => rfl

/-- The pulse and the gap run on below their width (R122). -/
theorem Pls.tick_below (p : Profile) (x : Pls) (hg : x.gen ≠ .idle) (h : x.elapsed + 1 < x.width) :
    x.tick p = { x with elapsed := x.elapsed + 1 } := by
  simp only [Pls.tick, if_neg hg, if_neg (Nat.not_le.2 h)]

/-- A pulse at its width turns to the gap (R122). -/
theorem Pls.tick_high (p : Profile) (x : Pls) (hg : x.gen = .high) (h : x.width ≤ x.elapsed + 1) :
    x.tick p = { x with gen := .gap, elapsed := 0, pulse := false } := by
  simp [Pls.tick, hg, h, Pls.endPulse]

/-- A gap at its width examines the credit (R122). -/
theorem Pls.tick_gap (p : Profile) (x : Pls) (hg : x.gen = .gap) (h : x.width ≤ x.elapsed + 1) :
    (p.pulseWeight ≤ x.credit →
      x.tick p = ⟨x.credit - p.pulseWeight, x.emitted + 1, x.lost, .high, p.pulseWidth, 0, true⟩)
    ∧ (x.credit < p.pulseWeight → x.tick p = { x with gen := .idle, elapsed := 0, pulse := false }) := by
  simp only [Pls.tick, hg, h, Pls.endGap, Pls.examine]
  exact ⟨fun hw => by simp [hw], fun hw => by simp [Nat.not_le.2 hw]⟩

/-- A tick on a running part, block by block: the claim, the clock, the pulse and the ports. -/
theorem State.tick_blocks (s : State) (h : s.power = .running) :
    ∃ (m : PerPort PortState) (c : Stats),
      s.tick = { s with
        timebase := s.timebase + 1
        sfe := s.sfe.tick
        pls := s.pls.tick s.pst.active
        pst := (s.setTimebase (s.timebase + 1)).tickClaim.pst
        efu := { s.efu with ports := (s.setTimebase (s.timebase + 1)).tickClaim.efu.ports, stats := c }
        mpt := m }
      ∧ (∀ q, m.get q = (s.mpt.get q).tick)
      ∧ ∀ q, (s.mpt.get q).timesOut = true →
        c.checkErrors.get q = plus (s.efu.stats.checkErrors.get q) 1 := by
  rw [State.tick, State.whenRunning_running _ _ h]
  simp only
  obtain ⟨x, q, hx, _, claim⟩ := (s.setTimebase (s.timebase + 1)).tickClaim_blocks
  generalize (s.setTimebase (s.timebase + 1)).tickClaim = u at claim ⊢
  subst claim
  simp only [State.active, hx]
  generalize hy : (State.setPls _ _ : State) = y
  have same : y.mpt = s.mpt ∧ y.efu.stats = s.efu.stats := by
    rw [← hy]
    exact ⟨rfl, rfl⟩
  obtain ⟨m, c, hm⟩ := y.tickPorts_blocks
  refine ⟨m, c, ?_, fun q => ?_, fun q hq => ?_⟩
  · refine hm.trans ?_
    rw [← hy]
    rfl
  · have port := y.tickPorts_port q
    rwa [hm, same.1] at port
  · have error := y.tickPorts_checkErrors q (by rwa [same.1])
    rwa [hm, same.2] at error

/-- Settles O2: a tick is the claim's, the clock's, the pulse's and the ports', and each clause reads one of
them. -/
theorem idleStepTicks : Obligations.IdleStepTicks := by
  unfold Obligations.IdleStepTicks
  intro s empty
  have stepped : step s = .next s.tick := by rw [step, empty]
  refine ⟨fun off => ?_, fun running => ⟨s.tick, stepped, ?_⟩⟩
  · rw [stepped, State.tick, State.whenRunning_not _ _ off]
  obtain ⟨m, c, ticked, port, error⟩ := s.tick_blocks running
  rw [ticked]
  have claim := (s.setTimebase (s.timebase + 1)).tickClaim_cases
  refine ⟨?_, rfl, s.sfe.tick_eq, fun hg => ?_, s.pls.tick_below _, s.pls.tick_high _,
    fun hg hw => (s.pls.tick_gap _ hg hw).1, fun hg hw => (s.pls.tick_gap _ hg hw).2,
    fun d hd he hp => ?_, fun stays => ?_, fun p ht hr => ?_, fun p ht hr hi => ?_, fun p ht hr hi => ?_,
    fun p h => ?_⟩
  · intro b
    cases b <;> simp [Block.Same]
  · exact if_pos hg
  · rcases claim with ⟨_, h⟩ | ⟨h, _⟩
    · rw [h]
      refine ⟨by rw [State.post_pst]; rfl, ?_⟩
      exact posted_of_ports (State.post_posted .claimExpired
        ((s.setTimebase (s.timebase + 1)).setPst (s.setTimebase (s.timebase + 1)).pst.endClaim)) rfl
    · exact absurd ⟨d, hd, he, hp⟩ h
  · rcases claim with ⟨⟨d, hd, he, hp⟩, _⟩ | ⟨_, h⟩
    · rcases stays d hd with h | h
      · exact absurd he (Nat.not_le.2 h)
      · exact absurd (h.symm.trans hp) (by decide)
    · rw [h]
      rfl
  · rw [port]
    exact PortState.tick_waitIdle _ ht hr
  · obtain ⟨ended, out⟩ := (PortState.tick_receiving _ ht hr).1 hi
    rw [port, ended]
    exact ⟨rfl, rfl, error p out⟩
  · rw [port]
    exact (PortState.tick_receiving _ ht hr).2 hi
  · rw [port]
    exact PortState.tick_stands _ h

/-! ### The clock source -/

theorem Sfe.stableReached_fallback (f : Sfe) (h : f.clock = .fallback) :
    f.stableReached = { f with stable := 1024 } := by
  unfold Sfe.stableReached
  split
  · next crystal => exact absurd (crystal.symm.trans h) (by decide)
  · rfl

/-- Settles O17. -/
theorem clockChanges : Obligations.ClockChanges := by
  unfold Obligations.ClockChanges
  intro s running
  have event (c : Instr) (f : State → State) (h : exec c s = .next (s.whenRunning f)) : exec c s = .next (f s) := by
    rw [h, State.whenRunning_running _ _ running]
  have fails := event .crystalFailure State.crystalFails rfl
  have settles := event .stableTimeReached (fun s => s.setSfe s.sfe.stableReached) rfl
  refine ⟨fun crystal => ⟨_, fails, ?_⟩, fun fallback => ?_, fun fallback => ?_, fun crystal => ?_⟩
  · rw [State.crystalFails, crystal]
    simp only
    refine ⟨?_, posted_of_ports (State.post_posted .clockFallback
      (s.setSfe { s.sfe with clock := .fallback, stable := 0, degraded := true })) rfl, State.post_sfe _ _⟩
    rw [State.post_quiet _ _ (Cap.waitsFor_none _ _ (by decide))]
    intro b
    cases b <;> simp [Block.Same]
  · rw [fails, State.crystalFails, fallback]
    rfl
  · rw [settles, Sfe.stableReached_fallback _ fallback]
    rfl
  · rw [settles, Sfe.stableReached, crystal]
    rfl

end Sys2Proof.Machine
end

section
/-!
PROOFS. The statements about strobes and replies (R1 to R3).
-/

namespace Sys2Proof.Machine

open Sys2Proof.Claim

/-! ### Parity (R1) -/

/-- Exclusive or over a list tells whether an odd number of its members hold. -/
theorem foldl_xor_eq {α : Type} (f : α → Bool) (l : List α) (b : Bool) :
    l.foldl (fun acc i => acc ^^ f i) b = decide ((l.countP f + if b then 1 else 0) % 2 = 1) := by
  induction l generalizing b with
  | nil => cases b <;> rfl
  | cons x l ih =>
    rw [List.foldl_cons, ih, List.countP_cons]
    cases b <;> cases f x <;> grind

/-- A reply is judged as the statements say (R1). -/
theorem replyOf_eq (code : BitVec 16) (parity : Bool) : replyOf code parity = Reply.ofBits code parity := by
  simp only [replyOf, Reply.ofBits, oddParity, foldl_xor_eq, decide_eq_true_eq]

/-! ### Replies -/

theorem Frame.complete_iff (p : Profile) (fr : Frame) :
    fr.complete p = true ↔ ∀ r, isConfigured p r = true → fr.replies.get r ≠ none := by
  simp only [Frame.complete, List.all_eq_true, Bool.or_eq_true, Bool.not_eq_true', Option.isSome_iff_ne_none]
  constructor
  · intro h r hr
    rcases h r (Ring.mem_all r) with h | h
    · exact absurd (hr.symm.trans h) (by decide)
    · exact h
  · intro h r _
    cases hr : isConfigured p r with
    | false => exact .inl rfl
    | true => exact .inr (h r hr)

/-- Storing a frame does not look at the replies held so far: they are the frame's own. -/
theorem State.closeFrame_of_held (fr held : Frame) (s : State) :
    (s.setSfe { s.sfe with frame := some held }).closeFrame fr = s.closeFrame fr := rfl

/-- The deadline of an open frame closes it (R3). -/
theorem exec_replyDeadline (fr : Frame) (s : State) (h : FrameOpen fr s) :
    exec .replyDeadline s = .next (s.closeFrame fr) := by
  obtain ⟨running, frame⟩ := h
  show Host.Outcome.next (s.whenRunning State.takeDeadline) = _
  rw [State.whenRunning_running _ _ running, State.takeDeadline, frame]

/-- A reply that is held, one that closes the frame, and one that is ignored (R1, R3). -/
theorem State.takeReply_cases (r : Ring) (x : Reply) (fr : Frame) (s : State) (hf : s.sfe.frame = some fr) :
    let held : Frame := { fr with replies := fr.replies.set r (some x) }
    (Configured s r → fr.replies.get r = none → held.complete s.active = false →
      s.takeReply r x = s.setSfe { s.sfe with frame := some held })
    ∧ (Configured s r → fr.replies.get r = none → held.complete s.active = true →
      s.takeReply r x = s.closeFrame held)
    ∧ (¬ Configured s r ∨ fr.replies.get r ≠ none → s.takeReply r x = s) := by
  intro held
  unfold State.takeReply
  rw [hf]
  simp only [configured_iff]
  refine ⟨fun hc hn open_ => ?_, fun hc hn whole => ?_, fun h => ?_⟩
  · simp [hc, hn, held, open_]
  · simp [hc, hn, held, whole]
  · rw [if_neg]
    simp only [Bool.and_eq_true, Option.isNone_iff_eq_none]
    tauto

/-- With a reply of ring `r` held, the frame is complete exactly when every other configured ring has
replied. -/
theorem Frame.complete_set (p : Profile) (fr : Frame) (r : Ring) (x : Reply) :
    ({ fr with replies := fr.replies.set r (some x) } : Frame).complete p = true
      ↔ ∀ y, y ≠ r → isConfigured p y = true → fr.replies.get y ≠ none := by
  rw [Frame.complete_iff]
  refine forall_congr' fun y => ?_
  rw [PerRing.get_set]
  by_cases h : y = r <;> simp [h]

/-- Settles O14. -/
theorem frameStrobeAndReply : Obligations.FrameStrobeAndReply := by
  unfold Obligations.FrameStrobeAndReply
  refine ⟨fun s running => ?_, ?_⟩
  · have strobed : exec .frameStrobe s = .next s.strobeFrame :=
      congrArg Host.Outcome.next (State.whenRunning_running _ _ running)
    rw [strobed, State.strobeFrame]
    refine ⟨fun none => ⟨s.setSfe (s.sfe.openFrame s.active), ?_, ?_⟩, fun fr some => ?_⟩
    · rw [none]
    · refine ⟨?_, rfl, BitVec.toNat_add _ _, fun r => PerRing.get_build _ r, rfl⟩
      intro b
      cases b <;> simp [Block.Same]
    · rw [some]
  · intro r code parity fr s opened held
    obtain ⟨running, frame⟩ := opened
    have replied : exec (.ringReply r code parity) s = .next (s.takeReply r (Reply.ofBits code parity)) :=
      congrArg Host.Outcome.next (State.whenRunning_running _ _ running)
    obtain ⟨waits, closes, ignored⟩ := s.takeReply_cases r (Reply.ofBits code parity) fr frame
    have whole := Frame.complete_set s.active fr r (Reply.ofBits code parity)
    simp only [configured_iff] at waits closes ignored ⊢
    refine ⟨fun hc hn other => ?_, fun hc hn others => ?_, fun h => ?_⟩
    · obtain ⟨y, hy, hyc, hyn⟩ := other
      rw [replied, waits hc hn (Bool.eq_false_iff.2 fun h => whole.1 h y hy hyc hyn)]
      simp only [held, replyOf_eq]
      rfl
    · rw [replied, closes hc hn (whole.2 others)]
      rw [exec_replyDeadline _ held ⟨running, rfl⟩, ← replyOf_eq]
      exact congrArg Host.Outcome.next (s.closeFrame_of_held _ _).symm
    · rw [replied, ignored h]

end Sys2Proof.Machine
end

section
/-!
PROOFS. The items of a payload at their offsets (R187), and READ_HEALTH (R21).
-/

namespace Sys2Proof.Machine

open Sys2Proof.Claim

/-! ### Items at their offsets -/

@[simp] theorem bytesBE_length (k x : Nat) : (bytesBE k x).length = k := by
  rw [bytesBE_eq, List.length_map, List.length_range]

theorem foldl_bytesBE (k x n : Nat) :
    (bytesBE k x).foldl (fun n b => 256 * n + b.toNat) n = n * 256 ^ k + x % 256 ^ k := by
  induction k generalizing n with
  | zero => simp [bytesBE, Nat.mod_one]
  | succ k ih =>
    have split : x % 256 ^ (k + 1) = x % 256 ^ k + 256 ^ k * (x / 256 ^ k % 256) := by
      rw [Nat.pow_succ, Nat.mod_mul]
    have byte : (BitVec.ofNat 8 (x / 256 ^ k)).toNat = x / 256 ^ k % 256 := BitVec.toNat_ofNat _ _
    rw [bytesBE, List.foldl_cons, ih, byte, split]
    ring

/-- The low bytes of a number spell it modulo their width (R187). -/
theorem beNat_bytesBE (k x : Nat) : beNat (bytesBE k x) = x % 256 ^ k := by
  rw [beNat, foldl_bytesBE, Nat.zero_mul, Nat.zero_add]

theorem at_bytesBE (k x : Nat) (l : List Byte) : At (bytesBE k x ++ l) 0 k x := by
  refine ⟨by simp, ?_⟩
  rw [List.drop_zero, List.take_left' (bytesBE_length k x), beNat_bytesBE]
  push_cast
  rfl

theorem at_append_left {l : List Byte} {o w : Nat} {x : Int} (m : List Byte) (h : At l o w x) :
    At (l ++ m) o w x := by
  obtain ⟨fits, value⟩ := h
  refine ⟨by rw [List.length_append]; omega, ?_⟩
  rw [List.drop_append_of_le_length (by omega), List.take_append_of_le_length (by rw [List.length_drop]; omega),
    value]

theorem at_append_right {m : List Byte} {o w : Nat} {x : Int} (l : List Byte) (h : At m o w x) :
    At (l ++ m) (l.length + o) w x := by
  obtain ⟨fits, value⟩ := h
  refine ⟨by rw [List.length_append]; omega, ?_⟩
  rw [List.drop_append, List.drop_eq_nil_of_le (by omega), List.nil_append, Nat.add_sub_cancel_left, value]

theorem at_congr {l : List Byte} {o w : Nat} {x y : Int} (h : At l o w x) (hxy : x = y) : At l o w y := hxy ▸ h

/-- An item behind another one. -/
theorem at_behind (k x : Nat) {l : List Byte} {o w : Nat} {y : Int} (hk : k ≤ o) (h : At l (o - k) w y) :
    At (bytesBE k x ++ l) o w y := by
  have := at_append_right (bytesBE k x) h
  rwa [bytesBE_length, Nat.add_sub_cancel' hk] at this

/-! ### READ_HEALTH -/

/-- One ring's items in the order of their offsets (R21). -/
theorem RingSense.bytes_eq (on : Bool) (x : RingSense) :
    x.bytes on = bytesBE 1 (if on then 1 else 0) ++ (bytesBE 1 x.health.code ++ (bytesBE 1 x.badRun
      ++ (bytesBE 1 x.goodRun ++ (bytesBE 2 x.lastGood ++ (bytesBE 2 x.reportedMean
      ++ (bytesBE 2 x.closed.missing ++ (bytesBE 2 x.closed.saturated ++ (bytesBE 6 x.closed.energy ++ []))))))))
    := by
  simp only [RingSense.bytes, flag, u8, u16, u48, List.append_assoc, List.append_nil]

theorem RingSense.bytes_length (on : Bool) (x : RingSense) : (x.bytes on).length = 18 := by
  simp only [RingSense.bytes_eq, List.length_append, bytesBE_length, List.length_nil]

/-- The items before the rings', in the order of their offsets (R21). -/
theorem healthPayload_eq (s : State) :
    healthPayload s = bytesBE 1 s.active.ringCount ++ (bytesBE 1 s.sfe.clock.code ++ (bytesBE 2 s.sfe.stable
      ++ (bytesBE 2 s.sfe.fill ++ (bytesBE 1 (if s.sfe.ready then 1 else 0)
      ++ (bytesBE 4 s.sfe.lastIndex.toNat
      ++ Ring.all.flatMap fun r => (s.sfe.rings.get r).bytes (isConfigured s.active r)))))) := by
  simp only [healthPayload, flag, u8, u16, u32, List.append_assoc]

theorem healthPayload_length (s : State) : (healthPayload s).length = 83 := by
  simp [healthPayload_eq, Ring.all, RingSense.bytes_length]

/-- A list of blocks of one length per ring, read block by block. -/
theorem at_flatMap_ring (f : Ring → List Byte) (k : Nat) (hf : ∀ r, (f r).length = k) (r : Ring) {o w : Nat}
    {x : Int} (h : At (f r) o w x) : At (Ring.all.flatMap f) (k * r.num + o) w x := by
  have block (before after : List Byte) : At (before ++ (f r ++ after)) (before.length + o) w x :=
    at_append_right before (at_append_left after h)
  have all : Ring.all.flatMap f = f .a ++ (f .b ++ (f .c ++ f .d)) := by simp [Ring.all]
  cases r with
  | a => simpa [all, Ring.num] using block [] (f .b ++ (f .c ++ f .d))
  | b => simpa [all, Ring.num, hf] using block (f .a) (f .c ++ f .d)
  | c => simpa [all, Ring.num, hf, Nat.mul_comm k, Nat.two_mul] using block (f .a ++ f .b) (f .d)
  | d =>
    have three : k * 3 = k + k + k := by omega
    simpa [all, Ring.num, hf, three, Nat.add_assoc] using block (f .a ++ f .b ++ f .c) []

/-- An item of a ring's block stands at the block's offset. -/
theorem healthPayload_ring (s : State) (r : Ring) {o w : Nat} {x : Int}
    (h : At ((s.sfe.rings.get r).bytes (isConfigured s.active r)) o w x) :
    At (healthPayload s) (11 + 18 * r.num + o) w x := by
  have blocks := at_flatMap_ring (fun r => (s.sfe.rings.get r).bytes (isConfigured s.active r)) 18
    (fun r => RingSense.bytes_length _ _) r h
  rw [healthPayload_eq, Nat.add_assoc]
  repeat refine at_behind _ _ (by omega) ?_
  have offset : 11 + (18 * r.num + o) - 1 - 1 - 2 - 2 - 1 - 4 = 18 * r.num + o := by omega
  rwa [offset]

/-- The items of a ring's block (R21). -/
theorem RingSense.bytes_at (on : Bool) (x : RingSense) :
    At (x.bytes on) 0 1 (if on then 1 else 0) ∧ At (x.bytes on) 1 1 x.health.code
    ∧ At (x.bytes on) 2 1 x.badRun ∧ At (x.bytes on) 3 1 x.goodRun ∧ At (x.bytes on) 4 2 x.lastGood
    ∧ At (x.bytes on) 6 2 x.reportedMean ∧ At (x.bytes on) 8 2 x.closed.missing
    ∧ At (x.bytes on) 10 2 x.closed.saturated ∧ At (x.bytes on) 12 6 x.closed.energy := by
  rw [RingSense.bytes_eq]
  refine ⟨?_, ?_, ?_, ?_, ?_, ?_, ?_, ?_, ?_⟩
  · cases on <;> exact at_bytesBE _ _ _
  all_goals
    repeat refine at_behind _ _ (by decide) ?_
    exact at_bytesBE _ _ _

/-- The block of a ring that is not configured and at rest: all its items but the last good code are 0. -/
theorem RingSense.bytes_at_rest (x : RingSense) (hh : x.health = .healthy) (hb : x.badRun = 0)
    (hg : x.goodRun = 0) (hs : x.seeded = false) (hc : x.closed = ⟨0, 0, 0⟩) :
    At (x.bytes false) 0 4 0 ∧ At (x.bytes false) 6 2 0 ∧ At (x.bytes false) 8 10 0 := by
  have zeros : x.bytes false
      = bytesBE 4 0 ++ (bytesBE 2 x.lastGood ++ (bytesBE 2 0 ++ (bytesBE 10 0 ++ []))) := by
    simp only [RingSense.bytes_eq, hh, hb, hg, hc, RingSense.reportedMean, hs]
    rfl
  rw [zeros]
  refine ⟨?_, ?_, ?_⟩
  all_goals
    repeat refine at_behind _ _ (by decide) ?_
    exact at_bytesBE _ _ _

/-- Settles O18: the items before the rings' stand in the order of the payload, and each ring's at the offset of
its block. -/
theorem readHealth : Obligations.ReadHealth := by
  unfold Obligations.ReadHealth
  rintro p s ⟨running, free⟩
  have taken : exec (.readHealth p) s = .next (s.answer p 0x14 (State.report healthPayload)) := by
    show Host.Outcome.next (s.request p 0x14 (State.report healthPayload)) = _
    rw [State.request_free _ _ _ _ running free]
  refine ⟨_, healthPayload s, taken, ?_, rfl, healthPayload_length s, ?_, ?_, ?_, ?_, ?_, ?_, fun r => ?_⟩
  · intro b
    cases b <;> simp [Block.Same, State.report]
  · rw [healthPayload_eq]
    exact at_bytesBE _ _ _
  · refine at_congr (x := (s.sfe.clock.code : Nat)) ?_ (by cases s.sfe.clock <;> rfl)
    rw [healthPayload_eq]
    exact at_behind _ _ (by decide) (at_bytesBE _ _ _)
  · rw [healthPayload_eq]
    repeat refine at_behind _ _ (by decide) ?_
    exact at_bytesBE _ _ _
  · rw [healthPayload_eq]
    repeat refine at_behind _ _ (by decide) ?_
    exact at_bytesBE _ _ _
  · have item : ofFlag s.sfe.ready = ((if s.sfe.ready then 1 else 0 : Nat) : Int) := by
      cases s.sfe.ready <;> rfl
    rw [healthPayload_eq, item]
    repeat refine at_behind _ _ (by decide) ?_
    exact at_bytesBE _ _ _
  · rw [healthPayload_eq]
    repeat refine at_behind _ _ (by decide) ?_
    exact at_bytesBE _ _ _
  · obtain ⟨on, health, bad, good, last, mean, missing, saturated, energy⟩ :=
      RingSense.bytes_at (isConfigured s.active r) (s.sfe.rings.get r)
    refine ⟨?_, ?_, healthPayload_ring s r bad, healthPayload_ring s r good, healthPayload_ring s r last,
      ?_, healthPayload_ring s r missing, healthPayload_ring s r saturated, healthPayload_ring s r energy,
      fun rest off => ?_⟩
    · refine at_congr (healthPayload_ring s r on) ?_
      simp only [isConfigured_iff, State.active]
    · refine at_congr (healthPayload_ring s r health) ?_
      cases (s.sfe.rings.get r).health <;> rfl
    · refine at_congr (healthPayload_ring s r mean) ?_
      unfold RingSense.reportedMean
      split <;> rfl
    · obtain ⟨hh, hb, hg, hs, hc⟩ := rest r off
      have unconfigured : isConfigured s.active r = false :=
        Bool.eq_false_iff.2 fun h => off ((configured_iff s r).2 h)
      obtain ⟨front, mid, back⟩ := RingSense.bytes_at_rest _ hh hb hg hs hc
      rw [← unconfigured] at front mid back
      exact ⟨healthPayload_ring s r front, healthPayload_ring s r mid, healthPayload_ring s r back⟩

end Sys2Proof.Machine
end

section
/-!
SUPPORT. The first part of a boundary (R8): the window closed, the commit applied, the pair table rebuilt and
the correlation moved on, block by block.
-/

namespace Sys2Proof.Machine

open Sys2Proof.Claim

/-! ### The window closed (R8, R12, R19) -/

/-- The state at the end of a window, before the grades are posted. -/
def State.windowClosed (s : State) : State :=
  { s with
    freeCount := s.freeCount + 1
    sfe := (s.sfe.closeWindow s.active s.pst.geometryPending).settleClock
    xcr := { s.xcr with windowNumber := s.xcr.windowNumber + 1 }
    efu := { s.efu with stats := { s.efu.stats with windowsClosed := satAdd s.efu.stats.windowsClosed 1 } } }

/-- The boundary's first part, with the free values of this boundary. -/
def State.closedWindow (s : State) : State := (s.setFreeCount (s.freeCount + 1)).closeWindow

theorem State.closedWindow_eq (s : State) : s.closedWindow = s.windowClosed.postHealth s.sfe.rings := rfl

/-- Post what the grading of one ring gives. -/
def State.postGrade (before after : PerRing RingSense) (s : State) (r : Ring) : State :=
  match healthEvent (before.get r).health (after.get r).health with
  | some k => s.post k
  | none => s

theorem State.postHealth_eq (before : PerRing RingSense) (s : State) :
    s.postHealth before = Ring.all.foldl (State.postGrade before s.sfe.rings) s := rfl

/-- What every posting of ringFailed and ringRestored keeps is kept by a grade. -/
theorem State.postGrade_cases (before after : PerRing RingSense) (s : State) (r : Ring) :
    s.postGrade before after r = s ∨ s.postGrade before after r = s.post .ringFailed
      ∨ s.postGrade before after r = s.post .ringRestored := by
  unfold State.postGrade healthEvent
  cases (before.get r).health <;> cases (after.get r).health <;> simp

theorem State.postGrade_within (before after : PerRing RingSense) (s : State) (r : Ring) :
    PostsWithin [.ringFailed, .ringRestored, .captureDone] s (s.postGrade before after r) := by
  rcases s.postGrade_cases before after r with h | h | h <;> rw [h]
  · exact .refl _ s
  · exact (s.post_within _).mono (by decide)
  · exact (s.post_within _).mono (by decide)

theorem State.postHealth_only (before : PerRing RingSense) (s : State) : OnlyEvents s (s.postHealth before) := by
  rw [State.postHealth_eq]
  refine foldl_keeps OnlyEvents.refl OnlyEvents.trans (fun u r => ?_) _ _
  rcases u.postGrade_cases before s.sfe.rings r with h | h | h <;> rw [h]
  · exact .refl u
  · exact u.post_only _
  · exact u.post_only _

theorem State.postHealth_within (before : PerRing RingSense) (s : State) :
    PostsWithin [.ringFailed, .ringRestored, .captureDone] s (s.postHealth before) :=
  foldl_keeps (PostsWithin.refl _) PostsWithin.trans (fun u r => u.postGrade_within _ _ r) _ _

theorem State.postHealth_capStands (before : PerRing RingSense) (s : State) :
    CapStands s (s.postHealth before) := by
  rw [State.postHealth_eq]
  refine foldl_keeps CapStands.refl CapStands.trans (fun u r => ?_) _ _
  rcases u.postGrade_cases before s.sfe.rings r with h | h | h <;> rw [h]
  · exact .refl u
  · exact u.post_capStands _
  · exact u.post_capStands _

/-- A change of health that posts a kind posts it to every port (R12). -/
theorem State.postHealth_pends (before : PerRing RingSense) (s : State) (r : Ring) (k : EventKind)
    (h : healthEvent (before.get r).health (s.sfe.rings.get r).health = some k) (p : Port) :
    Pends (s.postHealth before) p k = true := by
  obtain ⟨l, m, all⟩ := List.append_of_mem (Ring.mem_all r)
  rw [State.postHealth_eq, all, List.foldl_append, List.foldl_cons]
  refine (foldl_keeps (PostsWithin.refl _) PostsWithin.trans
    (fun u x => u.postGrade_within before s.sfe.rings x) m _).grows p k ?_
  rw [State.postGrade, h]
  exact State.post_pends k p _

/-- Without a change of health nothing is posted. -/
theorem State.postHealth_same (before : PerRing RingSense) (s : State)
    (h : ∀ r, (s.sfe.rings.get r).health = (before.get r).health) : s.postHealth before = s := by
  rw [State.postHealth_eq]
  refine foldl_keeps (R := fun x y : State => y = x) (fun _ => rfl) (fun h g => g.trans h) (fun u r => ?_) _ s
  rw [State.postGrade, h r]
  cases (before.get r).health <;> rfl

theorem Sfe.settleClock_rings (f : Sfe) : f.settleClock.rings = f.rings := by
  unfold Sfe.settleClock
  split <;> rfl

/-- A geometry commit's boundary grades no ring (R15). -/
theorem Sfe.closeWindow_health (p : Profile) (f : Sfe) (r : Ring) :
    ((f.closeWindow p true).rings.get r).health = (f.rings.get r).health := by
  simp only [Sfe.closeWindow, PerRing.get_map]
  split <;> rfl

theorem State.closedWindow_only (s : State) : OnlyEvents s.windowClosed s.closedWindow :=
  s.windowClosed.postHealth_only _

theorem State.closedWindow_within (s : State) :
    PostsWithin [.ringFailed, .ringRestored, .captureDone] s s.closedWindow :=
  (s.windowClosed.postHealth_within _).after rfl

theorem State.closedWindow_capStands (s : State) : CapStands s s.closedWindow :=
  (s.windowClosed.postHealth_capStands _).after rfl

theorem State.closedWindow_geometry (s : State) (h : s.pst.geometryPending = true) :
    s.closedWindow = s.windowClosed := by
  rw [State.closedWindow_eq]
  refine s.windowClosed.postHealth_same _ fun r => ?_
  show (((s.sfe.closeWindow s.active s.pst.geometryPending).settleClock).rings.get r).health = _
  rw [Sfe.settleClock_rings, h, Sfe.closeWindow_health]

/-! ### A commit applied (R142, R143) -/

/-- The profile that a boundary makes the active one: the staging profile where a commit is pending. -/
def State.nextProfile (s : State) : Profile := if s.pst.commitPending then s.pst.staging else s.pst.active

/-- The blocks after a commit, before the capture unit takes it up. -/
def State.commitBlocks (s : State) : State :=
  let old := s.pst.active
  let new := s.pst.staging
  let geo := isGeometry old new
  { s with
    pst := s.pst.apply
    efu := (s.addKind .profileApplied).efu
    sfe := if geo then s.sfe.flush.dropTallies new else s.sfe
    xcr := if geo then { s.xcr with state := .idle } else s.xcr
    fsv := s.fsv.applyCommit old new s.xcr.windowNumber s.sfe.degraded s.dgd.state
    tot := if old.fs = new.fs then s.tot else s.tot.rescale new.fs
    pls := if old.pulseBasis = new.pulseBasis ∧ old.pulseWeight = new.pulseWeight then s.pls
      else s.pls.unitStart }

theorem State.applyCommit_eq (s : State) :
    s.applyCommit
      = if isGeometry s.pst.active s.pst.staging then s.commitBlocks.captureGeometry else s.commitBlocks := by
  have quiet : State.post .profileApplied (s.setPst s.pst.apply) = (s.setPst s.pst.apply).addKind .profileApplied :=
    State.post_quiet _ _ (Cap.waitsFor_none _ _ (by decide))
  have tot (c : Prop) [Decidable c] (u : State) (x : Tot) :
      (if c then u else u.setTot x) = u.setTot (if c then u.tot else x) := by split <;> rfl
  have pls (c : Prop) [Decidable c] (u : State) (x : Pls) :
      (if c then u else u.setPls x) = u.setPls (if c then u.pls else x) := by split <;> rfl
  have geo (c : Prop) [Decidable c] (u : State) (x : Sfe) (y : Xcr) :
      (if c then (u.setSfe x).setXcr y else u)
        = (u.setSfe (if c then x else u.sfe)).setXcr (if c then y else u.xcr) := by split <;> rfl
  have window (c : Prop) [Decidable c] (x : Xcr) :
      (if c then { x with state := .idle } else x).windowNumber = x.windowNumber := by split <;> rfl
  have degraded (c : Prop) [Decidable c] (x : Sfe) (p : Profile) :
      (if c then x.flush.dropTallies p else x).degraded = x.degraded := by split <;> rfl
  unfold State.applyCommit
  rw [quiet]
  simp only [tot, pls, geo]
  refine if_congr Iff.rfl (congrArg State.captureGeometry ?_) ?_ <;>
    simp only [State.setSfe, State.setXcr, State.setFsv, State.setTot, State.setPls, State.setPst, State.addKind,
      State.setEfu, window, degraded, State.commitBlocks]

theorem State.captureGeometry_only (s : State) : OnlyEvents s s.captureGeometry := by
  unfold State.captureGeometry
  split
  · exact s.completeEmpty_only
  · exact .refl s

theorem State.captureGeometry_within (s : State) : PostsWithin [.captureDone] s s.captureGeometry := by
  unfold State.captureGeometry
  split
  · exact s.completeEmpty_within
  · exact .refl _ s

theorem State.postCaptureDone_cap (s : State) : s.postCaptureDone.cap = s.cap := by
  unfold State.postCaptureDone
  split <;> rfl

theorem State.postCaptureDone_pends (s : State) (p : Port) (h : s.cap.owner = some p) :
    Pends s.postCaptureDone p .captureDone = true := by
  unfold State.postCaptureDone
  rw [h]
  exact State.postTo_pends _ _ _

/-- A capture completed with EMPTY is FULL without values (R172, R173, R177). -/
theorem State.completeEmpty_cap (s : State) : s.completeEmpty.cap = { s.cap with
    state := .full, buffer := [], count := 0, empty := true
    header := s.cap.header.map fun h => { h with raw := none, corr := none } } :=
  State.postCaptureDone_cap _

theorem State.completeEmpty_pends (s : State) (p : Port) (h : s.cap.owner = some p) :
    Pends s.completeEmpty p .captureDone = true := State.postCaptureDone_pends _ p h

/-- A RAW copy in progress is abandoned, and its owner is told (R177). -/
theorem State.captureGeometry_raw (s : State) (r : Ring) (hs : s.cap.state = .filling)
    (hc : s.cap.content = some (.raw r)) : s.captureGeometry = s.completeEmpty := by
  unfold State.captureGeometry
  rw [hs, hc]

theorem State.applyCommit_only (s : State) : OnlyEvents s.commitBlocks s.applyCommit := by
  rw [State.applyCommit_eq]
  split
  · exact State.captureGeometry_only _
  · exact .refl _

theorem State.commitBlocks_within (s : State) : PostsWithin [.profileApplied] s s.commitBlocks := by
  have added := s.addKind_within .profileApplied
  exact ⟨added.same, added.grows, added.items⟩

theorem State.applyCommit_within (s : State) : PostsWithin [.profileApplied, .captureDone] s s.applyCommit := by
  have blocks := s.commitBlocks_within.mono (more := [.profileApplied, .captureDone]) (by simp)
  rw [State.applyCommit_eq]
  split
  · exact blocks.trans ((State.captureGeometry_within _).mono (by simp))
  · exact blocks

theorem State.applyCommit_pends (s : State) (p : Port) : Pends s.applyCommit p .profileApplied = true := by
  have blocks : Pends s.commitBlocks p .profileApplied = true := by
    refine (s.addKind_pends .profileApplied .profileApplied p).trans ?_
    simp
  rw [State.applyCommit_eq]
  split
  · exact (State.captureGeometry_within _).grows p _ blocks
  · exact blocks

/-! ### The clear before a commit (R120) -/

/-- The clear where the free choice of a boundary puts it before the commit. -/
def State.clearedFirst (n : Nat) (s : State) : State :=
  if s.tot.clearPending && Config.takenFirst .clearBeforeCommit n then s.applyClear else s

/-- A clear changes the totals, the queue of writes and the pending sets alone. -/
theorem State.applyClear_blocks (s : State) : ∃ q : PerPort Attention,
    s.applyClear = { s with
      tot := { s.tot.cleared with checkpoint := 0 }
      pst := { s.pst with nv := s.pst.nv.queue (.totals s.tot.cleared.snapshot) }
      efu := { s.efu with ports := q } } := by
  obtain ⟨q, c, h⟩ := State.post_only .totalsCleared (s.setTot s.tot.cleared).queueCheckpoint
  have cap := s.applyClear_cap
  rw [State.applyClear, h] at cap
  have same : c = s.cap := cap
  exact ⟨q, by rw [State.applyClear, h, same]; rfl⟩

theorem State.applyClear_within (s : State) : PostsWithin [.totalsCleared, .captureDone] s s.applyClear :=
  (State.post_within _ _).after rfl

/-- Totals whose clear is still pending, or that have been cleared. -/
def Tot.ClearedOrPending (t : Tot) : Prop :=
  t.clearPending = true
    ∨ t.volume = 0 ∧ t.solids = 0 ∧ t.volumeResidue = 0 ∧ t.solidsResidue = 0 ∧ t.clearPending = false

theorem Tot.ClearedOrPending.rescale {t : Tot} (h : t.ClearedOrPending) (fs : Nat) :
    (t.rescale fs).ClearedOrPending := by
  unfold Tot.rescale
  split
  · exact h
  · rcases h with h | ⟨hv, hs, hvr, hsr, hc⟩
    · exact .inl h
    · exact .inr ⟨hv, hs, by simp [hvr], by simp [hsr], hc⟩

/-! ### What is pending applied (R142, R120) -/

/-- A job is in progress or waits. -/
def Nv.Holds (v : Nv) (j : NvJob) : Prop := v.writing = some j ∨ j ∈ v.waiting

theorem mem_enqueueWrite (j : NvJob) (l : List NvJob) : j ∈ enqueueWrite j l := by
  unfold enqueueWrite
  split
  · next h =>
    obtain ⟨x, hx, hr⟩ := List.any_eq_true.1 h
    exact List.mem_map.2 ⟨x, hx, if_pos (by simpa using hr)⟩
  · exact List.mem_append_right _ (List.mem_singleton_self j)

theorem Nv.queue_holds (v : Nv) (j : NvJob) : (v.queue j).Holds j := by
  unfold Nv.queue
  split
  · exact .inl rfl
  · exact .inr (mem_enqueueWrite j _)

/-- A write of one region does not disturb the write of the other (R145). -/
theorem Nv.Holds.queue {v : Nv} {j : NvJob} (h : v.Holds j) (k : NvJob) (hr : j.region ≠ k.region) :
    (v.queue k).Holds j := by
  unfold Nv.queue
  rcases h with h | h
  · rw [h]
    exact .inl rfl
  · split
    · exact .inr h
    · refine .inr ?_
      unfold enqueueWrite
      split
      · exact List.mem_map.2 ⟨j, h, if_neg hr⟩
      · exact List.mem_append_left _ h

/-- What a boundary has done to the blocks once a commit that is pending has been applied, block by block. -/
structure PendingApplied (s t : State) : Prop where
  power : t.power = s.power
  sfe : t.sfe = if s.pst.geometryPending then s.sfe.flush.dropTallies s.nextProfile else s.sfe
  xcr : t.xcr = if s.pst.geometryPending then { s.xcr with state := .idle } else s.xcr
  stk : t.stk = s.stk
  dgd : t.dgd = s.dgd
  fsv : t.fsv = s.fsv.applyCommit s.pst.active s.nextProfile s.xcr.windowNumber s.sfe.degraded s.dgd.state
  pls : t.pls = if s.pst.active.pulseBasis = s.nextProfile.pulseBasis
    ∧ s.pst.active.pulseWeight = s.nextProfile.pulseWeight then s.pls else s.pls.unitStart
  pst : t.pst = { s.pst with
    active := s.nextProfile, claim := if s.pst.commitPending then none else s.pst.claim, commitPending := false
    nv := t.pst.nv }
  stored : s.pst.commitPending = true → t.pst.nv.Holds (.profile s.pst.staging.image)
  queued : s.pst.commitPending = true → s.tot.clearPending = false →
    t.pst.nv = s.pst.nv.queue (.profile s.pst.staging.image)
  tot : s.tot.clearPending = false →
    t.tot = if s.pst.active.fs = s.nextProfile.fs then s.tot else s.tot.rescale s.nextProfile.fs
  cleared : s.tot.clearPending = true → t.tot.ClearedOrPending
  faults : t.efu.faults = s.efu.faults
  full : t.efu.full = s.efu.full
  stats : t.efu.stats = s.efu.stats
  posts : PostsWithin [.profileApplied, .totalsCleared, .captureDone] s t
  applied : s.pst.commitPending = true → ∀ p, Pends t p .profileApplied = true
  cap : s.pst.geometryPending = false → t.cap = s.cap
  raw : ∀ r, s.pst.geometryPending = true → s.cap.state = .filling → s.cap.content = some (.raw r) →
    t.cap = { s.cap with
      state := .full, buffer := [], count := 0, empty := true
      header := s.cap.header.map fun h => { h with raw := none, corr := none } }
    ∧ ∀ p, s.cap.owner = some p → Pends t p .captureDone = true

theorem isGeometry_self (p : Profile) : isGeometry p p = false := by simp [isGeometry]

theorem Fsv.applyCommit_self (p : Profile) (w : Index) (degraded : Bool) (g : GuardState) (f : Fsv) :
    f.applyCommit p p w degraded g = f := by
  simp [Fsv.applyCommit, isGeometry_self]

theorem PendingApplied.refl (s : State) (h : s.pst.commitPending = false) : PendingApplied s s := by
  have geometry : s.pst.geometryPending = false := by rw [Pst.geometryPending, h, Bool.false_and]
  have next : s.nextProfile = s.pst.active := by simp [State.nextProfile, h]
  have absurd' {a : Prop} : s.pst.commitPending = true → a := fun g => absurd (h.symm.trans g) (by decide)
  constructor
  case sfe => simp [geometry]
  case xcr => simp [geometry]
  case fsv => rw [next, Fsv.applyCommit_self]
  case pls => simp [next]
  case pst => rw [next, h, if_neg Bool.false_ne_true, ← h]
  case stored => exact absurd'
  case queued => exact absurd'
  case tot => simp [next]
  case cleared => exact fun hc => .inl hc
  case posts => exact .refl _ s
  case applied => exact absurd'
  case raw => exact fun r hg => absurd (geometry.symm.trans hg) (by decide)
  case cap => exact fun _ => rfl
  all_goals rfl

/-- A commit alone. -/
theorem State.applyCommit_applied (s : State) (h : s.pst.commitPending = true) : PendingApplied s s.applyCommit := by
  have geometry : s.pst.geometryPending = isGeometry s.pst.active s.pst.staging := by
    rw [Pst.geometryPending, h, Bool.true_and]
  have next : s.nextProfile = s.pst.staging := by simp [State.nextProfile, h]
  have within' := s.applyCommit_within
  have pends := s.applyCommit_pends
  obtain ⟨q, c, only⟩ := s.applyCommit_only
  have commit := s.applyCommit_eq
  generalize s.applyCommit = t at *
  rw [← geometry] at commit
  constructor
  case sfe => rw [only, geometry, next]; rfl
  case xcr => rw [only, geometry]; rfl
  case fsv => rw [only, next]; rfl
  case pls => rw [only, next]; rfl
  case pst => rw [only, next, h, if_pos rfl]; rfl
  case stored => intro _; rw [only]; exact Nv.queue_holds _ _
  case queued => intro _ _; rw [only]; rfl
  case tot => intro _; rw [only, next]; rfl
  case cleared =>
    intro hc
    rw [only]
    show Tot.ClearedOrPending (if s.pst.active.fs = s.pst.staging.fs then s.tot else s.tot.rescale s.pst.staging.fs)
    split
    · exact .inl hc
    · exact Tot.ClearedOrPending.rescale (.inl hc) _
  case posts => exact within'.mono (by simp)
  case applied => exact fun _ => pends
  case cap =>
    intro hg
    rw [commit, hg]
    rfl
  case raw =>
    intro r hg hs hc
    rw [hg, if_pos rfl, s.commitBlocks.captureGeometry_raw r hs hc] at commit
    rw [commit]
    exact ⟨State.completeEmpty_cap _, fun p hp => State.completeEmpty_pends _ p hp⟩
  all_goals rw [only]; rfl

/-- A clear before the commit leaves what the commit looks at. -/
theorem State.clearedFirst_applied (n : Nat) (s : State) (h : s.pst.commitPending = true) :
    PendingApplied s (s.clearedFirst n).applyCommit := by
  unfold State.clearedFirst
  split
  · next first =>
    have pending : s.tot.clearPending = true := (Bool.and_eq_true_iff.1 first).1
    have clearing := s.applyClear_within
    obtain ⟨q, clear⟩ := s.applyClear_blocks
    generalize s.applyClear = b at *
    have applied := b.applyCommit_applied (by rw [clear]; exact h)
    subst clear
    have absurd' {a : Prop} : s.tot.clearPending = false → a := fun g => absurd (g.symm.trans pending) (by decide)
    obtain ⟨power, sfe, xcr, stk, dgd, fsv, pls, pst, stored, queued, tot, cleared, faults, full, stats, posts,
      applied, cap, raw⟩ := applied
    refine ⟨power, sfe, xcr, stk, dgd, fsv, pls, pst, stored, fun _ => absurd', absurd', fun _ => ?_, faults, full,
      stats, (clearing.mono (by simp)).trans posts, applied, cap, raw⟩
    rw [tot rfl]
    split
    · exact .inr ⟨rfl, rfl, rfl, rfl, rfl⟩
    · exact Tot.ClearedOrPending.rescale (.inr ⟨rfl, rfl, rfl, rfl, rfl⟩) _
  · exact s.applyCommit_applied h

/-- What is pending is applied, whatever the order of a clear and a commit (R142, R120). -/
theorem State.applyPending_applied (n : Nat) (s : State) : PendingApplied s (s.applyPending n) := by
  unfold State.applyPending
  split
  · next h => exact s.clearedFirst_applied n h
  · next h => exact .refl s (Bool.eq_false_iff.2 h)

end Sys2Proof.Machine
end

section
/-!
SUPPORT. The state of a boundary before its tracker's work, its clear, its recordings and its completion:
the front end closed, what is pending applied, the pair table rebuilt and the correlation moved on.
-/

namespace Sys2Proof.Machine

open Sys2Proof.Claim

/-! ### The correlator's part (R27, R29, R33, R34) -/

/-- What the correlator's part of a boundary may change: the pair table, the correlation and its counters. -/
structure CorrelatorMoved (s t : State) : Prop where
  blocks : ∃ (table : PerSlot (Option PairEntry)) (state : Correlation) (c : Stats),
    t = { s with
      xcr := { s.xcr with table := table, state := state }
      efu := { s.efu with stats := { s.efu.stats with
        unformable := c.unformable, skipped := c.skipped, discardedLate := c.discardedLate } } }
  late : ∀ f, s.xcr.state = .running f → t.xcr.state = .late f
  unready : s.sfe.ready = false → s.xcr.state = .idle → t.xcr.state = .idle

/-- The correlator's part of a boundary. -/
def State.moveCorrelator (s : State) : State := s.rebuildTable.correlatorBoundary

/-- A correlation of the window just closed, where the history is ready and the table holds a pair (R29). -/
def State.beginCorrelation (s : State) : State :=
  if s.sfe.ready && !tableEmpty s.xcr.table then s.setXcr { s.xcr with state := .running s.newInFlight }
  else s.setXcr { s.xcr with state := .idle }

theorem State.beginCorrelation_eq (s : State) : ∃ state : Correlation,
    s.beginCorrelation = { s with xcr := { s.xcr with state := state } }
    ∧ (s.sfe.ready = false → state = .idle) := by
  unfold State.beginCorrelation
  split
  · next h => exact ⟨_, rfl, fun hr => absurd (Bool.and_eq_true_iff.1 h).1 (by rw [hr]; decide)⟩
  · exact ⟨.idle, rfl, fun _ => rfl⟩

/-- The correlator's part by the state it finds: IDLE, RUNNING and LATE (R29, R33, R34). -/
theorem State.correlatorBoundary_cases (s : State) :
    (s.xcr.state = .idle ∧ s.correlatorBoundary = s.beginCorrelation)
    ∨ (∃ f, s.xcr.state = .running f ∧ s.correlatorBoundary
      = (s.setXcr { s.xcr with state := .late f }).count fun c => { c with skipped := satAdd c.skipped 1 })
    ∨ (∃ f, s.xcr.state = .late f ∧ s.correlatorBoundary
      = (s.count fun c => { c with discardedLate := satAdd c.discardedLate 1 }).beginCorrelation) := by
  unfold State.correlatorBoundary
  cases hs : s.xcr.state with
  | idle => exact .inl ⟨rfl, rfl⟩
  | running f => exact .inr (.inl ⟨f, rfl, rfl⟩)
  | late f => exact .inr (.inr ⟨f, rfl, rfl⟩)

theorem State.moveCorrelator_moved (s : State) : CorrelatorMoved s s.moveCorrelator := by
  have state : s.rebuildTable.xcr.state = s.xcr.state := rfl
  unfold State.moveCorrelator
  rcases s.rebuildTable.correlatorBoundary_cases with ⟨hs, h⟩ | ⟨f, hs, h⟩ | ⟨f, hs, h⟩ <;> rw [state] at hs <;>
    rw [h]
  · obtain ⟨x, begun, unready⟩ := s.rebuildTable.beginCorrelation_eq
    rw [begun]
    exact ⟨⟨_, x, s.rebuildTable.efu.stats, rfl⟩, fun f hf => (by cases hs.symm.trans hf), fun hr _ => unready hr⟩
  · refine ⟨⟨_, _, { s.rebuildTable.efu.stats with skipped := satAdd s.efu.stats.skipped 1 }, rfl⟩,
      fun g hg => ?_, fun _ hi => (by cases hs.symm.trans hi)⟩
    cases hs.symm.trans hg
    rfl
  · obtain ⟨x, begun, _⟩ := (s.rebuildTable.count fun c =>
      { c with discardedLate := satAdd c.discardedLate 1 }).beginCorrelation_eq
    rw [begun]
    exact ⟨⟨_, x, { s.rebuildTable.efu.stats with discardedLate := satAdd s.efu.stats.discardedLate 1 }, rfl⟩,
      fun g hg => (by cases hs.symm.trans hg), fun _ hi => (by cases hs.symm.trans hi)⟩

/-! ### The start of a boundary -/

/-- The state of a boundary before its later parts. -/
def State.boundaryCore (s : State) : State := (s.closedWindow.applyPending s.freeCount).moveCorrelator

/-- The recordings of a boundary beside the drift mark (R11, R19, R33, R34). -/
def State.notesAtBoundary (s : State) : List Note :=
  boundaryNotes s.active s.sfe s.windowClosed.sfe (s.xcr.state != .idle && !s.pst.geometryPending)

theorem State.closedWindow_sfe (s : State) : s.closedWindow.sfe = s.windowClosed.sfe := by
  obtain ⟨q, c, h⟩ := s.closedWindow_only
  rw [h]

theorem State.boundary_eq (s : State) :
    s.boundary = if s.boundaryCore.completesWithoutPairs then
        s.boundaryCore.finishWithCompletion s.freeCount s.active s.notesAtBoundary
      else s.boundaryCore.finishBoundary s.freeCount s.active s.pst.geometryPending s.notesAtBoundary := by
  rw [State.notesAtBoundary, ← s.closedWindow_sfe]
  rfl

/-- The front end after a boundary: closed, and flushed by a geometry commit (R8 to R15). -/
def State.boundarySfe (s : State) : Sfe :=
  if s.pst.geometryPending then s.windowClosed.sfe.flush.dropTallies s.nextProfile else s.windowClosed.sfe

/-- The start of a boundary, block by block. -/
structure BoundaryStart (s c : State) : Prop where
  power : c.power = s.power
  sfe : c.sfe = s.boundarySfe
  window : c.xcr.windowNumber = s.xcr.windowNumber + 1
  results : c.xcr.results = s.xcr.results
  late : ∀ f, s.pst.geometryPending = false → s.xcr.state = .running f → c.xcr.state ≠ .idle
  idle : s.pst.geometryPending = true → c.xcr.state = .idle
  stk : c.stk = s.stk
  dgd : c.dgd = s.dgd
  fsv : c.fsv = s.fsv.applyCommit s.pst.active s.nextProfile (s.xcr.windowNumber + 1) s.sfe.degraded s.dgd.state
  pls : c.pls = if s.pst.active.pulseBasis = s.nextProfile.pulseBasis
    ∧ s.pst.active.pulseWeight = s.nextProfile.pulseWeight then s.pls else s.pls.unitStart
  pst : c.pst = { s.pst with
    active := s.nextProfile, claim := if s.pst.commitPending then none else s.pst.claim, commitPending := false
    nv := c.pst.nv }
  stored : s.pst.commitPending = true → c.pst.nv.Holds (.profile s.pst.staging.image)
  queued : s.pst.commitPending = true → s.tot.clearPending = false →
    c.pst.nv = s.pst.nv.queue (.profile s.pst.staging.image)
  tot : s.tot.clearPending = false →
    c.tot = if s.pst.active.fs = s.nextProfile.fs then s.tot else s.tot.rescale s.nextProfile.fs
  cleared : s.tot.clearPending = true → c.tot.ClearedOrPending
  faults : c.efu.faults = s.efu.faults
  full : c.efu.full = s.efu.full
  windowsClosed : c.efu.stats.windowsClosed = satAdd s.efu.stats.windowsClosed 1
  substituted : c.efu.stats.substituted = s.efu.stats.substituted
  saturated : c.efu.stats.saturated = s.efu.stats.saturated
  slugsCompleted : c.efu.stats.slugsCompleted = s.efu.stats.slugsCompleted
  posts : PostsWithin [.ringFailed, .ringRestored, .profileApplied, .totalsCleared, .captureDone] s c
  ungraded : s.pst.geometryPending = true → PostsWithin [.profileApplied, .totalsCleared, .captureDone] s c
  graded : ∀ r k, healthEvent (s.sfe.rings.get r).health (s.windowClosed.sfe.rings.get r).health = some k →
    ∀ p, Pends c p k = true
  applied : s.pst.commitPending = true → ∀ p, Pends c p .profileApplied = true
  cap : s.pst.geometryPending = false → CapStands s c
  raw : ∀ r, s.pst.geometryPending = true → s.cap.state = .filling → s.cap.content = some (.raw r) →
    c.cap = { s.cap with
      state := .full, buffer := [], count := 0, empty := true
      header := s.cap.header.map fun h => { h with raw := none, corr := none } }
    ∧ ∀ p, s.cap.owner = some p → Pends c p .captureDone = true

theorem Sfe.settleClock_degraded (f : Sfe) : f.settleClock.degraded = f.degraded := by
  unfold Sfe.settleClock
  split <;> rfl

theorem State.windowClosed_degraded (s : State) : s.windowClosed.sfe.degraded = s.sfe.degraded :=
  Sfe.settleClock_degraded _

theorem State.boundaryCore_start (s : State) : BoundaryStart s s.boundaryCore := by
  have closing := s.closedWindow_within
  have stands := s.closedWindow_capStands
  have ungraded := s.closedWindow_geometry
  have degraded := s.windowClosed_degraded
  have graded (r : Ring) (k : EventKind)
      (h : healthEvent (s.sfe.rings.get r).health (s.windowClosed.sfe.rings.get r).health = some k) (p : Port) :
      Pends s.closedWindow p k = true := s.windowClosed.postHealth_pends s.sfe.rings r k h p
  have pendingApplied := s.closedWindow.applyPending_applied s.freeCount
  obtain ⟨q, u, closed⟩ := s.closedWindow_only
  have moved := (s.closedWindow.applyPending s.freeCount).moveCorrelator_moved
  show BoundaryStart s (s.closedWindow.applyPending s.freeCount).moveCorrelator
  generalize s.closedWindow = v at *
  have store : v.pst = s.pst := by rw [closed]; rfl
  have front : v.sfe = s.windowClosed.sfe := by rw [closed]
  have correlator : v.xcr = { s.xcr with windowNumber := s.xcr.windowNumber + 1 } := by rw [closed]; rfl
  have others : v.power = s.power ∧ v.stk = s.stk ∧ v.dgd = s.dgd ∧ v.fsv = s.fsv ∧ v.pls = s.pls
      ∧ v.tot = s.tot := by rw [closed]; exact ⟨rfl, rfl, rfl, rfl, rfl, rfl⟩
  have reports : v.efu.faults = s.efu.faults ∧ v.efu.full = s.efu.full
      ∧ v.efu.stats = s.windowClosed.efu.stats := by rw [closed]; exact ⟨rfl, rfl, rfl⟩
  have next : v.nextProfile = s.nextProfile := by simp only [State.nextProfile, store]
  clear closed
  obtain ⟨sp, sk, sd, sf, sl, st⟩ := others
  obtain ⟨rf, rb, rs⟩ := reports
  generalize v.applyPending s.freeCount = a at *
  generalize a.moveCorrelator = c at *
  obtain ⟨power, sfe, xcr, stk, dgd, fsv, pls, pst, stored, queued, tot, cleared, faults, full, stats, posts,
    applied, cap, raw⟩ := pendingApplied
  rw [sp] at power
  rw [store, front, next] at sfe
  rw [store, correlator] at xcr
  rw [sk] at stk
  rw [sd] at dgd
  rw [store, next, front, degraded, correlator, sf, sd] at fsv
  rw [store, next, sl] at pls
  rw [store, next] at pst
  rw [store] at stored queued applied cap raw
  rw [st] at queued cleared
  rw [st, store, next] at tot
  rw [rf] at faults
  rw [rb] at full
  rw [rs] at stats
  obtain ⟨⟨table, state, d, blocks⟩, late, unready⟩ := moved
  have ported (kinds : List EventKind) : PostsWithin kinds a c := .of_ports (by rw [blocks])
  constructor
  case power => rw [blocks]; exact power
  case sfe => rw [blocks]; exact sfe
  case window => rw [blocks]; show a.xcr.windowNumber = _; rw [xcr]; split <;> rfl
  case results => rw [blocks]; show a.xcr.results = _; rw [xcr]; split <;> rfl
  case late =>
    intro f hg hf hi
    rw [if_neg (by simp [hg])] at xcr
    refine absurd ((late f ?_).symm.trans hi) (by simp)
    rw [xcr]
    exact hf
  case idle =>
    intro hg
    rw [hg, if_pos rfl] at xcr sfe
    refine unready ?_ ?_
    · rw [sfe]
      rfl
    · rw [xcr]
  case stk => rw [blocks]; exact stk
  case dgd => rw [blocks]; exact dgd
  case fsv => rw [blocks]; exact fsv
  case pls => rw [blocks]; exact pls
  case pst => rw [blocks]; exact pst
  case stored => rw [blocks]; exact stored
  case queued => rw [blocks]; exact queued
  case tot => rw [blocks]; exact tot
  case cleared => rw [blocks]; exact cleared
  case faults => rw [blocks]; exact faults
  case full => rw [blocks]; exact full
  case windowsClosed => rw [blocks]; show a.efu.stats.windowsClosed = _; rw [stats]; rfl
  case substituted => rw [blocks]; show a.efu.stats.substituted = _; rw [stats]; rfl
  case saturated => rw [blocks]; show a.efu.stats.saturated = _; rw [stats]; rfl
  case slugsCompleted => rw [blocks]; show a.efu.stats.slugsCompleted = _; rw [stats]; rfl
  case posts => exact ((closing.mono (by decide)).trans (posts.mono (by decide))).trans (ported _)
  case ungraded =>
    intro hg
    have quiet : PostsWithin [.profileApplied, .totalsCleared, .captureDone] s v :=
      .of_ports (by rw [ungraded hg]; rfl)
    exact (quiet.trans posts).trans (ported _)
  case graded => exact fun r k h p => (ported []).grows p k (posts.grows p k (graded r k h p))
  case applied => exact fun h p => (ported []).grows p _ (applied h p)
  case cap =>
    intro hg
    exact stands.trans (.of_cap (by rw [blocks]; exact cap hg))
  case raw =>
    intro r hg hs hc
    have same : v.cap = s.cap := stands (by rw [hs]; decide)
    rw [same] at raw
    obtain ⟨full, done⟩ := raw r hg hs hc
    exact ⟨by rw [blocks]; exact full, fun p hp => (ported []).grows p _ (done p hp)⟩

end Sys2Proof.Machine
end

section
/-!
SUPPORT. The later parts of a boundary: what the tracker's work, a clear, the recordings and a completion
without pairs leave to the reports, in whatever order they come.
-/

namespace Sys2Proof.Machine

open Sys2Proof.Claim

/-! ### What each later part leaves -/

/-- A RAW capture that is being filled is left alone. -/
def RawStands (s t : State) : Prop :=
  s.cap.state = .filling → ∀ r, s.cap.content = some (.raw r) → t.cap = s.cap

theorem CapStands.raw {s t : State} (h : CapStands s t) : RawStands s t := fun hs _ _ =>
  h (by rw [hs]; decide)

theorem RawStands.trans {s t u : State} (h : RawStands s t) (g : RawStands t u) : RawStands s u := by
  intro hs r hc
  have ht := h hs r hc
  rw [g (by rw [ht]; exact hs) r (by rw [ht]; exact hc), ht]

/-- A queued write of the profile region stays queued (R145). -/
def KeepsWrite (s t : State) : Prop :=
  ∀ x, s.pst.nv.Holds (.profile x) → t.pst.nv.Holds (.profile x)

theorem KeepsWrite.of_nv {s t : State} (h : t.pst.nv = s.pst.nv) : KeepsWrite s t := fun x hx => by rwa [h]

theorem KeepsWrite.of_checkpoint {s t : State} (c : Checkpoint) (h : t.pst.nv = s.pst.nv.queue (.totals c)) :
    KeepsWrite s t := fun x hx => by
  rw [h]
  exact hx.queue (.totals c) (by simp [NvJob.region])

theorem KeepsWrite.trans {s t u : State} (h : KeepsWrite s t) (g : KeepsWrite t u) : KeepsWrite s u :=
  fun x hx => g x (h x hx)

/-- A later part of a boundary that does not record under a key. -/
structure Passes (key : FaultKey) (s t : State) : Prop where
  steady : Steady s t
  keeps : KeepsKey key s t
  raw : RawStands s t
  write : KeepsWrite s t
  window : t.xcr.windowNumber = s.xcr.windowNumber

theorem Passes.refl (key : FaultKey) (s : State) : Passes key s s :=
  ⟨.refl s, .refl key s, (CapStands.refl s).raw, .of_nv rfl, rfl⟩

theorem Passes.trans {key : FaultKey} {s t u : State} (h : Passes key s t) (g : Passes key t u) :
    Passes key s u :=
  ⟨h.steady.trans g.steady, h.keeps.trans g.keeps, h.raw.trans g.raw, h.write.trans g.write,
    g.window.trans h.window⟩

theorem State.trackerBoundary_steady (changed : Bool) (s : State) : Steady s (s.trackerBoundary changed) := by
  obtain ⟨_, ports, faults, full, _, stats⟩ := s.trackerBoundary_after_sort changed
  refine (s.sortTable_work changed).steady.trans ⟨.of_ports ports, ?_, .of_same faults full fun _ => by rw [Pends, ports]⟩
  rw [stats]
  exact ⟨rfl, rfl, rfl, rfl, rfl, rfl⟩

theorem State.trackerGeometry_passes (old : Profile) (key : FaultKey) (s : State) :
    Passes key s (s.trackerGeometry old) :=
  ⟨.of_efu rfl, .of_faults rfl, (CapStands.of_cap rfl).raw, .of_nv rfl, rfl⟩

theorem State.trackerWork_passes (old : Profile) (geometry : Bool) (key : FaultKey) (s : State) :
    Passes key s (s.trackerWork old geometry) := by
  have boundary (changed : Bool) : Passes key s (s.trackerBoundary changed) := by
    obtain ⟨_, _, faults, _, cap, _⟩ := s.trackerBoundary_after_sort changed
    have work := s.sortTable_work changed
    have same : (s.trackerBoundary changed).pst = s.pst ∧ (s.trackerBoundary changed).xcr = s.xcr := by
      obtain ⟨_, _, _, h⟩ := s.trackerBoundary_onlyTracks changed
      rw [h]
      exact ⟨rfl, rfl⟩
    exact ⟨s.trackerBoundary_steady changed, .of_faults (faults.trans work.faults),
      (work.cap.trans (.of_cap cap)).raw, .of_nv (by rw [same.1]), by rw [same.2]⟩
  unfold State.trackerWork
  simp only
  split
  · exact (boundary _).trans (State.trackerGeometry_passes old key _)
  · exact boundary _

theorem State.applyClearIfPending_write (s : State) : KeepsWrite s s.applyClearIfPending := by
  unfold State.applyClearIfPending
  split
  · exact .of_checkpoint _ (by rw [State.applyClear_eq])
  · exact .of_nv rfl

theorem State.applyClearIfPending_passes (key : FaultKey) (s : State) : Passes key s s.applyClearIfPending :=
  ⟨s.applyClearIfPending_steady, .of_faults s.applyClearIfPending_faults,
    (CapStands.of_cap s.applyClearIfPending_cap).raw, s.applyClearIfPending_write,
    by rw [s.applyClearIfPending_eq]⟩

theorem State.takeNotes_write (n : Nat) (l : List Note) (s : State) : KeepsWrite s (s.takeNotes n l) := by
  obtain ⟨e, c, h⟩ := s.takeNotes_onlyReports n l
  exact .of_nv (by rw [h])

theorem State.takeNotes_passes (n : Nat) (l : List Note) (key : FaultKey) (s : State) (hk : key ∉ l.map (·.1)) :
    Passes key s (s.takeNotes n l) := by
  refine ⟨s.takeNotes_steady n l, s.takeNotes_keepsKey n key l hk, (CapStands.of_cap (s.takeNotes_cap n l)).raw,
    s.takeNotes_write n l, ?_⟩
  obtain ⟨e, c, h⟩ := s.takeNotes_onlyReports n l
  rw [h]

/-- A completion without pairs records at most a pulse overrun (R121). -/
theorem State.completeWithoutPairs_passes (key : FaultKey) (s : State) (hk : key ≠ overrunKey) :
    Passes key s s.completeWithoutPairs := by
  have eq : s.completeWithoutPairs = (s.completed none s.xcr.windowNumber (PerSlot.fill none)).publish
    s.xcr.windowNumber (PerSlot.fill none) := rfl
  have copied := s.completed_steady none s.xcr.windowNumber (PerSlot.fill none)
  have kept := s.completed_eq none s.xcr.windowNumber (PerSlot.fill none)
  rw [eq]
  refine ⟨copied.trans (State.publish_steady _ _ _), ?_, ?_, ?_, ?_⟩
  · exact KeepsKey.trans (.of_faults (by rw [kept])) (State.publish_keepsKey _ _ key _ hk)
  · refine RawStands.trans (fun _ r hc => ?_) (State.publish_capStands _ _ _).raw
    show (State.captureCompletion none (s.publishResults _ _)).cap = s.cap
    rw [State.captureCompletion_of_raw none (s.publishResults s.xcr.windowNumber (PerSlot.fill none)) r hc]
    rfl
  · intro x hx
    rw [State.publish_pst, State.completed_pst, Pst.published]
    split
    · exact hx.queue (.totals _) (by simp [NvJob.region])
    · exact hx
  · rw [State.publish_xcr, State.completed_xcr]

/-! ### The recordings in the order of a boundary -/

/-- A recording that a boundary with a completion takes before the publication (R160). -/
def Note.early (n : Nat) (x : Note) : Bool := x.2.isNone || Config.reportBeforePublication n x.1

/-- The key of the drift mark's report. -/
def driftKey : FaultKey := ⟨.carrier, .carrierDrift⟩

/-- What may come before the publication of a completion without pairs (assumption 9). -/
def State.beforePublication (n : Nat) (old : Profile) (s : State) : State :=
  let t := if Config.takenFirst .trackerBeforePublication n then s.trackerWork old false else s
  if Config.takenFirst .clearBeforePublication n then t.applyClearIfPending else t

/-- The publication and what is then still to be done. -/
def State.publicationOn (n : Nat) (old : Profile) (s : State) : State :=
  let t := s.completeWithoutPairs
  (if Config.takenFirst .trackerBeforePublication n then t else t.trackerWork old false).applyClearIfPending

/-- The state of a boundary with a completion when its publication begins. -/
def State.earlyNoted (n : Nat) (old : Profile) (notes : List Note) (s : State) : State :=
  let u := s.beforePublication n old
  u.takeNotes n ((u.driftNote :: notes).filter (Note.early n))

/-- A boundary with a completion takes its recordings in two parts. -/
theorem State.finishWithCompletion_eq (n : Nat) (old : Profile) (notes : List Note) (s : State) :
    s.finishWithCompletion n old notes
      = let v := (s.earlyNoted n old notes).publicationOn n old
        v.takeNotes n ((v.driftNote :: notes).filter fun x => !Note.early n x) := rfl

theorem State.beforePublication_passes (n : Nat) (old : Profile) (key : FaultKey) (s : State) :
    Passes key s (s.beforePublication n old) := by
  have tracked : Passes key s
      (if Config.takenFirst .trackerBeforePublication n then s.trackerWork old false else s) := by
    split
    · exact s.trackerWork_passes old false key
    · exact .refl key s
  unfold State.beforePublication
  simp only
  split
  · exact tracked.trans (State.applyClearIfPending_passes key _)
  · exact tracked

theorem State.beforePublication_fsv (n : Nat) (old : Profile) (s : State) :
    (s.beforePublication n old).fsv = s.fsv := by
  have tracked : (if Config.takenFirst .trackerBeforePublication n then s.trackerWork old false else s).fsv
      = s.fsv := by
    split
    · obtain ⟨_, _, _, h⟩ := s.trackerWork_onlyTracks old false
      rw [h]
    · rfl
  unfold State.beforePublication
  simp only
  split
  · rw [State.applyClearIfPending_eq]
    exact tracked
  · exact tracked

theorem State.publicationOn_passes (n : Nat) (old : Profile) (key : FaultKey) (s : State) (hk : key ≠ overrunKey) :
    Passes key s (s.publicationOn n old) := by
  have published := s.completeWithoutPairs_passes key hk
  unfold State.publicationOn
  refine Passes.trans ?_ (State.applyClearIfPending_passes key _)
  split
  · exact published
  · exact published.trans (State.trackerWork_passes _ _ key _)

/-- The keys of a boundary's recordings: pairwise distinct, the drift mark's among them, and none of them that of
a pulse overrun. -/
structure DistinctKeys (notes : List Note) : Prop where
  nodup : (driftKey :: notes.map (·.1)).Nodup
  overrun : overrunKey ∉ driftKey :: notes.map (·.1)

theorem DistinctKeys.withDrift {notes : List Note} (h : DistinctKeys notes) (d : Option Bool) :
    (((driftKey, d) :: notes).map (·.1)).Nodup := h.nodup

/-- One recording of a boundary without a completion. -/
theorem State.finishBoundary_takes (n : Nat) (old : Profile) (geometry : Bool) (notes : List Note) (s : State)
    (h : DistinctKeys notes) (x : Note) (hx : x ∈ s.driftNote :: notes) :
    TakesNote s.xcr.windowNumber x s (s.finishBoundary n old geometry notes) := by
  have tracked := (s.trackerWork_passes old geometry x.1).trans
    (State.applyClearIfPending_passes x.1 (s.trackerWork old geometry))
  have drift : (s.trackerWork old geometry).applyClearIfPending.driftNote = s.driftNote := by
    obtain ⟨_, _, _, h⟩ := s.trackerWork_onlyTracks old geometry
    rw [State.driftNote, State.applyClearIfPending_eq, h]
    rfl
  have taken := State.takeNotes_takes n x (s.driftNote :: notes) (s.trackerWork old geometry).applyClearIfPending hx
    (h.withDrift _)
  rw [tracked.window] at taken
  unfold State.finishBoundary
  simp only [drift]
  exact taken.after tracked.keeps

/-- Whether a recording is taken early is told by its key. -/
theorem DistinctKeys.early_eq {notes : List Note} (h : DistinctKeys notes) (n : Nat) (a b : Bool) {x y : Note}
    (hx : x ∈ (driftKey, some a) :: notes) (hy : y ∈ (driftKey, some b) :: notes) (hxy : x.1 = y.1) :
    Note.early n x = Note.early n y := by
  obtain ⟨drift, nodup⟩ := List.nodup_cons.1 h.nodup
  have foreign (z : Note) (hz : z ∈ notes) : z.1 ≠ driftKey := fun hk => drift (hk ▸ List.mem_map_of_mem hz)
  rcases List.mem_cons.1 hx with rfl | hx <;> rcases List.mem_cons.1 hy with rfl | hy
  · rfl
  · exact absurd hxy.symm (foreign y hy)
  · exact absurd hxy (foreign x hx)
  · rw [List.inj_on_of_nodup_map nodup hx hy hxy]

/-- One recording of a boundary with a completion, taken before the publication or after it. -/
theorem State.finishWithCompletion_takes (n : Nat) (old : Profile) (notes : List Note) (s : State)
    (h : DistinctKeys notes) (x : Note) :
    let v := (s.earlyNoted n old notes).publicationOn n old
    (Note.early n x = true → x ∈ s.driftNote :: notes →
      TakesNote s.xcr.windowNumber x s (s.finishWithCompletion n old notes))
    ∧ (Note.early n x = false → x ∈ v.driftNote :: notes →
      TakesNote s.xcr.windowNumber x s (s.finishWithCompletion n old notes)) := by
  intro v
  have before := s.beforePublication_passes n old x.1
  have drift : (s.beforePublication n old).driftNote = s.driftNote := by
    rw [State.driftNote, State.beforePublication_fsv]
    rfl
  have early : s.earlyNoted n old notes
      = (s.beforePublication n old).takeNotes n ((s.driftNote :: notes).filter (Note.early n)) := by
    rw [State.earlyNoted, drift]
  have distinct (a : Bool) (p : Note → Bool) : (((((driftKey, some a) :: notes).filter p).map (·.1))).Nodup :=
    (List.filter_sublist.map _).nodup (h.withDrift _)
  have publication (a : Bool) (hx : x ∈ (driftKey, some a) :: notes) :
      Passes x.1 (s.earlyNoted n old notes) v := by
    refine State.publicationOn_passes n old x.1 _ fun hk => h.overrun (hk ▸ ?_)
    exact List.mem_map_of_mem (f := (·.1)) hx
  rw [State.finishWithCompletion_eq]
  refine ⟨fun he hx => ?_, fun he hx => ?_⟩
  · have taken := State.takeNotes_takes n x ((s.driftNote :: notes).filter (Note.early n))
      (s.beforePublication n old) (List.mem_filter.2 ⟨hx, he⟩) (distinct _ _)
    rw [before.window, ← early] at taken
    have rest := v.takeNotes_passes n ((v.driftNote :: notes).filter fun x => !Note.early n x) x.1 fun hm => by
      obtain ⟨y, hy, hk⟩ := List.mem_map.1 hm
      obtain ⟨hy, hl⟩ := List.mem_filter.1 hy
      rw [← h.early_eq n _ _ hx hy hk.symm, he] at hl
      exact absurd hl (by decide)
    have after := (publication _ hx).trans rest
    exact (taken.then after.keeps after.steady.map).after before.keeps
  · have first := (s.beforePublication n old).takeNotes_passes n ((s.driftNote :: notes).filter (Note.early n)) x.1
      fun hm => by
        obtain ⟨y, hy, hk⟩ := List.mem_map.1 hm
        obtain ⟨hy, hl⟩ := List.mem_filter.1 hy
        rw [h.early_eq n _ _ hy hx hk, he] at hl
        exact absurd hl (by decide)
    rw [← early] at first
    have until_v := (before.trans first).trans (publication _ hx)
    have taken := v.takeNotes_takes n x ((v.driftNote :: notes).filter fun x => !Note.early n x)
      (List.mem_filter.2 ⟨hx, by simp [he]⟩) (distinct _ _)
    rw [until_v.window] at taken
    exact taken.after until_v.keeps

/-! ### The end of a boundary -/

/-- The end of a boundary takes every recording and its drift report, and leaves the rest as every later part
does. -/
structure BoundaryEnd (notes : List Note) (s t : State) : Prop where
  only : OnlyPublishes s t
  steady : Steady s t
  raw : RawStands s t
  write : KeepsWrite s t
  takes : ∀ x ∈ notes, TakesNote s.xcr.windowNumber x s t
  drift : ∃ d, TakesNote s.xcr.windowNumber (driftKey, some d) s t ∧ (d = s.fsv.drift ∨ d = t.fsv.drift)

theorem State.finishBoundary_end (n : Nat) (old : Profile) (geometry : Bool) (notes : List Note) (s : State)
    (h : DistinctKeys notes) : BoundaryEnd notes s (s.finishBoundary n old geometry notes) := by
  have takes := s.finishBoundary_takes n old geometry notes h
  have passed := (s.trackerWork_passes old geometry overrunKey).trans
    (State.applyClearIfPending_passes overrunKey (s.trackerWork old geometry))
  have only := (s.trackerWork_onlyTracks old geometry).onlyPublishes.trans
    (State.applyClearIfPending_onlyPublishes _)
  refine ⟨only.trans (State.takeNotes_onlyReports _ _ _).onlyPublishes,
    passed.steady.trans (State.takeNotes_steady _ _ _),
    passed.raw.trans (CapStands.of_cap (State.takeNotes_cap _ _ _)).raw,
    passed.write.trans (State.takeNotes_write _ _ _), fun x hx => takes x (List.mem_cons_of_mem _ hx), s.fsv.drift, takes _ List.mem_cons_self, .inl rfl⟩

theorem State.finishWithCompletion_end (n : Nat) (old : Profile) (notes : List Note) (s : State)
    (h : DistinctKeys notes) : BoundaryEnd notes s (s.finishWithCompletion n old notes) := by
  have takes := s.finishWithCompletion_takes n old notes h
  have last : (s.finishWithCompletion n old notes).fsv = ((s.earlyNoted n old notes).publicationOn n old).fsv := by
    rw [State.finishWithCompletion_eq]
    obtain ⟨_, _, h⟩ := ((s.earlyNoted n old notes).publicationOn n old).takeNotes_onlyReports n
      ((((s.earlyNoted n old notes).publicationOn n old).driftNote :: notes).filter fun x => !Note.early n x)
    simp only [h]
  have before := s.beforePublication_passes n old driftKey
  have publication := State.publicationOn_passes n old driftKey (s.earlyNoted n old notes) (by decide)
  refine ⟨s.finishWithCompletion_onlyPublishes n old notes, ?_, ?_, ?_, fun x hx => ?_, ?_⟩
  · rw [State.finishWithCompletion_eq]
    exact ((before.steady.trans (State.takeNotes_steady _ _ _)).trans publication.steady).trans
      (State.takeNotes_steady _ _ _)
  · rw [State.finishWithCompletion_eq]
    exact ((before.raw.trans (CapStands.of_cap (State.takeNotes_cap _ _ _)).raw).trans publication.raw).trans
      (CapStands.of_cap (State.takeNotes_cap _ _ _)).raw
  · rw [State.finishWithCompletion_eq]
    exact ((before.write.trans (State.takeNotes_write _ _ _)).trans publication.write).trans
      (State.takeNotes_write _ _ _)
  · cases he : Note.early n x with
    | true => exact (takes x).1 he (List.mem_cons_of_mem _ hx)
    | false => exact (takes x).2 he (List.mem_cons_of_mem _ hx)
  · cases he : Config.reportBeforePublication n driftKey with
    | true => exact ⟨s.fsv.drift, (takes _).1 he List.mem_cons_self, .inl rfl⟩
    | false =>
      refine ⟨((s.earlyNoted n old notes).publicationOn n old).fsv.drift, (takes _).2 he List.mem_cons_self, .inr ?_⟩
      rw [last]

/-! ### The recordings at a boundary -/

/-- The keys of the conditions that a boundary reports beside the drift mark (R11, R19). -/
theorem boundaryNotes_keys (p : Profile) (closing settled : Sfe) (late : Bool) :
    (boundaryNotes p closing settled late).map (·.1)
      = (boundaryNotes Profile.default Sfe.reset Sfe.reset late).map (·.1) := by
  cases late <;> rfl

theorem boundaryNotes_distinct (p : Profile) (closing settled : Sfe) (late : Bool) :
    DistinctKeys (boundaryNotes p closing settled late) := by
  constructor <;> rw [boundaryNotes_keys]
  · cases late <;> decide
  · cases late <;> decide

/-- A boundary without a completion, where none is due, and one with it. -/
theorem State.boundary_cases (s : State) :
    (s.boundaryCore.completesWithoutPairs = false
      ∧ s.boundary = s.boundaryCore.finishBoundary s.freeCount s.active s.pst.geometryPending s.notesAtBoundary)
    ∨ (s.boundaryCore.completesWithoutPairs = true
      ∧ s.boundary = s.boundaryCore.finishWithCompletion s.freeCount s.active s.notesAtBoundary) := by
  rw [State.boundary_eq]
  cases s.boundaryCore.completesWithoutPairs with
  | false => exact .inl ⟨rfl, rfl⟩
  | true => exact .inr ⟨rfl, rfl⟩

theorem State.boundary_end (s : State) : BoundaryEnd s.notesAtBoundary s.boundaryCore s.boundary := by
  have distinct : DistinctKeys s.notesAtBoundary := boundaryNotes_distinct _ _ _ _
  rcases s.boundary_cases with ⟨_, h⟩ | ⟨_, h⟩ <;> rw [h]
  · exact State.finishBoundary_end _ _ _ _ _ distinct
  · exact State.finishWithCompletion_end _ _ _ _ distinct

theorem tableEmpty_iff (t : PerSlot (Option PairEntry)) : tableEmpty t = true ↔ ∀ k, t.get k = none := by
  simp only [tableEmpty, PerSlot.toList, List.all_cons, List.all_nil, Bool.and_true, Bool.and_eq_true,
    Option.isNone_iff_eq_none]
  refine ⟨fun ⟨h0, h1, h2⟩ k => ?_, fun h => ⟨h .s0, h .s1, h .s2⟩⟩
  cases k with
  | s0 => exact h0
  | s1 => exact h1
  | s2 => exact h2

/-- Readiness at a boundary (R10). -/
theorem State.windowClosed_ready (s : State) :
    s.windowClosed.sfe.ready = (s.sfe.ready || decide (Config.historyDepth - s.active.n ≤ s.sfe.fill)) := by
  show (Sfe.settleClock _).ready = _
  unfold Sfe.settleClock
  split <;> rfl

/-- A boundary that gives a completion has a ready history, a table without a pair and no correlation that is
skipped past, and applies no geometry commit (R31, R34). -/
theorem State.completes_iff (s : State) (h : s.boundaryCore.completesWithoutPairs = true) :
    s.pst.geometryPending = false
    ∧ (s.sfe.ready = true ∨ Config.historyDepth - s.active.n ≤ s.sfe.fill)
    ∧ (∀ k, s.boundaryCore.xcr.table.get k = none) ∧ ∀ f, s.xcr.state ≠ .running f := by
  have start := s.boundaryCore_start
  simp only [State.completesWithoutPairs, Bool.and_eq_true, beq_iff_eq] at h
  obtain ⟨⟨ready, empty⟩, idle⟩ := h
  rw [start.sfe, State.boundarySfe] at ready
  have plain : s.pst.geometryPending = false := by
    cases hg : s.pst.geometryPending with
    | false => rfl
    | true => rw [hg, if_pos rfl] at ready; cases ready
  rw [plain, if_neg Bool.false_ne_true] at ready
  refine ⟨plain, ?_, fun k => ?_, fun f hf => start.late f plain hf idle⟩
  · rw [State.windowClosed_ready] at ready
    simpa using ready
  · exact (tableEmpty_iff _).1 empty k

end Sys2Proof.Machine
end

section
/-!
PROOFS. The statements about a frame and its window boundary: what a frame stores (R3 to R8), and how a
boundary grades the rings and reports the conditions (R9 to R13, R160).
-/

namespace Sys2Proof.Machine

open Sys2Proof.Claim

/-! ### A frame stored and tracked -/

/-- The state once a frame is stored and its samples have reached the detectors (R5, R48). -/
def State.framed (fr : Frame) (s : State) : State := (s.storeFrame fr).trackFrame

/-- What a frame changes: the front end, the tracker, and of the reports the departures and the counters of
samples and slugs. -/
structure FrameWork (fr : Frame) (s u : State) : Prop where
  blocks : OnlyTracks (s.setSfe (s.sfe.store s.active fr)) u
  faults : u.efu.faults = s.efu.faults
  full : u.efu.full = s.efu.full
  posts : PostsWithin [.slugDeparted, .captureDone] s u
  cap : CapStands s u
  windowsClosed : u.efu.stats.windowsClosed = s.efu.stats.windowsClosed
  substituted : u.efu.stats.substituted = (s.efu.stats.countFrame s.active fr).substituted
  saturated : u.efu.stats.saturated = (s.efu.stats.countFrame s.active fr).saturated
  departs : DepartsCounted s u

theorem State.framed_work (fr : Frame) (s : State) : FrameWork fr s (s.framed fr) := by
  have stored : OnlyTracks (s.setSfe (s.sfe.store s.active fr)) (s.storeFrame fr) := ⟨s.stk, _, s.cap, rfl⟩
  obtain ⟨blocks, faults, full, posts, cap, ⟨closed, _, _, _, substituted, saturated⟩, _, departs⟩ :=
    (s.storeFrame fr).trackFrame_work
  exact ⟨stored.trans blocks, faults, full, posts.after rfl, cap.after rfl, closed, substituted, saturated,
    DepartsCounted.trans (.of_same rfl rfl) departs⟩

theorem State.framed_eq (fr : Frame) (s : State) : s.framed fr = { s with
    sfe := s.sfe.store s.active fr
    stk := (s.framed fr).stk, efu := (s.framed fr).efu, cap := (s.framed fr).cap } := by
  obtain ⟨k, e, c, h⟩ := (s.framed_work fr).blocks
  rw [h]
  rfl

@[simp] theorem State.framed_sfe (fr : Frame) (s : State) : (s.framed fr).sfe = s.sfe.store s.active fr := by
  rw [State.framed_eq]

@[simp] theorem State.framed_pst (fr : Frame) (s : State) : (s.framed fr).pst = s.pst := by
  rw [State.framed_eq]

@[simp] theorem State.framed_active (fr : Frame) (s : State) : (s.framed fr).active = s.active := by
  rw [State.framed_eq]
  rfl

@[simp] theorem State.framed_xcr (fr : Frame) (s : State) : (s.framed fr).xcr = s.xcr := by
  rw [State.framed_eq]

/-- A frame that does not close the window (R8). -/
theorem exec_replyDeadline_inside (fr : Frame) (s : State) (h : FrameOpen fr s)
    (hw : s.sfe.windowPos + 1 ≠ s.pst.active.n) : exec .replyDeadline s = .next (s.framed fr) := by
  rw [exec_replyDeadline fr s h, State.closeFrame]
  refine congrArg Host.Outcome.next (if_neg ?_)
  show ¬ (s.framed fr).sfe.windowPos = (s.framed fr).active.n
  rw [State.framed_sfe, State.framed_active]
  exact hw

/-- A frame that closes it (R8). -/
theorem exec_replyDeadline_boundary (fr : Frame) (s : State) (h : AtBoundary fr s) :
    exec .replyDeadline s = .next (s.framed fr).boundary := by
  rw [exec_replyDeadline fr s h.1, State.closeFrame]
  refine congrArg Host.Outcome.next (if_pos ?_)
  show (s.framed fr).sfe.windowPos = (s.framed fr).active.n
  rw [State.framed_sfe, State.framed_active]
  exact h.2

/-! ### One ring's sample (R3 to R7) -/

theorem RingSense.codeFor_eq (x : RingSense) (reply : Option Reply) : x.codeFor reply = usedCode x reply := by
  unfold RingSense.codeFor usedCode
  rcases reply with _ | _ | _ <;> rfl

theorem isSubstituted_iff (reply : Option Reply) : isSubstituted reply = true ↔ Substituted reply := by
  rcases reply with _ | c | _ <;> simp [isSubstituted, Substituted]

theorem isSaturatedReply_iff (reply : Option Reply) : isSaturatedReply reply = true ↔ Saturated reply := by
  rcases reply with _ | c | _ <;> simp [isSaturatedReply, Saturated]

/-- The running mean of a seeded ring does not leave the range of the codes, so no step of it is cut (R4). -/
theorem meanStep_eq (shift mean c : Nat) :
    ((meanStep shift mean c : Nat) : Int) = mean + (256 * (c : Int) - mean) / 2 ^ shift := by
  have positive : (0 : Int) < 2 ^ shift := by positivity
  have bound : -(mean : Int) ≤ (256 * (c : Int) - mean) / 2 ^ shift := by
    rw [Int.le_ediv_iff_mul_le positive]
    nlinarith [positive, Int.natCast_nonneg mean, Int.natCast_nonneg c]
  rw [meanStep, Int.toNat_of_nonneg (by omega)]

theorem RingSense.meanAfter_eq (p : Profile) (reply : Option Reply) (x : RingSense) :
    ((x.meanAfter p.meanShift reply : Nat) : Int) = newMean p reply x := by
  unfold RingSense.meanAfter newMean
  rw [RingSense.codeFor_eq]
  split
  · exact meanStep_eq _ _ _
  · push_cast
    rfl

theorem detrend_eq (p : Profile) (reply : Option Reply) (x : RingSense) :
    detrend (x.meanAfter p.meanShift reply) (x.codeFor reply) = newSample p reply x := by
  unfold detrend newSample clampInt meanCode
  rw [RingSense.codeFor_eq, ← RingSense.meanAfter_eq]
  push_cast
  rfl

/-- The history read by index after a frame that follows the last one (R6). -/
theorem histAt_store (last index i : Index) (d : Int) (hist : List Int) (h : index = last + 1) :
    histAt index (d :: hist.take 2047) i
      = if i = index then d
        else if (index - i).toNat < 2048 then histAt last hist i
        else 0 := by
  subst h
  unfold histAt
  by_cases hi : i = last + 1
  · rw [if_pos hi, hi]
    simp
  · have next : (last + 1 - i).toNat = (last - i).toNat + 1 := by bv_omega
    rw [if_neg hi, next, List.getD_cons_succ, List.getD_eq_getElem?_getD, List.getElem?_take,
      List.getD_eq_getElem?_getD]
    by_cases hk : (last - i).toNat < 2047
    · rw [if_pos hk, if_pos (by omega)]
    · rw [if_neg hk, if_neg (by omega)]
      rfl

/-- What a configured ring stores (R3 to R6). -/
theorem RingSense.store_stored (p : Profile) (reply : Option Reply) (index last : Index) (x : RingSense) :
    Stored p reply index last x (x.store p.meanShift reply) := by
  have sample : (x.store p.meanShift reply).hist = newSample p reply x :: x.hist.take 2047 := by
    rw [← detrend_eq]
    rfl
  refine ⟨x.codeFor_eq reply, x.meanAfter_eq p reply, rfl, sample, fun h i => ?_⟩
  rw [sample]
  exact histAt_store last index i _ _ h

/-- The tallies with the last reply counted (R7). -/
theorem RingSense.store_tallied (p : Profile) (reply : Option Reply) (x : RingSense) :
    Tallied p reply x (x.store p.meanShift reply).tally := by
  unfold Tallied
  rw [← detrend_eq, ← isSubstituted_iff, ← isSaturatedReply_iff]
  simp only [RingSense.store]
  exact ⟨fun h => by rw [if_pos h], fun h => by rw [if_neg h, Nat.add_zero], fun h => by rw [if_pos h],
    fun h => by rw [if_neg h, Nat.add_zero], trivial⟩

/-- The sample counters of a ring after a frame (R3, R164). -/
theorem Stats.countFrame_ring (p : Profile) (fr : Frame) (c d : Stats) (r : Ring)
    (hs : d.substituted = (c.countFrame p fr).substituted) (ht : d.saturated = (c.countFrame p fr).saturated) :
    (isConfigured p r = true → SampleCounted r (fr.replies.get r) c d)
    ∧ (isConfigured p r = false →
      d.substituted.get r = c.substituted.get r ∧ d.saturated.get r = c.saturated.get r) := by
  unfold SampleCounted
  rw [hs, ht, ← isSubstituted_iff, ← isSaturatedReply_iff, plus_eq_satAdd, plus_eq_satAdd]
  simp only [Stats.countFrame, PerRing.get_map]
  refine ⟨fun hc => ?_, fun hc => by simp [hc]⟩
  simp only [hc, Bool.true_and]
  exact ⟨fun h => if_pos h, fun h => if_neg h, fun h => if_pos h, fun h => if_neg h⟩

/-- The rings after a stored frame. -/
theorem Sfe.store_ring (p : Profile) (fr : Frame) (f : Sfe) (r : Ring) :
    (f.store p fr).rings.get r
      = if isConfigured p r then (f.rings.get r).store p.meanShift (fr.replies.get r) else f.rings.get r := by
  simp only [Sfe.store, PerRing.get_map]

end Sys2Proof.Machine
end

section
/-!
PROOFS. The statement about the grading of the rings and the reports at a boundary (R8 to R13, R19, R160).
-/

namespace Sys2Proof.Machine

open Sys2Proof.Claim

/-! ### Grades (R11, R12) -/

theorem Tally.isBad_iff (n floor : Nat) (t : Tally) :
    t.isBad n floor = true ↔ n / 16 < t.saturated ∨ n / 16 < t.missing ∨ t.energy < floor * n := by
  simp [Tally.isBad, Tally.isSaturated, Tally.isMissing, Tally.isFlat, or_assoc]

/-- A grade moves health and runs by the table of R12. -/
theorem RingSense.grade_moves (x : RingSense) (b : Bool) (bad : Prop) (hb : b = true ↔ bad) :
    HealthMoves bad x (x.grade b) := by
  unfold HealthMoves RingSense.grade
  rw [← hb]
  cases hx : x.health with
  | healthy => cases b <;> simp
  | suspect =>
    by_cases failing : 3 ≤ x.badRun + 1 <;> by_cases recovering : 4 ≤ x.goodRun + 1 <;> cases b <;>
      simp [failing, recovering]
  | failed => by_cases recovering : 4 ≤ x.goodRun + 1 <;> cases b <;> simp [recovering]

theorem RingSense.grade_tally (x : RingSense) (b : Bool) : (x.grade b).tally = x.tally := by
  unfold RingSense.grade
  split <;> (try split) <;> rfl

/-- The events of a grade's moves (R12). -/
theorem healthEvent_failed (x y : Health) (hx : x = .suspect) (hy : y = .failed) :
    healthEvent x y = some .ringFailed := by
  subst hx hy
  rfl

theorem healthEvent_restored (x y : Health) (hx : x = .failed) (hy : y = .healthy) :
    healthEvent x y = some .ringRestored := by
  subst hx hy
  rfl

/-! ### The front end at a boundary -/

/-- A boundary that applies no geometry commit (R143). -/
theorem closes_plain (fr : Frame) (s : State) (h : Closes fr s) : s.pst.geometryPending = false := by
  rw [Pst.geometryPending, Bool.eq_false_iff, ne_eq, Bool.and_eq_true, isGeometry_iff]
  rintro ⟨pending, changed⟩
  obtain ⟨fs, n, rings⟩ := h.2 pending
  rw [fs, n, rings] at changed
  simp at changed

/-- A ring at the end of its window (R7, R11, R15). -/
theorem State.windowClosed_ring (s : State) (r : Ring) :
    s.windowClosed.sfe.rings.get r
      = if isConfigured s.active r then
          (if s.pst.geometryPending then s.sfe.rings.get r
            else (s.sfe.rings.get r).grade ((s.sfe.rings.get r).tally.isBad s.active.n s.active.flatFloor)).closeTally
        else s.sfe.rings.get r := by
  show (Sfe.settleClock _).rings.get r = _
  rw [Sfe.settleClock_rings]
  simp only [Sfe.closeWindow, PerRing.get_map]

theorem State.windowClosed_windowPos (s : State) : s.windowClosed.sfe.windowPos = 0 := by
  show (Sfe.settleClock _).windowPos = 0
  unfold Sfe.settleClock
  split <;> rfl

/-- The clock source after 1,024 ms of stable crystal, and otherwise (R19). -/
theorem State.windowClosed_clock (s : State) :
    (s.sfe.clock = .fallback → s.sfe.stable = 1024 →
      s.windowClosed.sfe.clock = .crystal ∧ s.windowClosed.sfe.stable = 0)
    ∧ (s.sfe.clock = .crystal ∨ s.sfe.stable ≠ 1024 →
      s.windowClosed.sfe.clock = s.sfe.clock ∧ s.windowClosed.sfe.stable = s.sfe.stable) := by
  show (_ → _ → (Sfe.settleClock _).clock = _ ∧ (Sfe.settleClock _).stable = _)
    ∧ (_ → (Sfe.settleClock _).clock = _ ∧ (Sfe.settleClock _).stable = _)
  have ms : Config.stableMs = 1024 := rfl
  unfold Sfe.settleClock
  simp only [Sfe.closeWindow, ms]
  refine ⟨fun hc hm => by simp [hc, hm], fun h => ?_⟩
  rw [if_neg]
  · exact ⟨rfl, rfl⟩
  · rintro ⟨hc, hm⟩
    rcases h with h | h
    · exact absurd (h.symm.trans hc) (by decide)
    · exact h hm

/-- The front end after a boundary is that of its start, but for the degraded mark a publication takes (R20). -/
theorem State.boundary_sfe (s : State) :
    s.boundary.sfe = { s.boundarySfe with degraded := s.boundary.sfe.degraded } := by
  obtain ⟨_, _, front, _⟩ := s.boundary_end.only
  rw [← s.boundaryCore_start.sfe]
  exact front

theorem State.boundary_front (s : State) :
    s.boundary.sfe.nextIndex = s.boundarySfe.nextIndex ∧ s.boundary.sfe.lastIndex = s.boundarySfe.lastIndex
    ∧ s.boundary.sfe.windowPos = s.boundarySfe.windowPos ∧ s.boundary.sfe.fill = s.boundarySfe.fill
    ∧ s.boundary.sfe.ready = s.boundarySfe.ready ∧ s.boundary.sfe.rings = s.boundarySfe.rings
    ∧ s.boundary.sfe.clock = s.boundarySfe.clock ∧ s.boundary.sfe.stable = s.boundarySfe.stable
    ∧ s.boundary.sfe.frame = s.boundarySfe.frame := by
  rw [State.boundary_sfe]
  exact ⟨rfl, rfl, rfl, rfl, rfl, rfl, rfl, rfl, rfl⟩

theorem State.boundary_window (s : State) : s.boundary.xcr.windowNumber = s.xcr.windowNumber + 1 := by
  obtain ⟨_, window, _⟩ := s.boundary_end.only
  exact window.trans s.boundaryCore_start.window

theorem State.boundary_active (s : State) : s.boundary.pst.active = s.nextProfile := by
  obtain ⟨_, _, _, store, _⟩ := s.boundary_end.only
  rw [store, s.boundaryCore_start.pst]

/-- A boundary that applies no geometry commit leaves the front end as the window closed it. -/
theorem State.boundarySfe_plain (s : State) (h : s.pst.geometryPending = false) :
    s.boundarySfe = s.windowClosed.sfe := by
  rw [State.boundarySfe, h, if_neg Bool.false_ne_true]

theorem State.boundary_ring (s : State) (r : Ring) :
    s.boundary.sfe.rings.get r = s.boundarySfe.rings.get r := by
  obtain ⟨_, _, _, _, _, rings, _⟩ := s.boundary_front
  rw [rings]

theorem State.boundarySfe_clock (s : State) : s.boundarySfe.clock = s.windowClosed.sfe.clock := by
  unfold State.boundarySfe
  split <;> rfl

/-- The tallies of a configured ring after a boundary: those of the closing window, dropped for a ring that a
geometry commit leaves out (R7, R15). -/
theorem State.boundarySfe_tallies (s : State) (r : Ring) (hr : isConfigured s.active r = true) :
    (s.boundarySfe.rings.get r).tally = Tally.zero
    ∧ (s.boundarySfe.rings.get r).closed
      = if s.pst.geometryPending && !isConfigured s.nextProfile r then Tally.zero
        else (s.sfe.rings.get r).tally := by
  have ring := s.windowClosed_ring r
  rw [if_pos hr] at ring
  have closed : (s.windowClosed.sfe.rings.get r).tally = Tally.zero
      ∧ (s.windowClosed.sfe.rings.get r).closed = (s.sfe.rings.get r).tally := by
    rw [ring]
    refine ⟨rfl, ?_⟩
    simp only [RingSense.closeTally]
    split
    · rfl
    · exact RingSense.grade_tally _ _
  unfold State.boundarySfe
  cases s.pst.geometryPending with
  | false => exact closed
  | true =>
    simp only [if_true, Sfe.dropTallies, Sfe.flush, PerRing.get_map, Bool.true_and]
    cases isConfigured s.nextProfile r with
    | true => exact ⟨rfl, closed.2⟩
    | false => exact ⟨rfl, rfl⟩

/-- A ring that is left out by the commit of a boundary is left out by a geometry commit (R143). -/
theorem State.geometry_of_left_out (s : State) (r : Ring) (hr : isConfigured s.active r = true)
    (hn : isConfigured s.nextProfile r = false) : s.pst.geometryPending = true := by
  have changed : s.nextProfile.ringCount ≠ s.active.ringCount := by
    intro same
    rw [isConfigured, same, ← isConfigured, hr] at hn
    cases hn
  cases hc : s.pst.commitPending with
  | false => simp [State.nextProfile, hc, State.active] at changed
  | true =>
    rw [State.nextProfile, hc, if_pos rfl] at changed
    rw [Pst.geometryPending, hc, Bool.true_and, isGeometry_iff]
    exact .inr (.inr (Ne.symm changed))

/-! ### The reports at a boundary -/

/-- The three reports of a ring are among the recordings (R11). -/
theorem ringReports_mem (p : Profile) (closing settled : Sfe) (late : Bool) (r : Ring) (x : FaultKey × Bool)
    (hx : x ∈ ringReports p closing r) : (x.1, some x.2) ∈ boundaryNotes p closing settled late := by
  refine List.mem_append_left _ (List.mem_append_left _ (List.mem_map.2 ⟨x, ?_, rfl⟩))
  exact List.mem_flatMap.2 ⟨r, Ring.mem_all r, hx⟩

theorem clockReport_mem (p : Profile) (closing settled : Sfe) (late : Bool) :
    ((⟨.clock, .clockFallback⟩, some (settled.clock == .fallback)) : Note)
      ∈ boundaryNotes p closing settled late :=
  List.mem_append_left _ (List.mem_append_right _ (List.mem_singleton_self _))

/-- What the recordings see between the frame and the boundary's later parts: no entry has changed. -/
theorem State.framed_core_keeps (fr : Frame) (s : State) (key : FaultKey) :
    KeepsKey key s (s.framed fr).boundaryCore :=
  .of_faults ((s.framed fr).boundaryCore_start.faults.trans (s.framed_work fr).faults)

theorem State.framed_core_window (fr : Frame) (s : State) :
    (s.framed fr).boundaryCore.xcr.windowNumber = s.xcr.windowNumber + 1 := by
  rw [(s.framed fr).boundaryCore_start.window, State.framed_xcr]

/-- A report of a boundary reaches the fault map (R160). -/
theorem State.framed_boundary_reported (fr : Frame) (s : State) (key : FaultKey) (holds : Bool)
    (h : (key, some holds) ∈ (s.framed fr).notesAtBoundary) :
    Reported key (holds = true) s (s.framed fr).boundary := by
  have taken := (s.framed fr).boundary_end.takes _ h
  rw [State.framed_core_window] at taken
  exact (taken.after (s.framed_core_keeps fr key)).reported

/-- The three reports of a ring, judged by the tallies of its window (R11). -/
theorem State.framed_boundary_ring (fr : Frame) (s : State) (r : Ring) :
    let on := isConfigured s.active r
    let z := ((s.sfe.store s.active fr).rings.get r).tally
    let t := (s.framed fr).boundary
    Reported ⟨.ring r, .sampleSaturated⟩ (on = true ∧ s.active.n / 16 < z.saturated) s t
    ∧ Reported ⟨.ring r, .sampleMissing⟩ (on = true ∧ s.active.n / 16 < z.missing) s t
    ∧ Reported ⟨.ring r, .signalFlat⟩ (on = true ∧ z.energy < s.active.flatFloor * s.active.n) s t := by
  intro on z t
  have report (x : FaultKey × Bool) (hx : x ∈ ringReports s.active (s.sfe.store s.active fr) r) :
      Reported x.1 (x.2 = true) s t := by
    refine s.framed_boundary_reported fr x.1 x.2 (ringReports_mem _ _ _ _ r x ?_)
    rwa [State.framed_active, State.framed_sfe]
  refine ⟨Reported.congr (report (_, on && z.isSaturated s.active.n) (by simp [ringReports, on, z])) ?_,
    Reported.congr (report (_, on && z.isMissing s.active.n) (by simp [ringReports, on, z])) ?_,
    Reported.congr (report (_, on && z.isFlat s.active.n s.active.flatFloor) (by simp [ringReports, on, z])) ?_⟩
  · simp [Tally.isSaturated]
  · simp [Tally.isMissing]
  · simp [Tally.isFlat]

/-- The map over a frame and its boundary (R158, R161). -/
theorem State.framed_boundary_grows (fr : Frame) (s : State) : MapGrows s (s.framed fr).boundary := by
  have work := s.framed_work fr
  have start := (s.framed fr).boundaryCore_start
  have first : MapGrows s (s.framed fr) := work.posts.mapGrows (by decide) work.faults work.full
  have second : MapGrows (s.framed fr) (s.framed fr).boundaryCore :=
    start.posts.mapGrows (by decide) start.faults start.full
  exact (first.trans second).trans (s.framed fr).boundary_end.steady.map

theorem Fsv.applyCommit_drift (old new : Profile) (w : Index) (degraded : Bool) (g : GuardState) (f : Fsv) :
    (f.applyCommit old new w degraded g).drift = f.drift := by
  unfold Fsv.applyCommit
  simp only
  split_ifs <;> rfl

theorem State.framed_core_drift (fr : Frame) (s : State) : (s.framed fr).boundaryCore.fsv.drift = s.fsv.drift := by
  rw [(s.framed fr).boundaryCore_start.fsv, Fsv.applyCommit_drift, State.framed_eq]

/-- A boundary that gives a completion gives one in the words of the statements (R31). -/
theorem State.framed_completes (fr : Frame) (s : State)
    (h : (s.framed fr).boundaryCore.completesWithoutPairs = true) :
    (s.framed fr).pst.geometryPending = false ∧ EmptyCompletion s (s.framed fr).boundary := by
  obtain ⟨plain, ready, empty, idle⟩ := (s.framed fr).completes_iff h
  obtain ⟨table, _⟩ := (s.framed fr).boundary_end.only
  rw [State.framed_sfe, State.framed_active] at ready
  rw [State.framed_xcr] at idle
  exact ⟨plain, ready, fun k => by rw [table]; exact empty k, idle⟩

/-- The drift mark's report: the mark before the boundary where it gives no completion, and otherwise the one
before or after it (R84, assumption 9). -/
theorem State.framed_boundary_drift (fr : Frame) (s : State) :
    (¬ EmptyCompletion s (s.framed fr).boundary →
      Reported driftKey (s.fsv.drift = true) s (s.framed fr).boundary)
    ∧ (Reported driftKey (s.fsv.drift = true) s (s.framed fr).boundary
      ∨ Reported driftKey ((s.framed fr).boundary.fsv.drift = true) s (s.framed fr).boundary) := by
  have report (d : Bool) (taken : TakesNote (s.framed fr).boundaryCore.xcr.windowNumber (driftKey, some d)
      (s.framed fr).boundaryCore (s.framed fr).boundary) :
      Reported driftKey (d = true) s (s.framed fr).boundary := by
    rw [State.framed_core_window] at taken
    exact (taken.after (s.framed_core_keeps fr driftKey)).reported
  constructor
  · intro none
    rcases (s.framed fr).boundary_cases with ⟨_, h⟩ | ⟨completes, _⟩
    · have taken := (s.framed fr).boundaryCore.finishBoundary_takes (s.framed fr).freeCount (s.framed fr).active
        (s.framed fr).pst.geometryPending (s.framed fr).notesAtBoundary (boundaryNotes_distinct _ _ _ _) _
        List.mem_cons_self
      rw [← h] at taken
      have reported := report _ taken
      rwa [State.framed_core_drift] at reported
    · exact absurd (s.framed_completes fr completes).2 none
  · obtain ⟨d, taken, hd | hd⟩ := (s.framed fr).boundary_end.drift
    · rw [State.framed_core_drift] at hd
      exact .inl (hd ▸ report d taken)
    · exact .inr (hd ▸ report d taken)

/-! ### The statement -/

/-- The counter of closed windows over a frame and its boundary (R8). -/
theorem State.framed_boundary_windowsClosed (fr : Frame) (s : State) :
    (s.framed fr).boundary.efu.stats.windowsClosed = plus s.efu.stats.windowsClosed 1 := by
  obtain ⟨counted, _⟩ := (s.framed fr).boundary_end.steady.counts
  rw [counted, (s.framed fr).boundaryCore_start.windowsClosed, (s.framed_work fr).windowsClosed, plus_eq_satAdd]

/-- A ring that was graded, by the tallies of its window (R11, R12). -/
theorem State.framed_boundary_graded (fr : Frame) (s : State) (r : Ring) (hr : isConfigured s.active r = true)
    (plain : s.pst.geometryPending = false) :
    let x := s.sfe.rings.get r
    let y := (s.framed fr).boundary.sfe.rings.get r
    y.tally = ⟨0, 0, 0⟩ ∧ Tallied s.active (fr.replies.get r) x y.closed
    ∧ HealthMoves (s.active.n / 16 < y.closed.saturated ∨ s.active.n / 16 < y.closed.missing
        ∨ y.closed.energy < s.active.flatFloor * s.active.n) x y
    ∧ ∀ k, healthEvent x.health y.health = some k → ∀ p, Pends (s.framed fr).boundary p k = true := by
  intro x y
  have stored : (s.framed fr).sfe.rings.get r = x.store s.active.meanShift (fr.replies.get r) := by
    rw [State.framed_sfe, Sfe.store_ring, if_pos hr]
  have plain' : (s.framed fr).pst.geometryPending = false := by rwa [State.framed_pst]
  have ring : y = (s.framed fr).windowClosed.sfe.rings.get r := by
    rw [← State.boundarySfe_plain _ plain', ← State.boundary_ring]
  have graded := (s.framed fr).windowClosed_ring r
  rw [State.framed_active, if_pos hr, plain', if_neg Bool.false_ne_true, stored, ← ring] at graded
  have closed : y.closed = (x.store s.active.meanShift (fr.replies.get r)).tally := by
    rw [graded]
    exact RingSense.grade_tally _ _
  refine ⟨by rw [graded]; rfl, by rw [closed]; exact RingSense.store_tallied _ _ _, ?_, fun k hk p => ?_⟩
  · rw [closed, graded]
    exact RingSense.grade_moves (x.store s.active.meanShift (fr.replies.get r)) _ _
      (Tally.isBad_iff s.active.n s.active.flatFloor _)
  · refine (s.framed fr).boundary_end.steady.posts.grows p k ((s.framed fr).boundaryCore_start.graded r k ?_ p)
    rw [stored, ← ring]
    exact hk

/-- A boundary closes the tallies of every configured ring (R7). -/
theorem State.framed_boundary_tallies (fr : Frame) (s : State) (r : Ring) (hr : isConfigured s.active r = true) :
    let y := (s.framed fr).boundary.sfe.rings.get r
    let next := (s.framed fr).boundary.pst.active
    y.tally = ⟨0, 0, 0⟩
    ∧ (isConfigured next r = true →
      y.closed = ((s.sfe.store s.active fr).rings.get r).tally)
    ∧ (isConfigured next r = false → y.closed = ⟨0, 0, 0⟩) := by
  intro y next
  have configured : isConfigured (s.framed fr).active r = true := by rwa [State.framed_active]
  have profile : next = (s.framed fr).nextProfile := State.boundary_active _
  have ring : y = (s.framed fr).boundarySfe.rings.get r := State.boundary_ring _ r
  obtain ⟨tally, closed⟩ := (s.framed fr).boundarySfe_tallies r configured
  rw [← ring] at tally closed
  rw [← profile, State.framed_sfe] at closed
  refine ⟨tally, fun hn => by rw [closed, hn]; simp, fun hn => ?_⟩
  have geometry := (s.framed fr).geometry_of_left_out r configured (by rw [← profile]; exact hn)
  rw [closed, hn, geometry]
  rfl

/-- Settles O16: the front end and the grades are those of the boundary's start, which its later parts keep, and
each report is one of the boundary's recordings. -/
theorem boundaryGradesRings : Obligations.BoundaryGradesRings := by
  unfold Obligations.BoundaryGradesRings
  refine ⟨fun fr s closes => ⟨_, exec_replyDeadline_boundary fr s closes.1, ?_⟩,
    fun fr s closes => ⟨_, exec_replyDeadline_boundary fr s closes, ?_⟩⟩
  · have plain := closes_plain fr s closes
    have plain' : (s.framed fr).pst.geometryPending = false := by rwa [State.framed_pst]
    obtain ⟨_, _, pos, _, readied, _, source, stable, _⟩ := (s.framed fr).boundary_front
    rw [State.boundarySfe_plain _ plain'] at pos readied source stable
    have clock := (s.framed fr).windowClosed_clock
    have ready := (s.framed fr).windowClosed_ready
    rw [State.framed_sfe] at clock ready
    rw [State.framed_active] at ready
    refine ⟨?_, ?_, ?_, s.framed_boundary_windowsClosed fr, fun hc hm => ?_, fun h => ?_, fun r hr => ?_,
      fun r hr => ?_⟩
    · rw [pos]
      exact State.windowClosed_windowPos _
    · rw [readied, ready, Bool.or_eq_true, decide_eq_true_eq]
      exact Iff.rfl
    · rw [State.boundary_window, State.framed_xcr]
    · rw [source, stable]
      exact clock.1 hc hm
    · rw [source, stable]
      exact clock.2 h
    · have off : isConfigured s.active r = false := Bool.eq_false_iff.2 fun h => hr ((configured_iff s r).2 h)
      rw [State.boundary_ring, State.boundarySfe_plain _ plain', State.windowClosed_ring, State.framed_active, off,
        if_neg Bool.false_ne_true, State.framed_sfe, Sfe.store_ring, off, if_neg Bool.false_ne_true]
    · obtain ⟨tally, tallied, moves, posts⟩ :=
        s.framed_boundary_graded fr r ((configured_iff s r).1 hr) plain
      exact ⟨tally, tallied, moves, fun hx hy => posts _ (healthEvent_failed _ _ hx hy),
        fun hx hy => posts _ (healthEvent_restored _ _ hx hy)⟩
  · have grows := s.framed_boundary_grows fr
    obtain ⟨noCompletion, either⟩ := s.framed_boundary_drift fr
    refine ⟨fun r hr => ?_, fun r hr hn => ?_, fun r hr k hk => ?_, ?_, noCompletion, either, grows.full, grows.room,
      grows.posted⟩
    · have configured := (configured_iff s r).1 hr
      obtain ⟨tally, closed, dropped⟩ := s.framed_boundary_tallies fr r configured
      refine ⟨tally, fun hn => ?_, fun hn => dropped ?_⟩
      · rw [closed ((isConfigured_iff _ r).2 hn), Sfe.store_ring, if_pos configured]
        exact RingSense.store_tallied _ _ _
      · rw [Bool.eq_false_iff, ne_eq, isConfigured_iff]
        omega
    · have configured := (configured_iff s r).1 hr
      obtain ⟨_, closed, _⟩ := s.framed_boundary_tallies fr r configured
      obtain ⟨saturated, missing, flat⟩ := s.framed_boundary_ring fr r
      rw [closed ((isConfigured_iff _ r).2 hn)]
      simp only [configured, true_and] at saturated missing flat
      exact ⟨saturated, missing, flat⟩
    · have off : isConfigured s.active r = false := Bool.eq_false_iff.2 fun h => hr ((configured_iff s r).2 h)
      obtain ⟨saturated, missing, flat⟩ := s.framed_boundary_ring fr r
      simp only [off, Bool.false_eq_true, false_and] at saturated missing flat
      simp only [List.mem_cons, List.not_mem_nil, or_false] at hk
      rcases hk with rfl | rfl | rfl
      · exact saturated
      · exact missing
      · exact flat
    · refine Reported.congr (s.framed_boundary_reported fr _ _ (clockReport_mem _ _ _ _)) ?_
      obtain ⟨_, _, _, _, _, _, source, _, _⟩ := (s.framed fr).boundary_front
      rw [beq_iff_eq, source, State.boundarySfe_clock]

end Sys2Proof.Machine
end

section
/-!
PROOFS. The statement about a commit at its boundary (R142, R143).
-/

namespace Sys2Proof.Machine

open Sys2Proof.Claim

/-! ### The end of a boundary without a completion -/

theorem State.takeNote_stats (x : Note) (s : State) : (s.takeNote x).efu.stats = s.efu.stats := by
  obtain ⟨key, _ | _ | _⟩ := x
  · exact s.noteFault_stats false key
  · rfl
  · exact s.noteFault_stats true key

theorem State.takeNotes_stats (n : Nat) (l : List Note) (s : State) :
    (s.takeNotes n l).efu.stats = s.efu.stats := by
  obtain ⟨order, _, h⟩ := s.takeNotes_eq_foldl n l
  rw [h]
  exact foldl_keeps (R := fun s t : State => t.efu.stats = s.efu.stats) (fun _ => rfl) (fun h g => g.trans h)
    (fun s x => s.takeNote_stats x) order s

/-- The totals once a clear that is pending has been applied (R120). -/
def Tot.settled (t : Tot) : Tot := if t.clearPending then { t.cleared with checkpoint := 0 } else t

theorem Tot.ClearedOrPending.settled {t : Tot} (h : t.ClearedOrPending) :
    t.settled.volume = 0 ∧ t.settled.solids = 0 ∧ t.settled.volumeResidue = 0 ∧ t.settled.solidsResidue = 0
    ∧ t.settled.clearPending = false := by
  unfold Tot.settled
  rcases h with h | ⟨hv, hs, hvr, hsr, hc⟩
  · rw [if_pos h]
    exact ⟨rfl, rfl, rfl, rfl, rfl⟩
  · rw [if_neg (by simp [hc])]
    exact ⟨hv, hs, hvr, hsr, hc⟩

theorem State.applyClearIfPending_blocks (s : State) :
    s.applyClearIfPending.tot = s.tot.settled
    ∧ (s.tot.clearPending = false → s.applyClearIfPending.pst = s.pst)
    ∧ s.applyClearIfPending.efu.stats = s.efu.stats := by
  unfold State.applyClearIfPending Tot.settled
  split
  · next h =>
    obtain ⟨q, blocks⟩ := s.applyClear_blocks
    rw [blocks]
    exact ⟨rfl, fun hc => absurd (hc.symm.trans h) (by decide), rfl⟩
  · exact ⟨rfl, fun _ => rfl, rfl⟩

/-- What a boundary without a completion leaves of its start. -/
structure PlainEnd (worked s t : State) : Prop where
  xcr : t.xcr = s.xcr
  fsv : t.fsv = s.fsv
  dgd : t.dgd = s.dgd
  pls : t.pls = s.pls
  stk : t.stk = worked.stk
  tot : t.tot = s.tot.settled
  pst : s.tot.clearPending = false → t.pst = s.pst
  stats : t.efu.stats = worked.efu.stats
  cap : CapStands s t

theorem State.trackerGeometry_cap (old : Profile) (s : State) : (s.trackerGeometry old).cap = s.cap := rfl

theorem State.trackerWork_capStands (old : Profile) (geometry : Bool) (s : State) :
    CapStands s (s.trackerWork old geometry) := by
  have boundary (changed : Bool) : CapStands s (s.trackerBoundary changed) := by
    obtain ⟨_, _, _, _, cap, _⟩ := s.trackerBoundary_after_sort changed
    exact (s.sortTable_work changed).cap.trans (.of_cap cap)
  unfold State.trackerWork
  simp only
  split
  · exact (boundary _).trans (.of_cap (State.trackerGeometry_cap old _))
  · exact boundary _

theorem State.finishBoundary_plain (n : Nat) (old : Profile) (geometry : Bool) (notes : List Note) (s : State) :
    PlainEnd (s.trackerWork old geometry) s (s.finishBoundary n old geometry notes) := by
  have stands := s.trackerWork_capStands old geometry
  obtain ⟨k, e, c, tracked⟩ := s.trackerWork_onlyTracks old geometry
  unfold State.finishBoundary
  simp only
  generalize s.trackerWork old geometry = w at *
  obtain ⟨tot, pst, stats⟩ := w.applyClearIfPending_blocks
  have clear := w.applyClearIfPending_eq
  have cap := w.applyClearIfPending_cap
  generalize w.applyClearIfPending = v at *
  have noted := v.takeNotes_stats n (v.driftNote :: notes)
  have caught := v.takeNotes_cap n (v.driftNote :: notes)
  obtain ⟨e', c', only⟩ := v.takeNotes_onlyReports n (v.driftNote :: notes)
  generalize v.takeNotes n (v.driftNote :: notes) = t at *
  have totals : w.tot = s.tot := by rw [tracked]
  have store : w.pst = s.pst := by rw [tracked]
  constructor
  case xcr => rw [only, clear, tracked]
  case fsv => rw [only, clear, tracked]
  case dgd => rw [only, clear, tracked]
  case pls => rw [only, clear, tracked]
  case stk => rw [only, clear]
  case tot => rw [only, ← totals]; exact tot
  case pst => rw [only, ← totals, ← store]; exact pst
  case stats => rw [noted, stats]
  case cap => exact stands.trans (.of_cap (by rw [caught, cap]))

/-! ### The tracker at a geometry commit (R69) -/

theorem roundDiv_eq_round (x y : Nat) : roundDiv x y = Claim.round x y := by
  unfold roundDiv Claim.round
  have twice : 2 * x + y = 2 * (x + y / 2) + y % 2 := by omega
  rw [twice, ← Nat.div_div_eq_div_mul]
  congr 1
  omega

/-- A departed entry whose prediction is still ahead, rescaled from one frame rate to another (R69). -/
def Departed.rescaled (last : Index) (old new : Nat) (e : Departed) : Departed :=
  { e with predicted :=
      if old = new then e.predicted
      else last + BitVec.ofNat 32 (Claim.round ((e.predicted - last).toInt.toNat * new) old) }

/-- The rescaling of a prediction that is ahead (R69). -/
theorem rescaleInt_ahead (x : Int) (old new : Nat) (h : 0 ≤ x) :
    BitVec.ofInt 32 (rescaleInt x old new) = BitVec.ofNat 32 (Claim.round (x.toNat * new) old) := by
  rw [rescaleInt, if_pos h, roundDiv_eq_round, BitVec.ofInt_natCast]

theorem State.trackerGeometry_departed (old : Profile) (s : State)
    (ahead : ∀ e ∈ s.stk.departed, 0 ≤ (e.predicted - s.sfe.lastIndex).toInt) :
    (s.trackerGeometry old).stk.departed
      = s.stk.departed.map (Departed.rescaled s.sfe.lastIndex old.fs s.active.fs) := by
  simp only [State.trackerGeometry, State.setStk_stk]
  split
  · next same =>
    refine ((List.map_congr_left fun e _ => ?_).trans (List.map_id _)).symm
    rw [Departed.rescaled, if_pos same]
    rfl
  · next differ =>
    refine List.map_congr_left fun e he => ?_
    rw [Departed.rescaled, if_neg differ, indexDiff, rescaleInt_ahead _ _ _ (ahead e he)]

/-- Whether a commit changes the range of the thresholds (R55). -/
def thetaRangeChanged (old new : Profile) : Bool := old.thetaMin != new.thetaMin || old.thetaMax != new.thetaMax

/-- The tracker's boundary work at a geometry commit, with what the commit adds to it. -/
theorem State.trackerWork_geometry_eq (old : Profile) (s : State) :
    s.trackerWork old true = (s.trackerBoundary (thetaRangeChanged old s.active)).trackerGeometry old := rfl

theorem State.trackerBoundary_departed (changed : Bool) (s : State) :
    (s.trackerBoundary changed).stk.departed
      = (s.sortTable changed).stk.departed.filter
        fun e => decide (0 ≤ (e.predicted - s.sfe.lastIndex).toInt) := by
  obtain ⟨stk, _⟩ := s.trackerBoundary_after_sort changed
  rw [stk]
  refine List.filter_congr fun e _ => ?_
  rw [indexBefore, indexDiff, ← decide_not]
  exact decide_eq_decide.2 not_lt

/-- What a geometry commit makes of the tracker at its boundary (R68, R69): `u` is the tracker once its records
are sorted. -/
theorem State.trackerWork_geometry (old : Profile) (s : State) :
    let u := s.sortTable (thetaRangeChanged old s.active)
    let t := s.trackerWork old true
    t.stk.table = [] ∧ t.stk.sumCount = 0 ∧ (∀ r, t.stk.rings.get r = RingTrack.start s.active.thetaInit)
    ∧ t.stk.departed = (u.stk.departed.filter fun e => decide (0 ≤ (e.predicted - s.sfe.lastIndex).toInt)).map
        (Departed.rescaled s.sfe.lastIndex old.fs s.active.fs)
    ∧ t.efu.stats.slugsCompleted = u.efu.stats.slugsCompleted := by
  intro u t
  have departed := s.trackerBoundary_departed (thetaRangeChanged old s.active)
  obtain ⟨_, _, _, _, _, stats⟩ := s.trackerBoundary_after_sort (thetaRangeChanged old s.active)
  obtain ⟨_, _, _, tracked⟩ := s.trackerBoundary_onlyTracks (thetaRangeChanged old s.active)
  have geometry := s.trackerWork_geometry_eq old
  have front : (s.trackerBoundary (thetaRangeChanged old s.active)).sfe = s.sfe := by rw [tracked]
  have profile : (s.trackerBoundary (thetaRangeChanged old s.active)).active = s.active := by rw [tracked]; rfl
  generalize s.trackerBoundary (thetaRangeChanged old s.active) = b at *
  have rescaled := b.trackerGeometry_departed old fun e he => by
    rw [departed, List.mem_filter] at he
    rw [front]
    exact of_decide_eq_true he.2
  rw [departed, front, profile] at rescaled
  simp only [t, geometry]
  refine ⟨rfl, rfl, fun r => ?_, rescaled, ?_⟩
  · rw [← profile]
    exact PerRing.get_fill _ r
  · show b.efu.stats.slugsCompleted = u.efu.stats.slugsCompleted
    rw [stats]

/-! ### The solver at a commit (R85, R89, R96) -/

/-- What a commit leaves of the solver whether or not it is a geometry commit. -/
theorem Fsv.applyCommit_fields (old new : Profile) (w : Index) (degraded : Bool) (g : GuardState) (f : Fsv) :
    let x := f.applyCommit old new w degraded g
    (old.carrierCode ≠ new.carrierCode → x.sigma = new.carrierCode ∧ x.sigmaSource = .profile)
    ∧ (old.carrierCode = new.carrierCode → x.sigma = f.sigma ∧ x.sigmaSource = f.sigmaSource)
    ∧ (old.bore ≠ new.bore → x.area = Claim.round (new.bore ^ 2 * 51472) 65536)
    ∧ (old.bore = new.bore → x.area = f.area)
    ∧ x.flush = f.flush ∧ x.acc = f.acc ∧ x.drift = f.drift ∧ x.line = f.line ∧ x.armCount = f.armCount := by
  simp only [Fsv.applyCommit, pipeArea, roundDiv_eq_round]
  by_cases carrier : old.carrierCode = new.carrierCode <;> by_cases bore : old.bore = new.bore <;>
    cases isGeometry old new <;> simp [carrier, bore]

/-- What a geometry commit makes of the standing record and of what the next record rests on (R96). -/
theorem Fsv.applyCommit_geometry (old new : Profile) (w : Index) (degraded : Bool) (g : GuardState) (f : Fsv)
    (h : isGeometry old new = true) :
    let x := f.applyCommit old new w degraded g
    x.record = f.record.geometryFilling degraded f.drift g ∧ x.hold = 0 ∧ x.lastV = none ∧ x.spanBase = w := by
  simp only [Fsv.applyCommit, h, if_true]
  split_ifs <;> exact ⟨rfl, rfl, rfl, rfl⟩

/-! ### Snapshots of a profile (R144) -/

/-- The image of the statements is the model's. -/
theorem imageOf_eq (p : Profile) : p.image = imageOf p := by
  have bytes : p.regionBytes = (List.range 42).flatMap fun k => be 4 (p.word (k + 1)).toNat := by
    rw [Profile.regionBytes, List.range'_eq_map_range, List.flatMap_map]
    simp only [be_eq_bytesBE, u32, Nat.add_comm 1]
  rw [Profile.image, imageOf, profileCheck, bytes]

/-! ### A commit over a boundary -/

/-- A boundary that gives no completion. -/
theorem State.boundary_plain (s : State) (h : s.boundaryCore.completesWithoutPairs = false) :
    PlainEnd (s.boundaryCore.trackerWork s.active s.pst.geometryPending) s.boundaryCore s.boundary := by
  rcases s.boundary_cases with ⟨_, eq⟩ | ⟨completes, _⟩
  · rw [eq]
    exact State.finishBoundary_plain _ _ _ _ _
  · exact absurd (h.symm.trans completes) (by decide)

/-- A geometry commit's boundary gives no completion, since it empties the histories (R75). -/
theorem State.geometry_completes (s : State) (h : s.pst.geometryPending = true) :
    s.boundaryCore.completesWithoutPairs = false := by
  cases hc : s.boundaryCore.completesWithoutPairs with
  | false => rfl
  | true => exact absurd ((s.completes_iff hc).1.symm.trans h) (by decide)

/-- The store after the boundary that applies a commit (R142). -/
theorem State.boundary_store (s : State) (h : s.pst.commitPending = true) :
    s.boundary.pst.active = s.pst.staging ∧ s.boundary.pst.staging = s.pst.staging
    ∧ s.boundary.pst.claim = none ∧ s.boundary.pst.commitPending = false
    ∧ s.boundary.pst.nv.Holds (.profile s.pst.staging.image) := by
  have start := s.boundaryCore_start
  obtain ⟨_, _, _, store, _⟩ := s.boundary_end.only
  have written := s.boundary_end.write _ (start.stored h)
  have next : s.nextProfile = s.pst.staging := by rw [State.nextProfile, if_pos h]
  refine ⟨?_, ?_, ?_, ?_, written⟩ <;> rw [store, start.pst]
  · exact next
  · exact if_pos h

/-- A RAW copy over a boundary: a geometry commit completes it EMPTY, and another boundary leaves it (R177). -/
theorem State.boundary_raw (s : State) (r : Ring) (hs : s.cap.state = .filling)
    (hc : s.cap.content = some (.raw r)) :
    (s.pst.geometryPending = true →
      s.boundary.cap = { s.cap with
        state := .full, buffer := [], count := 0, empty := true
        header := s.cap.header.map fun h => { h with raw := none, corr := none } }
      ∧ ∀ p, s.cap.owner = some p → Pends s.boundary p .captureDone = true)
    ∧ (s.pst.geometryPending = false → s.boundary.cap = s.cap) := by
  have start := s.boundaryCore_start
  refine ⟨fun hg => ?_, fun hg => ?_⟩
  · obtain ⟨full, done⟩ := start.raw r hg hs hc
    have kept := (s.boundary_plain (s.geometry_completes hg)).cap (by rw [full]; simp)
    exact ⟨kept.trans full, fun p hp => s.boundary_end.steady.posts.grows p _ (done p hp)⟩
  · have same : s.boundaryCore.cap = s.cap := start.cap hg (by rw [hs]; decide)
    rw [s.boundary_end.raw (by rw [same]; exact hs) r (by rw [same]; exact hc), same]

/-- The front end after a geometry commit: the histories flushed, the indices kept (R14, R15). -/
theorem State.boundary_flushed (s : State) (hg : s.pst.geometryPending = true) :
    s.boundary.sfe.fill = 0 ∧ s.boundary.sfe.windowPos = 0 ∧ s.boundary.sfe.ready = false
    ∧ s.boundary.sfe.lastIndex = s.sfe.lastIndex ∧ s.boundary.sfe.nextIndex = s.sfe.nextIndex
    ∧ ∀ r, (s.boundary.sfe.rings.get r).health = .healthy ∧ (s.boundary.sfe.rings.get r).hist = []
      ∧ (s.boundary.sfe.rings.get r).seeded = false := by
  obtain ⟨next, last, pos, fill, ready, rings, _⟩ := s.boundary_front
  have flushed : s.boundarySfe = s.windowClosed.sfe.flush.dropTallies s.nextProfile := by
    rw [State.boundarySfe, if_pos hg]
  have indices : s.windowClosed.sfe.lastIndex = s.sfe.lastIndex ∧ s.windowClosed.sfe.nextIndex = s.sfe.nextIndex := by
    show (Sfe.settleClock _).lastIndex = _ ∧ (Sfe.settleClock _).nextIndex = _
    unfold Sfe.settleClock
    split <;> exact ⟨rfl, rfl⟩
  rw [next, last, pos, fill, ready, rings, flushed]
  refine ⟨rfl, rfl, rfl, indices.1, indices.2, fun r => ?_⟩
  simp only [Sfe.dropTallies, Sfe.flush, PerRing.get_map]
  split <;> exact ⟨rfl, rfl, rfl⟩

/-- The departed list over the boundary of a geometry commit, where no slug completes at it (R68, R69). -/
theorem State.boundary_departed (s u : State) (counted : DepartsCounted u s) (hg : s.pst.geometryPending = true)
    (hl : u.efu.stats.slugsCompleted < Config.counterMax)
    (hc : s.boundary.efu.stats.slugsCompleted = u.efu.stats.slugsCompleted) :
    s.boundary.stk.departed
      = (u.stk.departed.filter fun e => decide (0 ≤ (e.predicted - s.sfe.lastIndex).toInt)).map
          (Departed.rescaled s.sfe.lastIndex s.active.fs s.nextProfile.fs) := by
  have start := s.boundaryCore_start
  have plain := s.boundary_plain (s.geometry_completes hg)
  rw [hg] at plain
  obtain ⟨_, _, _, departed, completed⟩ := s.boundaryCore.trackerWork_geometry s.active
  have last : s.boundaryCore.sfe.lastIndex = s.sfe.lastIndex := by
    obtain ⟨_, last, _⟩ := s.boundary_front
    obtain ⟨_, _, _, kept, _⟩ := s.boundary_flushed hg
    rw [start.sfe, ← last, kept]
  have profile : s.boundaryCore.active = s.nextProfile := by rw [State.active, start.pst]
  have sorted := (s.boundaryCore.sortTable_work (thetaRangeChanged s.active s.boundaryCore.active)).departs
  have all := (counted.trans (.of_same start.slugsCompleted (by rw [start.stk]))).trans sorted
  rw [plain.stats, completed] at hc
  rw [plain.stk, departed, (all hl.le).2.2 hl hc, last, profile]

/-- What the boundary of a geometry commit makes of the correlator, the tracker and the solver (R36, R69, R96). -/
theorem State.boundary_geometry (s : State) (hg : s.pst.geometryPending = true) :
    s.boundary.xcr.state = .idle ∧ s.boundary.xcr.results = s.xcr.results
    ∧ s.boundary.stk.table = [] ∧ s.boundary.stk.sumCount = 0
    ∧ (∀ r, s.boundary.stk.rings.get r = RingTrack.start s.nextProfile.thetaInit)
    ∧ s.boundary.fsv.record = s.fsv.record.geometryFilling s.sfe.degraded s.fsv.drift s.dgd.state
    ∧ s.boundary.fsv.hold = 0 ∧ s.boundary.fsv.lastV = none
    ∧ s.boundary.fsv.spanBase = s.xcr.windowNumber + 1 := by
  have start := s.boundaryCore_start
  have plain := s.boundary_plain (s.geometry_completes hg)
  rw [hg] at plain
  obtain ⟨table, sums, rings, _, _⟩ := s.boundaryCore.trackerWork_geometry s.active
  have profile : s.boundaryCore.active = s.nextProfile := by rw [State.active, start.pst]
  have geometry : isGeometry s.pst.active s.nextProfile = true := by
    obtain ⟨pending, geometry⟩ := Bool.and_eq_true_iff.1 hg
    rwa [State.nextProfile, if_pos pending]
  rw [profile] at rings
  rw [plain.xcr, plain.stk, plain.fsv, start.fsv]
  exact ⟨start.idle hg, start.results, table, sums, rings, Fsv.applyCommit_geometry _ _ _ _ _ _ geometry⟩

/-- What the boundary of a commit makes of the guard, the queue of writes, the solver, the totals and the pulse
unit, where it gives no completion (R85, R89, R110, R114, R124). -/
theorem State.boundary_applied (s : State) (h : s.pst.commitPending = true)
    (none : s.boundaryCore.completesWithoutPairs = false) :
    s.boundary.dgd = s.dgd
    ∧ (s.tot.clearPending = false → s.boundary.pst.nv = s.pst.nv.queue (.profile s.pst.staging.image))
    ∧ s.boundary.fsv = s.fsv.applyCommit s.pst.active s.pst.staging (s.xcr.windowNumber + 1) s.sfe.degraded
        s.dgd.state
    ∧ (s.tot.clearPending = false → s.boundary.tot
        = if s.pst.active.fs = s.pst.staging.fs then s.tot else s.tot.rescale s.pst.staging.fs)
    ∧ (s.tot.clearPending = true → s.boundary.tot.volume = 0 ∧ s.boundary.tot.solids = 0
      ∧ s.boundary.tot.volumeResidue = 0 ∧ s.boundary.tot.solidsResidue = 0 ∧ s.boundary.tot.clearPending = false)
    ∧ s.boundary.pls = if s.pst.active.pulseBasis = s.pst.staging.pulseBasis
        ∧ s.pst.active.pulseWeight = s.pst.staging.pulseWeight then s.pls else s.pls.unitStart := by
  have start := s.boundaryCore_start
  have plain := s.boundary_plain none
  have next : s.nextProfile = s.pst.staging := by rw [State.nextProfile, if_pos h]
  have totals := start.tot
  have solver := start.fsv
  have pulse := start.pls
  rw [next] at totals solver pulse
  have kept (hc : s.tot.clearPending = false) : s.boundaryCore.tot.clearPending = false := by
    rw [totals hc, Tot.rescale]
    split_ifs <;> exact hc
  refine ⟨plain.dgd.trans start.dgd, fun hc => ?_, plain.fsv.trans solver, fun hc => ?_, fun hc => ?_,
    plain.pls.trans pulse⟩
  · rw [plain.pst (kept hc), start.queued h hc]
  · rw [plain.tot, Tot.settled, if_neg (by simp [kept hc]), totals hc]
  · rw [plain.tot]
    exact (start.cleared hc).settled

/-- A geometry commit posts no change of health (R15). -/
theorem State.boundary_ungraded (s : State) (hg : s.pst.geometryPending = true) (p : Port) (k : EventKind)
    (hk : k = .ringFailed ∨ k = .ringRestored) : Pends s.boundary p k = Pends s p k := by
  have first := (s.boundaryCore_start.ungraded hg).same p k (by rcases hk with rfl | rfl <;> decide)
  have second := s.boundary_end.steady.posts.same p k (by rcases hk with rfl | rfl <;> decide)
  exact second.trans first

/-- Settles O49: each clause reads a block of the boundary that the last reply's frame brings. -/
theorem commitApplied : Obligations.CommitApplied := by
  unfold Obligations.CommitApplied
  intro fr s closes old new geometry
  obtain ⟨boundary, pending⟩ := closes
  refine ⟨_, exec_replyDeadline_boundary fr s boundary, ?_⟩
  have work := s.framed_work fr
  have pending' : (s.framed fr).pst.commitPending = true := by rwa [State.framed_pst]
  have isGeo : (s.framed fr).pst.geometryPending = true ↔ geometry := by
    rw [State.framed_pst, Pst.geometryPending, pending, Bool.true_and, isGeometry_iff]
  have store := (s.framed fr).boundary_store pending'
  rw [State.framed_pst, imageOf_eq] at store
  obtain ⟨active, staging, claim, commit, write⟩ := store
  have blocks := s.framed_eq fr
  have next : (s.framed fr).nextProfile = new := by
    rw [State.nextProfile, State.framed_pst, if_pos pending]
  refine ⟨active, staging, claim, commit, fun p => ?_, write, fun p r hs ho hc => ?_, ?_, fun hg => ?_,
    fun none => ?_⟩
  · exact (s.framed fr).boundary_end.steady.posts.grows p _ ((s.framed fr).boundaryCore_start.applied pending' p)
  · have same : (s.framed fr).cap = s.cap := work.cap (by rw [hs]; decide)
    obtain ⟨abandoned, left⟩ := (s.framed fr).boundary_raw r (by rw [same]; exact hs) (by rw [same]; exact hc)
    rw [same] at abandoned left
    refine ⟨fun hg => ?_, fun hg => left (Bool.eq_false_iff.2 fun h => hg (isGeo.1 h))⟩
    obtain ⟨full, done⟩ := abandoned (isGeo.2 hg)
    exact ⟨full, done p ho⟩
  · rw [State.boundary_window, State.framed_xcr]
  · have hg := isGeo.2 hg
    obtain ⟨fill, pos, ready, last, index, flushed⟩ := (s.framed fr).boundary_flushed hg
    obtain ⟨idle, results, table, sums, rings, record, hold, lastV, span⟩ := (s.framed fr).boundary_geometry hg
    have departed := (s.framed fr).boundary_departed s work.departs hg
    rw [State.framed_sfe] at last index departed
    rw [State.framed_xcr] at results span
    rw [next] at rings departed
    rw [State.framed_active] at departed
    have solver : (s.framed fr).fsv = s.fsv := by rw [blocks]
    rw [solver] at record
    rw [idle, results, table, sums, record, hold, lastV, span]
    refine ⟨fill, pos, ready, last, index, flushed, rfl, rfl, rfl, rfl, fun hl hc => departed hl hc,
      fun r => by rw [rings]; exact ⟨rfl, rfl⟩, rfl, rfl, rfl, rfl, rfl, rfl, rfl, rfl, rfl, rfl, fun p k hk => ?_⟩
    refine ((s.framed fr).boundary_ungraded hg p k (by simpa using hk)).trans (work.posts.same p k ?_)
    simp only [List.mem_cons, List.not_mem_nil, or_false] at hk
    rcases hk with rfl | rfl <;> decide
  · have plain : (s.framed fr).boundaryCore.completesWithoutPairs = false := by
      rw [Bool.eq_false_iff]
      intro completes
      obtain ⟨unchanged, empty⟩ := s.framed_completes fr completes
      rcases none with hg | none
      · exact absurd (unchanged.symm.trans (isGeo.2 hg)) (by decide)
      · exact none empty
    obtain ⟨guard, queued, solver, totals, cleared, pulse⟩ := (s.framed fr).boundary_applied pending' plain
    obtain ⟨sfsv, sdgd, stot, spls⟩ : (s.framed fr).fsv = s.fsv ∧ (s.framed fr).dgd = s.dgd
        ∧ (s.framed fr).tot = s.tot ∧ (s.framed fr).pls = s.pls := by
      rw [blocks]
      exact ⟨rfl, rfl, rfl, rfl⟩
    rw [State.framed_pst, imageOf_eq, stot] at queued
    rw [State.framed_pst, stot] at totals
    rw [State.framed_pst, spls] at pulse
    rw [sdgd] at guard
    rw [stot] at cleared
    obtain ⟨carrier, sameCarrier, bore, sameBore, flush, acc, drift, line, arm⟩ :=
      Fsv.applyCommit_fields (s.framed fr).pst.active (s.framed fr).pst.staging
        ((s.framed fr).xcr.windowNumber + 1) (s.framed fr).sfe.degraded (s.framed fr).dgd.state (s.framed fr).fsv
    rw [← solver] at carrier sameCarrier bore sameBore flush acc drift line arm
    rw [State.framed_pst] at carrier sameCarrier bore sameBore
    rw [sfsv] at sameCarrier sameBore flush acc drift line arm
    refine ⟨guard, queued, carrier, sameCarrier, bore, sameBore, flush, acc, drift, line, arm, fun hc hf => ?_,
      fun hc hf hr => ?_, cleared, fun changed => ?_, fun basis weight => ?_⟩
    · rw [totals hc]
      exact if_pos hf
    · rw [totals hc, if_neg hf, Tot.rescale, if_neg (fun h => hf (hr.symm.trans h.symm)), hr]
    · rw [pulse, if_neg (fun h => changed.elim (fun g => g h.1) fun g => g h.2)]
      exact ⟨rfl, rfl, rfl, rfl, rfl⟩
    · rw [pulse]
      exact if_pos ⟨basis, weight⟩

end Sys2Proof.Machine
end

section
/-!
SUPPORT. The profile store through a step (R129 to R142): a written field keeps the staging profile in range,
and the operations of the store and of the claim keep it well-formed.
-/

namespace Sys2Proof.Machine

open Sys2Proof.Claim

/-! ### A written field (R135) -/

/-- What an acceptable profile says of the detection thresholds (R139, check 3). -/
theorem Profile.accepted_theta (p : Profile) (h : p.accepted = true) : InThetaRange p p.thetaInit := by
  obtain ⟨_, none⟩ := Bool.and_eq_true_iff.1 h
  unfold Profile.firstFailure at none
  split at none
  · cases none
  · split at none
    · cases none
    · split at none
      · cases none
      · next h => exact not_not.1 h

theorem Profile.accepted_inRange (p : Profile) (h : p.accepted = true) : p.inRange = true :=
  (Bool.and_eq_true_iff.1 h).1

theorem Profile.inRange_iff (p : Profile) : p.inRange = true ↔ ∀ j, isField j = true → p.fieldInRange j = true := by
  simp only [Profile.inRange, List.all_eq_true, List.mem_range'_1, isField, Bool.and_eq_true, decide_eq_true_eq]
  exact ⟨fun h j hj => h j (by omega), fun h j hj => h j (by omega)⟩

/-- Another field than the one written keeps its value. -/
theorem Profile.setScalar_ne (p : Profile) (k j : Nat) (v : Int) (h : j ≠ k) :
    (p.setScalar k v).scalar j = p.scalar j := by
  unfold Profile.setScalar
  split
  case h_35 => rfl
  all_goals
    unfold Profile.scalar
    split
    any_goals rfl
    exact absurd rfl h

theorem Profile.setScalar_point (p : Profile) (k j : Nat) (v : Int) : (p.setScalar k v).point j = p.point j := by
  unfold Profile.setScalar
  split <;> rfl

theorem Profile.setPoint_scalar (p : Profile) (k j : Nat) (x : DepPoint) : (p.setPoint k x).scalar j = p.scalar j := by
  unfold Profile.setPoint
  split <;> rfl

theorem Profile.setPoint_point (p : Profile) (k j : Nat) (x : DepPoint) :
    (p.setPoint k x).point j = x ∨ (p.setPoint k x).point j = p.point j := by
  unfold Profile.setPoint Profile.point
  split <;> split <;> simp

/-- A field that takes a value of its range has it. -/
theorem Profile.setScalar_same (p : Profile) (k : Nat) (v : Int) (hf : isField k = true)
    (hp : isPointField k = false) (h : scalarInRange k v = true) : (p.setScalar k v).scalar k = v := by
  unfold Profile.setScalar
  split
  case h_32 =>
    have range : 0 ≤ v ∧ v ≤ 1 := by simpa [scalarInRange, fieldRange] using h
    obtain rfl | rfl : v = 0 ∨ v = 1 := by omega
    · rfl
    · rfl
  case h_35 =>
    simp_all only [isField, isPointField, Bool.and_eq_true, Bool.and_eq_false_iff, decide_eq_true_eq,
      decide_eq_false_iff_not, imp_false]
    omega
  all_goals
    simp [scalarInRange, fieldRange, Profile.scalar] at h ⊢
    try omega

theorem Profile.setScalar_inRange (p : Profile) (k : Nat) (v : Int) (hf : isField k = true)
    (hp : isPointField k = false) (h : scalarInRange k v = true) (hr : p.inRange = true) :
    (p.setScalar k v).inRange = true := by
  rw [Profile.inRange_iff] at hr ⊢
  intro j hj
  have was := hr j hj
  unfold Profile.fieldInRange at was ⊢
  rw [Profile.setScalar_point]
  by_cases hk : j = k
  · rw [hk, hp, if_neg Bool.false_ne_true, Profile.setScalar_same p k v hf hp h]
    exact h
  · rwa [Profile.setScalar_ne p k j v hk]

theorem Profile.setPoint_inRange (p : Profile) (k : Nat) (x : DepPoint) (h : pointInRange x = true)
    (hr : p.inRange = true) : (p.setPoint k x).inRange = true := by
  rw [Profile.inRange_iff] at hr ⊢
  intro j hj
  have was := hr j hj
  unfold Profile.fieldInRange at was ⊢
  rw [Profile.setPoint_scalar]
  rcases p.setPoint_point k j x with hx | hx <;> rw [hx]
  · split
    · exact h
    · next hn => rwa [if_neg hn] at was
  · exact was

/-- A write that is accepted keeps every field in its range (R129, R135). -/
theorem Profile.write_inRange (p q : Profile) (k : Nat) (w : BitVec 32) (h : p.write k w = some q)
    (hr : p.inRange = true) : q.inRange = true := by
  unfold Profile.write at h
  split at h
  · next hf =>
    split at h
    · split at h
      · next hx =>
        cases h
        exact Profile.setPoint_inRange p k _ hx hr
      · cases h
    · next hp =>
      split at h
      · next hv =>
        cases h
        exact Profile.setScalar_inRange p k _ hf (by simpa using hp) hv hr
      · cases h
  · cases h

/-! ### The store (R131 to R142) -/

/-- The store is edited, and the active profile stands. -/
structure StoreEdited (x y : Pst) : Prop where
  active : y.active = x.active
  wf : x.Wf → y.Wf

theorem StoreEdited.refl (x : Pst) : StoreEdited x x := ⟨rfl, id⟩

/-- Work of the device alone (R145). -/
theorem StoreEdited.of_nv {x y : Pst} (h : y = { x with nv := y.nv }) : StoreEdited x y := by
  rw [h]
  exact ⟨rfl, id⟩

theorem StoreEdited.endClaim {x : Pst} (h : x.commitPending = false) : StoreEdited x x.endClaim := by
  refine ⟨rfl, fun ⟨accepted, _, _, _⟩ => ⟨accepted, Profile.accepted_inRange _ accepted, fun _ => ⟨rfl, h⟩, (fun hc => ?_)⟩⟩
  exact absurd (h.symm.trans hc) (by decide)

/-- A claim that is taken or refreshed (R133). -/
theorem StoreEdited.claimed (x : Pst) (c : Claim) : StoreEdited x { x with claim := some c } :=
  ⟨rfl, fun ⟨accepted, range, _, pending⟩ => ⟨accepted, range, nofun, pending⟩⟩

/-- Staging starts from the active profile (R134). -/
theorem StoreEdited.opened {x : Pst} (c : Claim) (h : x.claim = none) :
    StoreEdited x { x with staging := x.active, claim := some c } :=
  ⟨rfl, fun ⟨accepted, _, free, _⟩ => ⟨accepted, Profile.accepted_inRange _ accepted, nofun,
    fun hc => absurd ((free h).2.symm.trans hc) (by decide)⟩⟩

theorem StoreEdited.written {x : Pst} {q : Profile} (c : Claim) (k : Nat) (w : BitVec 32)
    (h : x.staging.write k w = some q) (hc : x.commitPending = false) :
    StoreEdited x { x with staging := q, claim := some c } :=
  ⟨rfl, fun ⟨accepted, range, _, _⟩ => ⟨accepted, Profile.write_inRange _ q k w h range, nofun,
    fun hp => absurd (hc.symm.trans hp) (by decide)⟩⟩

/-- A commit of a staging profile that passes every check is pending (R139). -/
theorem StoreEdited.committed {x : Pst} (c : Claim) (h : x.staging.firstFailure = none) :
    StoreEdited x { x with commitPending := true, claim := some c } :=
  ⟨rfl, fun ⟨accepted, range, _, _⟩ => ⟨accepted, range, nofun,
    fun _ => by rw [Profile.accepted, range, h]; exact rfl⟩⟩

/-- A load accepts what it makes active, or takes the default (R148). -/
theorem Nv.loadProfile_accepted (v : Nv) : v.loadProfile.accepted = true := by
  unfold Nv.loadProfile
  cases h : v.storedProfile with
  | none => exact Profile.default_accepted
  | some p =>
    unfold Nv.storedProfile at h
    obtain ⟨x, _, hx⟩ := Option.bind_eq_some_iff.1 h
    split at hx
    · next ok =>
      cases hx
      exact (Bool.and_eq_true_iff.1 ok).2
    · cases hx

theorem Pst.start_wf (v : Nv) : (Pst.start v).Wf := by
  have accepted := v.loadProfile_accepted
  exact ⟨accepted, Profile.accepted_inRange _ accepted, fun _ => ⟨rfl, rfl⟩, fun h => by cases h⟩

/-- The store after a boundary, with the commit that it applied (R142). -/
theorem State.boundary_wf (s : State) (h : s.pst.Wf) : s.boundary.pst.Wf := by
  obtain ⟨accepted, range, free, pending⟩ := h
  obtain ⟨_, _, _, store, _⟩ := s.boundary_end.only
  rw [store, s.boundaryCore_start.pst]
  cases hc : s.pst.commitPending with
  | true =>
    have next : s.nextProfile = s.pst.staging := by rw [State.nextProfile, if_pos hc]
    rw [next]
    exact ⟨pending hc, range, fun _ => ⟨rfl, rfl⟩, fun h => by cases h⟩
  | false =>
    have next : s.nextProfile = s.pst.active := by rw [State.nextProfile, hc, if_neg Bool.false_ne_true]
    rw [next]
    exact ⟨accepted, range, fun hn => ⟨(free hn).1, rfl⟩, fun h => by cases h⟩

end Sys2Proof.Machine
end

section
/-!
SUPPORT. What every step keeps of the tracker and of the rings at rest, for the parts of a step that move them:
a start, a frame and a window boundary (R4, R14, R53 to R69).
-/

namespace Sys2Proof.Machine

open Sys2Proof.Claim

/-! ### What is kept -/

/-- The slug table, the departed list and the rings' items in the tracker stand. -/
structure SameSlugs (s t : State) : Prop where
  table : t.stk.table = s.stk.table
  departed : t.stk.departed = s.stk.departed
  rings : t.stk.rings = s.stk.rings

theorem SameSlugs.of_stk {s t : State} (h : t.stk = s.stk) : SameSlugs s t := by
  constructor <;> rw [h]

theorem SameSlugs.trans {s t u : State} (h : SameSlugs s t) (g : SameSlugs t u) : SameSlugs s u :=
  ⟨g.table.trans h.table, g.departed.trans h.departed, g.rings.trans h.rings⟩

theorem SameSlugs.fits {s t : State} (h : SameSlugs s t) (hs : TrackerFits s) : TrackerFits t := by
  unfold TrackerFits
  rw [h.table, h.departed]
  exact hs

/-- The invariants of the tracker, its thresholds and the rings at rest pass from a state to another. -/
structure KeepsAtRest (s t : State) : Prop where
  fits : TrackerFits s → TrackerFits t
  thresholds : s.pst.Wf ∧ ThresholdsInRange s → t.pst.Wf ∧ ThresholdsInRange t
  unconfigured : UnconfiguredAtRest s → UnconfiguredAtRest t

theorem KeepsAtRest.refl (s : State) : KeepsAtRest s s := ⟨id, id, id⟩

theorem KeepsAtRest.trans {s t u : State} (h : KeepsAtRest s t) (g : KeepsAtRest t u) : KeepsAtRest s u :=
  ⟨g.fits ∘ h.fits, g.thresholds ∘ h.thresholds, g.unconfigured ∘ h.unconfigured⟩

/-- Work that leaves the tracker's tables, the rings of the front end and the active profile. -/
structure Stands (s t : State) : Prop where
  slugs : SameSlugs s t
  rings : t.sfe.rings = s.sfe.rings
  store : StoreEdited s.pst t.pst

theorem Stands.refl (s : State) : Stands s s := ⟨.of_stk rfl, rfl, .refl _⟩

theorem Stands.trans {s t u : State} (h : Stands s t) (g : Stands t u) : Stands s u :=
  ⟨h.slugs.trans g.slugs, g.rings.trans h.rings, g.store.active.trans h.store.active, g.store.wf ∘ h.store.wf⟩

theorem Stands.of_blocks {s t : State} (hk : t.stk = s.stk) (hf : t.sfe.rings = s.sfe.rings) (hp : t.pst = s.pst) :
    Stands s t := ⟨.of_stk hk, hf, hp ▸ .refl _⟩

theorem OnlyReports.stands {s t : State} (h : OnlyReports s t) : Stands s t := by
  obtain ⟨_, _, h⟩ := h
  exact .of_blocks (by rw [h]) (by rw [h]) (by rw [h])

theorem configured_congr {s t : State} (h : t.pst.active = s.pst.active) (r : Ring) :
    Configured t r ↔ Configured s r := by
  unfold Configured
  rw [h]

theorem Stands.keeps {s t : State} (h : Stands s t) : KeepsAtRest s t := by
  obtain ⟨slugs, rings, active, wf⟩ := h
  refine ⟨slugs.fits, fun ⟨store, range⟩ => ⟨wf store, fun r hr => ?_⟩, fun rest r hr => ?_⟩
  · rw [active, slugs.rings]
    exact range r ((configured_congr active r).1 hr)
  · rw [rings]
    exact rest r (mt (configured_congr active r).2 hr)

/-! ### The starts (R14, R17, R47, R72) -/

/-- A tracker that starts under an acceptable profile has empty tables and every threshold in the range. -/
theorem start_fits (s : State) (theta : Nat) (tag : BitVec 8) (h : s.stk = Stk.start theta tag) : TrackerFits s := by
  rw [TrackerFits, h]
  exact ⟨by simp [Stk.start], by simp [Stk.start], by simp [Stk.start]⟩

theorem start_thresholds (s : State) (tag : BitVec 8) (hw : s.pst.Wf)
    (h : s.stk = Stk.start s.pst.active.thetaInit tag) : ThresholdsInRange s := by
  intro r _
  rw [h]
  have theta : ((Stk.start s.pst.active.thetaInit tag).rings.get r).theta = s.pst.active.thetaInit := by
    simp [Stk.start, RingTrack.start]
  rw [theta]
  exact Profile.accepted_theta _ hw.1

theorem State.startBlocks_wf (straps : PerPort StrapPair) (s : State) : (s.startBlocks straps).pst.Wf := by
  have store : (s.startBlocks straps).pst = Pst.start s.pst.nv.cut := by
    unfold State.startBlocks
    simp only
    split
    · rw [State.recordFault_pst]
    · rfl
  rw [store]
  exact Pst.start_wf _

theorem Started.keeps {straps : PerPort StrapPair} {s t : State} (h : Started (s.startBlocks straps) t)
    (hp : StoreEdited (s.startBlocks straps).pst t.pst) : KeepsAtRest s t := by
  obtain ⟨_, hsfe, _, hstk⟩ := s.startBlocks_measurement straps
  obtain ⟨_, sfe, _, stk, active⟩ := h
  have wf := hp.wf (s.startBlocks_wf straps)
  have started : t.stk = Stk.start t.pst.active.thetaInit 255 := by rw [stk, hstk, active]
  refine ⟨fun _ => start_fits t _ _ started, fun _ => ⟨wf, start_thresholds t _ wf started⟩, fun _ r _ => ?_⟩
  rw [sfe, hsfe]
  cases r <;> exact ⟨rfl, rfl, rfl, rfl, rfl⟩

theorem State.powerOn_keeps (straps : PerPort StrapPair) (s : State) : KeepsAtRest s (s.powerOn straps) := by
  refine Started.keeps (s.powerOn_started straps) ?_
  have store : (s.powerOn straps).pst = (s.startBlocks straps).pst := by
    unfold State.powerOn
    simp only
    split <;> simp
  rw [store]
  exact .refl _

theorem State.endReset_keeps (straps : PerPort StrapPair) (s : State) : KeepsAtRest s (s.endReset straps) :=
  Started.keeps (s.endReset_started straps) (.of_nv rfl)

/-- A RESTART starts the tracker again and flushes every ring (R16, R72). -/
theorem State.restartBlocks_keeps (s : State) : KeepsAtRest s s.restartBlocks := by
  have started : s.restartBlocks.stk = Stk.start s.restartBlocks.pst.active.thetaInit s.stk.tagCounter := rfl
  refine ⟨fun _ => start_fits _ _ _ started, fun ⟨wf, _⟩ => ⟨wf, start_thresholds _ _ wf started⟩, fun rest r hr => ?_⟩
  obtain ⟨_, _, _, _, closed⟩ := rest r hr
  have flushed : s.restartBlocks.sfe.rings.get r = (s.sfe.rings.get r).flush := by
    simp [State.restartBlocks, Sfe.restart, Sfe.flush]
  rw [flushed]
  exact ⟨rfl, rfl, rfl, rfl, closed⟩

/-! ### A frame (R5, R48) -/

theorem State.framed_keeps (fr : Frame) (s : State) : KeepsAtRest s (s.framed fr) := by
  refine ⟨fun h => (s.storeFrame fr).trackFrame_fits h, fun ⟨wf, range⟩ => ⟨?_, fun r hr => ?_⟩, fun rest r hr => ?_⟩
  · rwa [State.framed_pst]
  · have theta : ((s.framed fr).stk.rings.get r).theta = (s.stk.rings.get r).theta :=
      (s.storeFrame fr).trackFrame_thresholds r
    rw [theta, State.framed_pst]
    exact range r ((configured_congr (by rw [State.framed_pst]) r).1 hr)
  · have out : ¬ Configured s r := mt (configured_congr (by rw [State.framed_pst]) r).2 hr
    rw [State.framed_sfe, Sfe.store_ring, if_neg (by rwa [configured_iff] at out)]
    exact rest r out

/-! ### A boundary (R8, R55, R69) -/

theorem OnlyPublishes.stands {s t : State} (h : OnlyPublishes s t) (slugs : SameSlugs s t) : Stands s t := by
  obtain ⟨_, _, front, store, _⟩ := h
  exact ⟨slugs, by rw [front], .of_nv store⟩

theorem State.applyClearIfPending_stands (s : State) : Stands s s.applyClearIfPending := by
  refine s.applyClearIfPending_onlyPublishes.stands (.of_stk ?_)
  unfold State.applyClearIfPending
  split
  · obtain ⟨q, blocks⟩ := s.applyClear_blocks
    rw [blocks]
  · rfl

theorem State.takeNotes_stands (n : Nat) (l : List Note) (s : State) : Stands s (s.takeNotes n l) :=
  (s.takeNotes_onlyReports n l).stands

/-- A completion leaves the slugs, and clears their sums (R65). -/
theorem State.complete_stands (c : Option InFlight) (w : Index) (rs : PerSlot (Option PairResult)) (s : State) :
    Stands s (s.complete c w rs) := by
  rw [State.complete_eq]
  have completed : Stands s (s.completed c w rs) := .of_blocks (by simp) (by simp) (by simp)
  have slugs (u : State) : SameSlugs u (u.publish w rs) := by
    constructor <;> rw [State.publish_stk] <;> rfl
  exact completed.trans ((State.publish_onlyPublishes w rs _).stands (slugs _))

theorem State.completeWithoutPairs_stands (s : State) : Stands s s.completeWithoutPairs := s.complete_stands _ _ _

/-- Every boundary does the tracker's work once, whatever comes before and after it. -/
theorem State.boundary_tracked (s : State) : ∃ u : State, Stands s.boundaryCore u
    ∧ Stands (u.trackerWork s.active s.pst.geometryPending) s.boundary := by
  rcases s.boundary_cases with ⟨_, h⟩ | ⟨completes, h⟩
  · rw [h]
    exact ⟨_, .refl _, (State.applyClearIfPending_stands _).trans (State.takeNotes_stands _ _ _)⟩
  · rw [h, (s.completes_iff completes).1, State.finishWithCompletion_eq]
    generalize s.boundaryCore = c
    have cleared (b : Bool) (v : State) : Stands v (if b then v.applyClearIfPending else v) := by
      cases b with
      | true => exact v.applyClearIfPending_stands
      | false => exact .refl v
    unfold State.earlyNoted State.beforePublication State.publicationOn
    simp only
    generalize Config.takenFirst .clearBeforePublication s.freeCount = clearFirst
    cases Config.takenFirst .trackerBeforePublication s.freeCount with
    | true =>
      refine ⟨c, .refl c, ?_⟩
      simp only [if_true]
      generalize c.trackerWork s.active false = v
      refine Stands.trans ?_ (State.takeNotes_stands _ _ _)
      refine Stands.trans ?_ (State.applyClearIfPending_stands _)
      refine Stands.trans ?_ (State.completeWithoutPairs_stands _)
      exact (cleared clearFirst v).trans (State.takeNotes_stands _ _ _)
    | false =>
      simp only [Bool.false_eq_true, if_false]
      refine ⟨_, ?_, (State.applyClearIfPending_stands _).trans (State.takeNotes_stands _ _ _)⟩
      exact ((cleared clearFirst c).trans (State.takeNotes_stands _ _ _)).trans (State.completeWithoutPairs_stands _)

/-- The rings configured under the next profile, where no geometry commit is pending, are those configured
before (R143). -/
theorem State.nextProfile_plain (s : State) (h : s.pst.geometryPending = false) (r : Ring) :
    isConfigured s.nextProfile r = isConfigured s.active r := by
  unfold State.nextProfile
  split
  · next hc =>
    have same : s.pst.active.ringCount = s.pst.staging.ringCount := by
      rw [Pst.geometryPending, hc, Bool.true_and, Bool.eq_false_iff, Ne, isGeometry_iff] at h
      by_contra hn
      exact h (.inr (.inr hn))
    rw [isConfigured, isConfigured, State.active, same]
  · rfl

/-- The tracker's work at a boundary leaves every configured ring's threshold in the range of the profile it
works under: a geometry commit starts every ring, and other work moves the thresholds within it (R55, R69). -/
theorem State.trackerWork_inRange (old : Profile) (geometry : Bool) (s : State) (accepted : s.active.accepted = true)
    (h : geometry = false → ∀ r, isConfigured s.active r = true → InThetaRange old (s.stk.rings.get r).theta) (r : Ring)
    (hr : isConfigured s.active r = true) :
    InThetaRange s.active ((s.trackerWork old geometry).stk.rings.get r).theta := by
  have init := Profile.accepted_theta _ accepted
  cases geometry with
  | true =>
    have started : ((s.trackerWork old true).stk.rings.get r).theta = s.active.thetaInit := by
      rw [State.trackerWork_geometry_eq]
      obtain ⟨_, _, _, tracked⟩ := s.trackerBoundary_onlyTracks (thetaRangeChanged old s.active)
      rw [tracked]
      simp [State.trackerGeometry, RingTrack.start, State.active]
    rw [started]
    exact init
  | false =>
    refine s.trackerBoundary_inRange _ (init.1.trans init.2) r hr fun same => ?_
    have was := h rfl r hr
    simp only [Bool.or_eq_false_iff, bne_eq_false_iff_eq] at same
    unfold InThetaRange at was ⊢
    rwa [same.1, same.2] at was

/-- A ring that is not configured after a boundary is at rest: a geometry commit flushes it and drops its
tallies, and another boundary leaves it as it was (R14, R15). -/
theorem State.boundary_unconfigured (s : State) (h : UnconfiguredAtRest s) : UnconfiguredAtRest s.boundary := by
  intro r hr
  have out : isConfigured s.nextProfile r = false := by
    rw [configured_iff, State.active, State.boundary_active] at hr
    exact Bool.not_eq_true _ ▸ hr
  rw [State.boundary_ring]
  cases hg : s.pst.geometryPending with
  | true =>
    have ring : s.boundarySfe.rings.get r = { (s.windowClosed.sfe.rings.get r).flush with closed := Tally.zero } := by
      simp [State.boundarySfe, hg, Sfe.dropTallies, Sfe.flush, out]
    rw [ring]
    exact ⟨rfl, rfl, rfl, rfl, rfl⟩
  | false =>
    rw [State.nextProfile_plain s hg] at out
    have ring : s.boundarySfe.rings.get r = s.sfe.rings.get r := by
      rw [State.boundarySfe_plain s hg, State.windowClosed_ring, if_neg (by simp [out])]
    rw [ring]
    exact h r (by simp [configured_iff, out])

theorem State.boundary_keeps (s : State) : KeepsAtRest s s.boundary := by
  have start := s.boundaryCore_start
  obtain ⟨u, before, after⟩ := s.boundary_tracked
  have slugs : SameSlugs s u := (SameSlugs.of_stk start.stk).trans before.slugs
  have active : u.active = s.nextProfile := by
    rw [State.active, before.store.active, start.pst]
  refine ⟨fun h => after.slugs.fits (State.trackerWork_fits _ _ u (slugs.fits h)),
    fun ⟨wf, range⟩ => ⟨s.boundary_wf wf, fun r hr => ?_⟩, s.boundary_unconfigured⟩
  have next : s.boundary.pst.active = u.active := by rw [State.boundary_active, active]
  have accepted : u.active.accepted = true := by rw [← next]; exact (s.boundary_wf wf).1
  rw [configured_iff, State.active, next] at hr
  rw [next, after.slugs.rings]
  refine State.trackerWork_inRange s.active _ u accepted (fun hg k hk => ?_) r hr
  rw [slugs.rings]
  rw [active, State.nextProfile_plain s hg] at hk
  exact range k ((configured_iff s k).2 hk)

/-- The end of a frame, on a boundary or inside a window. -/
theorem State.closeFrame_keeps (fr : Frame) (s : State) : KeepsAtRest s (s.closeFrame fr) := by
  show KeepsAtRest s (if (s.framed fr).sfe.windowPos = (s.framed fr).active.n then (s.framed fr).boundary
    else s.framed fr)
  split
  · exact (s.framed_keeps fr).trans (State.boundary_keeps _)
  · exact s.framed_keeps fr

end Sys2Proof.Machine
end

section
/-!
PROOFS. TrackerAndRingsKept: what every command keeps of the tracker's capacities, tags and thresholds and of the
rings at rest, by the answers of the requests, the events of the ports, and the commands.
-/

namespace Sys2Proof.Machine

open Sys2Proof.Claim

/-! ### Work that leaves the measurement -/

theorem State.whenRunning_keeps {f : State → State} {s : State} (h : KeepsAtRest s (f s)) :
    KeepsAtRest s (s.whenRunning f) := by
  unfold State.whenRunning
  split
  · exact h
  · exact .refl s

theorem OnlyEvents.stands {s t : State} (h : OnlyEvents s t) : Stands s t := h.onlyReports.stands

theorem Stands.of_pst {s t : State} (h : t = s.setPst t.pst) (hp : StoreEdited s.pst t.pst) : Stands s t :=
  ⟨.of_stk (by rw [h]; rfl), by rw [h]; rfl, hp⟩

/-- A change of a port and of the reports alone. -/
theorem State.setPort_stands (p : Port) (x : PortState) (s : State) : Stands s (s.setPort p x) :=
  .of_blocks rfl rfl rfl

theorem State.countedPort_stands (f : Stats → Stats) (p : Port) (x : PortState) (s : State) :
    Stands s ((s.count f).setPort p x) := .of_blocks rfl rfl rfl

theorem State.expireClaim_stands (s : State) : Stands s s.expireClaim := by
  unfold State.expireClaim
  split
  · next h =>
    have ended : Stands s (s.setPst s.pst.endClaim) := .of_pst rfl (.endClaim h.2)
    exact ended.trans (State.post_only _ _).stands
  · exact .refl s

theorem State.reachExpiry_stands (s : State) : Stands s s.reachExpiry := by
  unfold State.reachExpiry
  split
  · split
    · exact .refl s
    · exact .of_blocks rfl rfl rfl
  · exact .refl s

theorem State.mapNv_stands (f : Nv → Nv) (s : State) : Stands s (s.mapNv f) := .of_pst rfl (.of_nv rfl)

theorem State.nvComplete_stands (agrees : Bool) (s : State) : Stands s (s.nvComplete agrees) := by
  unfold State.nvComplete
  split
  · exact .refl s
  · next j _ =>
    split
    · exact s.mapNv_stands _
    · have spoilt : Stands s ((s.mapNv fun v => (v.spoil s.freeCount j).next).setFreeCount (s.freeCount + 1)) :=
        ⟨.of_stk rfl, rfl, .of_nv rfl⟩
      have noted (u : State) : Stands u (u.recordFault (nvKey j.region)) := (u.noteFault_onlyReports _ _).stands
      exact (spoilt.trans (noted _)).trans (State.post_only _ _).stands

theorem State.copyEnds_stands (s : State) : Stands s s.copyEnds := by
  unfold State.copyEnds
  split
  · exact (s.completeCapture_only _).stands
  · exact .refl s

theorem State.crystalFails_stands (s : State) : Stands s s.crystalFails := by
  unfold State.crystalFails
  split
  · refine Stands.trans ?_ (State.post_only _ _).stands
    exact .of_blocks rfl rfl rfl
  · exact .of_blocks rfl rfl rfl

theorem State.completeCorrelation_stands (s : State) : Stands s s.completeCorrelation := by
  unfold State.completeCorrelation
  split
  · exact .refl s
  · exact s.complete_stands _ _ _

/-! ### The answers (R134 to R191) -/

theorem State.afterTimeLeft_stands (s : State) : Stands s s.afterTimeLeft := by
  unfold State.afterTimeLeft
  split
  · exact .of_blocks rfl rfl rfl
  · exact .refl s

theorem State.answerSlugs_stands (start : Byte) (s : State) : Stands s (s.answerSlugs start).state := by
  unfold State.answerSlugs
  split <;> exact .refl s

theorem State.answerAttention_stands (p : Port) (e : EventSet) (th : Byte) (s : State) :
    Stands s (s.answerAttention p e th).state := by
  unfold State.answerAttention
  split
  · exact .refl s
  · exact .of_blocks rfl rfl rfl

theorem State.answerOpen_stands (p : Port) (s : State) : Stands s (s.answerOpen p).state := by
  unfold State.answerOpen
  split
  · next free => exact .of_pst rfl (.opened _ free)
  · split
    · exact .of_pst rfl (.claimed _ _)
    · exact s.afterTimeLeft_stands

theorem State.fieldAnswer_stands (st : Status) (field : Byte) (s : State) :
    Stands s (s.fieldAnswer st field).state := by
  unfold State.fieldAnswer
  simp only
  split
  · exact .refl s
  · exact .of_blocks rfl rfl rfl

theorem State.answerWrite_stands (p : Port) (field : Byte) (value : BitVec 32) (s : State) :
    Stands s (s.answerWrite p field value).state := by
  unfold State.answerWrite
  split
  · exact s.fieldAnswer_stands _ _
  · split
    · exact s.fieldAnswer_stands _ _
    · next pending =>
      split
      · exact s.fieldAnswer_stands _ _
      · next x written =>
        have edited : Stands s ((s.setPst { s.pst with staging := x }).refreshClaim p) :=
          .of_pst rfl (.written _ _ _ written (by simpa using pending))
        exact edited.trans (State.fieldAnswer_stands _ _ _)

theorem State.answerRead_stands (field slot : Byte) (s : State) : Stands s (s.answerRead field slot).state := by
  unfold State.answerRead
  split
  · exact .refl s
  · split
    · exact s.afterTimeLeft_stands
    · split
      · exact s.afterTimeLeft_stands
      · exact .refl s

theorem State.answerCommit_stands (p : Port) (s : State) : Stands s (s.answerCommit p).state := by
  unfold State.answerCommit
  split
  · exact .refl s
  · split
    · exact .refl s
    · split
      · exact .refl s
      · split
        · exact .refl s
        · next passed => exact .of_pst rfl (.committed _ passed)

theorem State.answerDrop_stands (p : Port) (s : State) : Stands s (s.answerDrop p).state := by
  unfold State.answerDrop
  split
  · exact .refl s
  · split
    · exact .refl s
    · next pending => exact .of_pst rfl (.endClaim (by simpa using pending))

theorem State.answerClearTotals_stands (p : Port) (s : State) : Stands s (s.answerClearTotals p).state := by
  unfold State.answerClearTotals
  simp only
  split
  · exact .refl s
  · exact .of_blocks rfl rfl rfl

theorem State.answerRelease_stands (s : State) : Stands s s.answerRelease.state := by
  unfold State.answerRelease
  simp only
  split
  · exact .of_blocks rfl rfl rfl
  · exact .refl s

theorem State.answerFlushBegin_stands (s : State) : Stands s s.answerFlushBegin.state := by
  unfold State.answerFlushBegin
  split
  · exact .refl s
  · exact .of_blocks rfl rfl rfl

theorem State.answerFlushEnd_stands (s : State) : Stands s s.answerFlushEnd.state := by
  unfold State.answerFlushEnd
  split
  · have ended : Stands s (s.setFsv s.fsv.endFlush) := .of_blocks rfl rfl rfl
    simp only
    split
    · exact ended
    · exact ended.trans (State.noteFault_onlyReports _ _ _).stands
  · exact .refl s

theorem State.answerArm_stands (p : Port) (content which trigger : Byte) (s : State) :
    Stands s (s.answerArm p content which trigger).state := by
  unfold State.answerArm
  split
  · exact .refl s
  · split
    · exact .refl s
    · next c t _ =>
      have armed : Stands s (s.setCap ⟨some p, .armed, some c, some t, none, [], 0, false⟩) := .of_blocks rfl rfl rfl
      simp only [State.arm]
      split
      · exact armed.trans (State.triggerCapture_only _).stands
      · exact armed

theorem State.answerReadCapture_stands (p : Port) (offset : BitVec 16) (s : State) :
    Stands s (s.answerReadCapture p offset).state := by
  unfold State.answerReadCapture
  simp only
  split
  · exact .refl s
  · split
    · exact .refl s
    · split <;> exact .refl s

theorem State.answerReleaseCapture_stands (p : Port) (s : State) : Stands s (s.answerReleaseCapture p).state := by
  unfold State.answerReleaseCapture
  split
  · exact .refl s
  · split
    · exact .of_blocks rfl rfl rfl
    · exact .refl s

/-- Every request of R189 leaves the measurement but RESTART, which starts it again. -/
theorem State.dispatch_keeps (p : Port) (code : Nat) (payload : List Byte) (s : State) :
    KeepsAtRest s (s.dispatch p code payload).state := by
  unfold State.dispatch
  split
  · exact .refl s
  · exact .refl s
  · exact .refl s
  · exact (s.answerSlugs_stands _).keeps
  · exact .refl s
  · exact .refl s
  · exact .refl s
  · exact .refl s
  · exact .refl s
  · exact Stands.keeps (.of_blocks rfl rfl rfl)
  · exact (s.answerAttention_stands _ _ _).keeps
  · exact (s.answerOpen_stands _).keeps
  · exact (s.answerWrite_stands _ _ _).keeps
  · exact (s.answerRead_stands _ _).keeps
  · exact (s.answerCommit_stands _).keeps
  · exact (s.answerDrop_stands _).keeps
  · exact (s.answerClearTotals_stands _).keeps
  · exact s.answerRelease_stands.keeps
  · exact s.answerFlushBegin_stands.keeps
  · exact s.answerFlushEnd_stands.keeps
  · exact s.restartBlocks_keeps
  · exact (s.answerArm_stands _ _ _ _).keeps
  · exact (s.answerReadCapture_stands _ _).keeps
  · exact (s.answerReleaseCapture_stands _).keeps
  · exact Stands.keeps (.of_blocks rfl rfl rfl)
  · exact Stands.keeps (.of_blocks rfl rfl rfl)
  · exact .refl s

theorem State.handle_keeps (p : Port) (code : Byte) (payload : List Byte) (s : State) :
    KeepsAtRest s (s.handle p code payload).state := by
  unfold State.handle
  split
  · exact .refl s
  · split
    · exact s.dispatch_keeps _ _ _
    · exact .refl s

/-! ### The ports (R180 to R185) -/

theorem State.answer_keeps (p : Port) (echo : Byte) (h : State → Answer) (s : State) (hk : KeepsAtRest s (h s).state) :
    KeepsAtRest s (s.answer p echo h) :=
  hk.trans (State.setPort_stands _ _ _).keeps

theorem State.request_keeps (p : Port) (echo : Byte) (h : State → Answer) (s : State)
    (hk : KeepsAtRest s (h s).state) : KeepsAtRest s (s.request p echo h) := by
  unfold State.request
  split
  · split
    · exact s.answer_keeps p echo h hk
    · exact (s.countedPort_stands _ _ _).keeps
    · exact .refl s
  · exact .refl s

theorem State.dropFrame_stands (p : Port) (s : State) : Stands s (s.dropFrame p) := s.countedPort_stands _ _ _

theorem State.frameEnds_keeps (p : Port) (buf : List Byte) (s : State) : KeepsAtRest s (s.frameEnds p buf) := by
  unfold State.frameEnds
  split
  · exact (s.countedPort_stands _ _ _).keeps
  · split
    · split
      · exact s.answer_keeps _ _ _ (s.handle_keeps _ _ _)
      · exact (s.dropFrame_stands p).keeps
    · exact (s.dropFrame_stands p).keeps

theorem State.receive_keeps (p : Port) (x : Byte) (framingError : Bool) (s : State) :
    KeepsAtRest s (s.receive p x framingError) := by
  unfold State.receive
  simp only
  split
  · exact .refl s
  · split
    · exact (s.setPort_stands _ _).keeps
    · split <;> exact (s.setPort_stands _ _).keeps
    · split
      · exact (s.dropFrame_stands p).keeps
      · split
        · exact (s.dropFrame_stands p).keeps
        · split
          · exact s.frameEnds_keeps _ _
          · exact (s.setPort_stands _ _).keeps

theorem State.byteTimeout_stands (p : Port) (s : State) : Stands s (s.byteTimeout p) := by
  unfold State.byteTimeout
  split
  · exact s.dropFrame_stands p
  · exact .refl s

theorem State.startResponse_stands (p : Port) (s : State) : Stands s (s.startResponse p) := by
  unfold State.startResponse
  simp only
  split
  · split
    · exact s.countedPort_stands _ _ _
    · exact s.setPort_stands _ _
  · exact .refl s

/-! ### Time and frames -/

theorem State.tick_stands (s : State) : Stands s s.tick := by
  by_cases h : s.power = .running
  · obtain ⟨m, c, ticked, _⟩ := s.tick_blocks h
    have claim : Stands (s.setTimebase (s.timebase + 1)) (s.setTimebase (s.timebase + 1)).tickClaim := by
      unfold State.tickClaim
      split
      · split
        · exact State.expireClaim_stands _
        · exact .refl _
      · exact .refl _
    rw [ticked]
    refine ⟨.of_stk rfl, ?_, claim.store⟩
    rw [Sfe.tick_eq]
  · rw [State.tick, State.whenRunning_not _ _ h]
    exact .refl s

theorem State.takeReply_keeps (r : Ring) (x : Reply) (s : State) : KeepsAtRest s (s.takeReply r x) := by
  unfold State.takeReply
  split
  · exact .refl s
  · split
    · simp only
      split
      · exact s.closeFrame_keeps _
      · exact Stands.keeps (.of_blocks rfl rfl rfl)
    · exact .refl s

theorem State.takeDeadline_keeps (s : State) : KeepsAtRest s s.takeDeadline := by
  unfold State.takeDeadline
  split
  · exact .refl s
  · exact s.closeFrame_keeps _

theorem State.strobeFrame_stands (s : State) : Stands s s.strobeFrame := by
  unfold State.strobeFrame
  split
  · exact .of_blocks rfl rfl rfl
  · exact .refl s

theorem State.releaseLines_stands (s : State) : Stands s s.releaseLines := ⟨.of_stk rfl, rfl, .of_nv rfl⟩

theorem State.holdReset_stands (s : State) : Stands s s.holdReset := ⟨.of_stk rfl, rfl, .of_nv rfl⟩

theorem State.losePower_stands (s : State) : Stands s s.losePower := ⟨.of_stk rfl, rfl, .of_nv rfl⟩

theorem Sfe.stableReached_rings (f : Sfe) : f.stableReached.rings = f.rings := by
  unfold Sfe.stableReached
  split <;> rfl

/-! ### The commands -/

theorem exec_keeps (i : Instr) (s t : State) (h : exec i s = .next t) : KeepsAtRest s t := by
  cases i with
  | powerOnReset straps => cases h; exact s.powerOn_keeps straps
  | nrstAsserted =>
    cases h
    split
    · exact .refl s
    · exact s.holdReset_stands.keeps
    · exact s.holdReset_stands.keeps
  | nrstReleased straps =>
    cases h
    split
    · exact s.endReset_keeps straps
    · exact .refl s
    · exact .refl s
  | powerLoss => cases h; exact s.losePower_stands.keeps
  | frameStrobe => cases h; exact State.whenRunning_keeps s.strobeFrame_stands.keeps
  | ringReply r code parity => cases h; exact State.whenRunning_keeps (s.takeReply_keeps _ _)
  | replyDeadline => cases h; exact State.whenRunning_keeps s.takeDeadline_keeps
  | correlationCompletion => cases h; exact State.whenRunning_keeps s.completeCorrelation_stands.keeps
  | pulseWidthElapsed => cases h; exact State.whenRunning_keeps (Stands.keeps (.of_blocks rfl rfl rfl))
  | gapElapsed => cases h; exact State.whenRunning_keeps (Stands.keeps (.of_blocks rfl rfl rfl))
  | crystalFailure => cases h; exact State.whenRunning_keeps s.crystalFails_stands.keeps
  | stableTimeReached =>
    cases h
    exact State.whenRunning_keeps (Stands.keeps (.of_blocks rfl s.sfe.stableReached_rings rfl))
  | claimExpiry =>
    cases h
    exact State.whenRunning_keeps (s.reachExpiry_stands.trans (State.expireClaim_stands _)).keeps
  | nvWriteCompletion agrees => cases h; exact State.whenRunning_keeps (s.nvComplete_stands agrees).keeps
  | captureCopyCompletion => cases h; exact State.whenRunning_keeps s.copyEnds_stands.keeps
  | byteReceived p x framingError => cases h; exact State.whenRunning_keeps (s.receive_keeps p x framingError)
  | idleGapElapsed p => cases h; exact State.whenRunning_keeps (s.setPort_stands _ _).keeps
  | interByteTimeout p => cases h; exact State.whenRunning_keeps (s.byteTimeout_stands p).keeps
  | unknownCommand p code =>
    cases h
    split
    · exact .refl s
    · exact s.request_keeps _ _ _ (.refl s)
  | responseStart p => cases h; exact State.whenRunning_keeps (s.startResponse_stands p).keeps
  | responseEnd p => cases h; exact State.whenRunning_keeps (s.setPort_stands _ _).keeps
  | identify p | readFlow p | readPairs p | readDeparted p | readHealth p | readTotals p | readStats p
  | readFaults p => cases h; exact s.request_keeps _ _ _ (.refl s)
  | readSlugs p start => cases h; exact s.request_keeps _ _ _ (s.answerSlugs_stands _).keeps
  | takeEvents p remove | clearFaults p | clearStats p =>
    cases h
    exact s.request_keeps _ _ _ (Stands.keeps (.of_blocks rfl rfl rfl))
  | setAttention p enable threshold =>
    cases h
    exact s.request_keeps _ _ _ (s.answerAttention_stands _ _ _).keeps
  | openEdit p => cases h; exact s.request_keeps _ _ _ (s.answerOpen_stands _).keeps
  | writeField p field value => cases h; exact s.request_keeps _ _ _ (s.answerWrite_stands _ _ _).keeps
  | readField p field slot => cases h; exact s.request_keeps _ _ _ (s.answerRead_stands _ _).keeps
  | commitEdit p => cases h; exact s.request_keeps _ _ _ (s.answerCommit_stands _).keeps
  | dropEdit p => cases h; exact s.request_keeps _ _ _ (s.answerDrop_stands _).keeps
  | clearTotals p => cases h; exact s.request_keeps _ _ _ (s.answerClearTotals_stands _).keeps
  | guardRelease p => cases h; exact s.request_keeps _ _ _ s.answerRelease_stands.keeps
  | flushBegin p => cases h; exact s.request_keeps _ _ _ s.answerFlushBegin_stands.keeps
  | flushEnd p => cases h; exact s.request_keeps _ _ _ s.answerFlushEnd_stands.keeps
  | restart p => cases h; exact s.request_keeps _ _ _ s.restartBlocks_keeps
  | armCapture p content which trigger => cases h; exact s.request_keeps _ _ _ (s.answerArm_stands _ _ _ _).keeps
  | readCapture p offset => cases h; exact s.request_keeps _ _ _ (s.answerReadCapture_stands _ _).keeps
  | releaseCapture p => cases h; exact s.request_keeps _ _ _ (s.answerReleaseCapture_stands _).keeps

theorem step_keeps (s t : State) (h : step s = .next t) : KeepsAtRest s t := by
  unfold step at h
  split at h
  · cases h
    exact s.tick_stands.keeps
  · next c rest _ =>
    have taken : Stands s (s.setPending rest) := .of_blocks rfl rfl rfl
    exact taken.keeps.trans (exec_keeps c _ t h)

/-- Settles O25: every step passes the three invariants on, most of them because they leave what the invariants
speak of, and the starts, the frames and the boundaries by what they make of it. -/
theorem trackerAndRingsKept : Obligations.TrackerAndRingsKept :=
  ⟨fun s t hs h => (step_keeps s t h).fits hs, fun s t hs h => (step_keeps s t h).thresholds hs,
    fun s t hs h => (step_keeps s t h).unconfigured hs⟩

end Sys2Proof.Machine
end

section
/-!
SUPPORT. The detectors' part of a frame, taken apart: what the detectors do to the frame's samples is decided before
any detection is handled, since the handling of a detection neither reads nor moves a detector (R48 to R51, R56).
-/

namespace Sys2Proof.Machine

open Sys2Proof.Claim

/-! ### Detectors set at once -/

/-- The state with other detectors and other counts of runts and long slugs. -/
def State.atDetectors (d : PerRing Detector) (runts long : Nat) (s : State) : State :=
  { s with
    stk := { s.stk with rings := s.stk.rings.map fun r x => { x with detector := d.get r } }
    efu := { s.efu with stats := { s.efu.stats with runts := runts, long := long } } }

theorem State.atDetectors_runts (d : PerRing Detector) (m n : Nat) (s : State) :
    (s.atDetectors d m n).efu.stats.runts = m := rfl

theorem State.atDetectors_long (d : PerRing Detector) (m n : Nat) (s : State) :
    (s.atDetectors d m n).efu.stats.long = n := rfl

theorem State.atDetectors_atDetectors (d e : PerRing Detector) (j k m n : Nat) (s : State) :
    (s.atDetectors d j k).atDetectors e m n = s.atDetectors e m n := rfl

/-- A completion of a record with an arrival (R62). -/
theorem State.completeSlug_some (x : SlugRecord) (a : Arrival) (s : State) (h : x.arrivals.getLast? = some a) :
    s.completeSlug x
      = let dist := spacing s.active x.origin a.ring
        let transit := (indexDiff a.onset x.onset).toNat
        let vs := slugVelocity dist s.active.fs transit
        if 0 < indexDiff a.onset x.onset then
          if 0 < vs ∧ 0 < s.active.stationDistance then (s.timeSlug dist transit).depart x a.onset vs
          else s.timeSlug dist transit
        else s.count fun c => { c with slugsCompleted := satAdd c.slugsCompleted 1 } := by
  unfold State.completeSlug
  rw [h]
  rfl

/-! ### The handling of a detection beside the detectors (R56 to R67) -/

section
variable (d : PerRing Detector) (m n : Nat)

theorem State.atDetectors_active (s : State) : (s.atDetectors d m n).active = s.active := rfl

theorem State.atDetectors_nextLive (r : Ring) (s : State) : (s.atDetectors d m n).nextLive r = s.nextLive r := rfl

theorem State.postCaptureDone_atDetectors (s : State) :
    (s.atDetectors d m n).postCaptureDone = s.postCaptureDone.atDetectors d m n := by
  unfold State.postCaptureDone
  have cap : (s.atDetectors d m n).cap = s.cap := rfl
  rw [cap]
  cases s.cap.owner <;> rfl

theorem State.completeEmpty_atDetectors (s : State) :
    (s.atDetectors d m n).completeEmpty = s.completeEmpty.atDetectors d m n :=
  State.postCaptureDone_atDetectors d m n (s.setCap _)

theorem State.triggerCapture_atDetectors (s : State) :
    (s.atDetectors d m n).triggerCapture = s.triggerCapture.atDetectors d m n := by
  unfold State.triggerCapture
  have content : (s.atDetectors d m n).cap = s.cap := rfl
  rw [content, State.atDetectors_active]
  split
  · split
    · rfl
    · exact State.completeEmpty_atDetectors d m n (s.setCap _)
  · rfl

theorem State.post_atDetectors (k : EventKind) (s : State) :
    (s.atDetectors d m n).post k = (s.post k).atDetectors d m n := by
  show (if s.cap.waitsFor k then ((s.addKind k).atDetectors d m n).triggerCapture else (s.addKind k).atDetectors d m n)
    = _
  rw [State.post_eq]
  split
  · exact State.triggerCapture_atDetectors d m n _
  · rfl

theorem State.depart_atDetectors (x : SlugRecord) (last : Index) (vs : Nat) (s : State) :
    (s.atDetectors d m n).depart x last vs = (s.depart x last vs).atDetectors d m n := by
  unfold State.depart
  rw [← State.post_atDetectors]
  rfl

theorem State.timeSlug_atDetectors (dist transit : Nat) (s : State) :
    (s.atDetectors d m n).timeSlug dist transit = (s.timeSlug dist transit).atDetectors d m n := rfl

theorem State.completeSlug_atDetectors (x : SlugRecord) (s : State) :
    (s.atDetectors d m n).completeSlug x = (s.completeSlug x).atDetectors d m n := by
  cases h : x.arrivals.getLast? with
  | none => simp only [State.completeSlug, h]
  | some a =>
    rw [State.completeSlug_some x a _ h, State.completeSlug_some x a s h]
    simp only [State.atDetectors_active, State.timeSlug_atDetectors, State.depart_atDetectors]
    split
    · split <;> rfl
    · rfl

theorem State.mapTrack_atDetectors (r : Ring) (f : RingTrack → RingTrack) (s : State)
    (h : ∀ x e, f { x with detector := e } = { f x with detector := e }) :
    (s.atDetectors d m n).mapTrack r f = (s.mapTrack r f).atDetectors d m n := by
  have rings : (s.stk.rings.map fun r x => { x with detector := d.get r }).set r
      (f { s.stk.rings.get r with detector := d.get r })
      = (s.stk.rings.set r (f (s.stk.rings.get r))).map fun r x => { x with detector := d.get r } := by
    refine PerRing.ext_get _ _ fun k => ?_
    simp only [PerRing.get_set, PerRing.get_map]
    split
    · next hk => rw [h, hk]
    · rfl
  simp only [State.mapTrack, State.atDetectors, State.setStk, PerRing.get_map, rings]

theorem State.arrive_atDetectors (q : SlugRecord → Bool) (x : SlugRecord) (r : Ring) (onset : Index) (s : State) :
    (s.atDetectors d m n).arrive q x r onset = (s.arrive q x r onset).atDetectors d m n := by
  unfold State.arrive
  rw [State.atDetectors_nextLive]
  cases s.nextLive r with
  | some next => rfl
  | none =>
    simp only
    rw [← State.completeSlug_atDetectors]
    rfl

theorem State.count_atDetectors (f : Stats → Stats) (s : State)
    (h : ∀ (c : Stats) j k, f { c with runts := j, long := k } = { f c with runts := j, long := k }) :
    (s.atDetectors d m n).count f = (s.count f).atDetectors d m n := by
  simp only [State.count, State.atDetectors, State.setEfu]
  rw [h]

theorem State.charge_atDetectors (r : Ring) (s : State) :
    (s.atDetectors d m n).charge r = (s.charge r).atDetectors d m n :=
  s.mapTrack_atDetectors d m n r _ fun _ _ => rfl

theorem State.detection_atDetectors (r : Ring) (onset : Index) (peak width : Nat) (s : State) :
    (s.atDetectors d m n).detection r onset peak width = (s.detection r onset peak width).atDetectors d m n := by
  unfold State.detection
  simp only
  rw [State.mapTrack_atDetectors d m n r _ s fun _ _ => rfl]
  generalize (s.mapTrack r fun x => { x with detected := true }) = u
  have table : (u.atDetectors d m n).stk.table = u.stk.table := rfl
  have chain : (u.atDetectors d m n).chain = u.chain := rfl
  rw [table, chain, State.atDetectors_nextLive]
  split
  · exact u.arrive_atDetectors d m n _ _ _ _
  · split
    · split
      · rfl
      · rfl
    · rw [State.count_atDetectors d m n _ u fun _ _ _ => rfl]
      exact State.charge_atDetectors d m n r _

theorem State.handleEnd_atDetectors (r : Ring) (e : SlugEnd) (s : State) :
    (s.atDetectors d m n).handleEnd r e = (s.handleEnd r e).atDetectors d m n := by
  cases e with
  | detection onset peak width => exact s.detection_atDetectors d m n r onset peak width
  | _ => rfl

end

/-! ### The detectors before the detections (R48) -/

theorem bump_bump (j k c : Nat) : bump j (bump k c) = bump (k + j) c := by
  unfold bump plus
  split_ifs <;> omega

/-- What a ring's detector makes of the newest sample: nothing where the ring is not live (R48). -/
def State.sampleOut (i : Index) (r : Ring) (s : State) : Detector × SlugEnd :=
  if s.isLive r then s.detectorOut i r else ((s.stk.rings.get r).detector, .nothing)

/-- A detector's step is a change of the detectors and of the two counts. -/
theorem State.advance_eq (r : Ring) (out : Detector × SlugEnd) (s : State) :
    s.advance r out = s.atDetectors (PerRing.build fun k => if k = r then out.1 else (s.stk.rings.get k).detector)
      (bump (if out.2 = .runt then 1 else 0) s.efu.stats.runts)
      (bump (if out.2 = .long then 1 else 0) s.efu.stats.long) := by
  have rings : s.stk.rings.set r { s.stk.rings.get r with detector := out.1 }
      = s.stk.rings.map fun k x => { x with
        detector := (PerRing.build fun k => if k = r then out.1 else (s.stk.rings.get k).detector).get k } := by
    refine PerRing.ext_get _ _ fun k => ?_
    simp only [PerRing.get_set, PerRing.get_map, PerRing.get_build]
    split
    · next hk => rw [hk]
    · rfl
  obtain ⟨d, e⟩ := out
  unfold State.advance State.atDetectors
  simp only at rings
  rw [← rings]
  cases e <;> simp [State.mapTrack, State.count, State.setEfu, State.setStk, bump, plus_eq_satAdd]

/-- A ring's part of a frame, live or not. -/
theorem State.trackRing_sampleOut (i : Index) (r : Ring) (s : State) :
    s.trackRing i r = (s.advance r (s.sampleOut i r)).handleEnd r (s.sampleOut i r).2 := by
  rw [State.trackRing_eq]
  unfold State.sampleOut
  split
  · rfl
  · have same : s.stk.rings.set r { s.stk.rings.get r with detector := (s.stk.rings.get r).detector } = s.stk.rings :=
      PerRing.set_get _ _
    simp only [State.advance, State.handleEnd, State.mapTrack, State.setStk, same]

/-- A ring's part of a frame leaves what the detectors of the other rings will make of it. -/
theorem State.trackRing_sampleOut_ne (i : Index) (r k : Ring) (s : State) (h : k ≠ r) :
    (s.trackRing i r).sampleOut i k = s.sampleOut i k
    ∧ ((s.trackRing i r).stk.rings.get k).detector = (s.stk.rings.get k).detector := by
  have same : (s.trackRing i r).sfe = s.sfe ∧ (s.trackRing i r).pst = s.pst := by
    obtain ⟨_, _, _, hw⟩ := (s.trackRing_work i r).blocks
    rw [hw]
    exact ⟨rfl, rfl⟩
  have theta := s.trackRing_thresholds i r k
  have detector : ((s.trackRing i r).stk.rings.get k).detector = (s.stk.rings.get k).detector := by
    rw [State.trackRing_sampleOut, ((State.handleEnd_sameDetectors r _ _).1 k).1, State.advance_eq]
    simp [State.atDetectors, h]
  refine ⟨?_, detector⟩
  simp only [State.sampleOut, State.detectorOut, State.isLive, State.health, State.active, same.1, same.2, theta, detector]
  rfl

/-- The rings' parts of a frame one after another are all detectors' steps at once and then the detections
(R48, R56). -/
theorem foldl_trackRing (i : Index) (l : List Ring) (s : State) (h : l.Nodup) :
    l.foldl (fun u r => u.trackRing i r) s
      = l.foldl (fun u r => u.handleEnd r (s.sampleOut i r).2)
        (s.atDetectors (PerRing.build fun r => if r ∈ l then (s.sampleOut i r).1 else (s.stk.rings.get r).detector)
          (bump (l.countP fun r => decide ((s.sampleOut i r).2 = .runt)) s.efu.stats.runts)
          (bump (l.countP fun r => decide ((s.sampleOut i r).2 = .long)) s.efu.stats.long)) := by
  induction l generalizing s with
  | nil =>
    have same : s.stk.rings.map (fun r x => { x with detector := (s.stk.rings.get r).detector }) = s.stk.rings :=
      PerRing.ext_get _ _ fun k => by simp
    simp [State.atDetectors, bump, same]
  | cons r l ih =>
    obtain ⟨fresh, distinct⟩ := List.nodup_cons.1 h
    have others : ∀ k ∈ l, (s.trackRing i r).sampleOut i k = s.sampleOut i k := fun k hk =>
      (s.trackRing_sampleOut_ne i r k fun e => fresh (e ▸ hk)).1
    have counted (what : SlugEnd) : (l.countP fun k => decide (((s.trackRing i r).sampleOut i k).2 = what))
        = l.countP fun k => decide ((s.sampleOut i k).2 = what) :=
      List.countP_congr fun k hk => by rw [others k hk]
    obtain ⟨detectors, runts, long⟩ := (s.advance r (s.sampleOut i r)).handleEnd_sameDetectors r (s.sampleOut i r).2
    rw [← State.trackRing_sampleOut] at detectors runts long
    rw [State.advance_eq] at detectors runts long
    have settled : (PerRing.build fun k => if k ∈ l then ((s.trackRing i r).sampleOut i k).1
          else ((s.trackRing i r).stk.rings.get k).detector)
        = PerRing.build fun k => if k ∈ r :: l then (s.sampleOut i k).1 else (s.stk.rings.get k).detector := by
      refine PerRing.ext_get _ _ fun k => ?_
      simp only [PerRing.get_build, List.mem_cons, (detectors k).1]
      by_cases hk : k ∈ l
      · simp [hk, others k hk]
      · rcases eq_or_ne k r with rfl | hr
        · simp [hk, State.atDetectors]
        · simp [hk, hr, State.atDetectors]
    rw [List.foldl_cons, List.foldl_cons, ih _ distinct, settled, counted, counted, runts, long]
    rw [List.foldl_ext _ (fun u k => u.handleEnd k (s.sampleOut i k).2) _ fun u k hk => by rw [others k hk]]
    congr 1
    rw [State.trackRing_sampleOut, ← State.handleEnd_atDetectors, State.advance_eq, State.atDetectors_atDetectors]
    simp only [State.atDetectors_runts, State.atDetectors_long, bump_bump, List.countP_cons, decide_eq_true_eq,
      Nat.add_comm]

/-- The state of a frame once every detector has taken its sample and no detection is handled (R48). -/
def State.sensed (s : State) : State :=
  let out := fun r => s.sampleOut s.sfe.lastIndex r
  s.atDetectors (PerRing.build fun r => (out r).1)
    (bump (Ring.all.countP fun r => decide ((out r).2 = .runt)) s.efu.stats.runts)
    (bump (Ring.all.countP fun r => decide ((out r).2 = .long)) s.efu.stats.long)

/-- A frame's samples reach all detectors, and then the detections are handled in ring order (R48, R56). -/
theorem State.trackFrame_eq (s : State) :
    s.trackFrame = Ring.all.foldl (fun u r => u.handleEnd r (s.sampleOut s.sfe.lastIndex r).2) s.sensed := by
  have index : ∀ (l : List Ring) (u : State), u.sfe = s.sfe →
      l.foldl (fun u r => u.trackRing u.sfe.lastIndex r) u = l.foldl (fun u r => u.trackRing s.sfe.lastIndex r) u := by
    intro l
    induction l with
    | nil => exact fun _ _ => rfl
    | cons r l ih =>
      intro u hu
      have same : (u.trackRing s.sfe.lastIndex r).sfe = s.sfe := by
        obtain ⟨_, _, _, hw⟩ := (u.trackRing_work s.sfe.lastIndex r).blocks
        rw [hw]
        exact hu
      rw [List.foldl_cons, List.foldl_cons, hu, ih _ same]
  rw [State.trackFrame, index Ring.all s rfl, foldl_trackRing _ _ _ (by decide)]
  simp only [Ring.mem_all, if_true, State.sensed]

theorem State.trackFrame_sameDetectors (s : State) : SameDetectors s.sensed s.trackFrame := by
  rw [State.trackFrame_eq]
  exact foldl_keeps SameDetectors.refl SameDetectors.trans (fun u r => u.handleEnd_sameDetectors r _) _ _

end Sys2Proof.Machine
end

section
/-!
PROOFS. FrameStored: what a frame stores and gives the detectors inside a window, and what of it a boundary leaves
(R3 to R8, R48, R51).
-/

namespace Sys2Proof.Machine

open Sys2Proof.Claim

/-! ### Inside a window -/

/-- What a frame makes of a ring whose sample it stores and of one that is not configured (R3 to R8). -/
theorem State.framed_ring (fr : Frame) (s : State) (r : Ring) :
    (isConfigured s.active r = true →
      (s.framed fr).sfe.rings.get r = (s.sfe.rings.get r).store s.active.meanShift (fr.replies.get r))
    ∧ (isConfigured s.active r = false → (s.framed fr).sfe.rings.get r = s.sfe.rings.get r) := by
  rw [State.framed_sfe, Sfe.store_ring]
  exact ⟨fun h => if_pos h, fun h => if_neg (by simp [h])⟩

/-- The sample counters after a frame, of a configured ring and of another (R3, R164). -/
theorem State.framed_counts (fr : Frame) (s : State) (r : Ring) :
    (isConfigured s.active r = true → SampleCounted r (fr.replies.get r) s.efu.stats (s.framed fr).efu.stats)
    ∧ (isConfigured s.active r = false →
      (s.framed fr).efu.stats.substituted.get r = s.efu.stats.substituted.get r
      ∧ (s.framed fr).efu.stats.saturated.get r = s.efu.stats.saturated.get r) :=
  Stats.countFrame_ring _ _ _ _ r (s.framed_work fr).substituted (s.framed_work fr).saturated

/-- A frame keeps the health of every ring, and so which rings are live (R13). -/
theorem State.storeFrame_live (fr : Frame) (s : State) (r : Ring) : (s.storeFrame fr).isLive r = live s r := by
  rw [← isLive_eq_live]
  have health : ((s.sfe.store s.active fr).rings.get r).health = (s.sfe.rings.get r).health := by
    rw [Sfe.store_ring]
    split <;> rfl
  show (isConfigured s.active r && ((s.sfe.store s.active fr).rings.get r).health != .failed) = _
  rw [health]
  rfl

/-- What the statement says a detector makes of the new sample is what it makes of it once the frame is stored. -/
theorem State.storeFrame_sampleOut (fr : Frame) (s : State) (r : Ring) :
    (s.storeFrame fr).sampleOut fr.index r
      = if live s r then
          detectorStep s.pst.active (s.stk.rings.get r).theta fr.index
            (-(((s.framed fr).sfe.rings.get r).hist.headD 0)) (s.stk.rings.get r).detector
        else ((s.stk.rings.get r).detector, .nothing) := by
  rw [State.sampleOut, State.storeFrame_live, State.framed_sfe]
  rfl

/-- The state of a frame before its detections, in the words of the statement. -/
theorem State.storeFrame_sensed (fr : Frame) (s : State) (out : Ring → Detector × SlugEnd)
    (h : ∀ r, (s.storeFrame fr).sampleOut fr.index r = out r) :
    (s.storeFrame fr).sensed = { s with
      sfe := (s.framed fr).sfe
      stk := { s.stk with rings := s.stk.rings.map fun r x => { x with detector := (out r).1 } }
      efu := { s.efu with stats := { s.efu.stats with
        substituted := (s.framed fr).efu.stats.substituted
        saturated := (s.framed fr).efu.stats.saturated
        runts := bump (Ring.all.countP fun r => decide ((out r).2 = .runt)) s.efu.stats.runts
        long := bump (Ring.all.countP fun r => decide ((out r).2 = .long)) s.efu.stats.long } } } := by
  obtain rfl : (fun r => (s.storeFrame fr).sampleOut fr.index r) = out := funext h
  rw [(s.framed_work fr).substituted, (s.framed_work fr).saturated, State.framed_sfe]
  have rings : s.stk.rings.map (fun r x => { x with
      detector := (PerRing.build fun r => ((s.storeFrame fr).sampleOut fr.index r).1).get r })
      = s.stk.rings.map fun r x => { x with detector := ((s.storeFrame fr).sampleOut fr.index r).1 } :=
    PerRing.ext_get _ _ fun k => by simp
  rw [← rings]
  rfl

/-- What a frame does in the tracker: the detectors take the samples, and the detections are handled in ring
order (R48, R51, R56). -/
theorem State.framed_sensed (fr : Frame) (s : State) :
    s.framed fr = Ring.all.foldl (fun u r => u.handleEnd r ((s.storeFrame fr).sampleOut fr.index r).2)
        (s.storeFrame fr).sensed
    ∧ SameDetectors (s.storeFrame fr).sensed (s.framed fr) :=
  ⟨(s.storeFrame fr).trackFrame_eq, (s.storeFrame fr).trackFrame_sameDetectors⟩

theorem onlyChanges_framed (fr : Frame) (s : State) : OnlyChanges [.sfe, .stk, .efu, .cap] s (s.framed fr) := by
  rw [onlyChanges_iff, State.framed_eq]
  intro b
  cases b <;> simp [Block.Same]

/-! ### At a boundary -/

/-- What a ring has stored stands: the code, the mean and the history. -/
def SameStored (x y : RingSense) : Prop :=
  y.lastGood = x.lastGood ∧ y.mean = x.mean ∧ y.seeded = x.seeded ∧ y.hist = x.hist

theorem Stored.congr {p : Profile} {reply : Option Reply} {index last : Index} {x y z : RingSense}
    (h : Stored p reply index last x y) (same : SameStored y z) : Stored p reply index last x z := by
  obtain ⟨code, mean, seeded, hist⟩ := same
  unfold Stored
  rw [code, mean, seeded, hist]
  exact h

theorem RingSense.grade_stored (bad : Bool) (x : RingSense) : SameStored x (x.grade bad) := by
  unfold RingSense.grade
  split
  case h_1 | h_2 | h_6 => exact ⟨rfl, rfl, rfl, rfl⟩
  all_goals split <;> exact ⟨rfl, rfl, rfl, rfl⟩

/-- The window's end leaves what a ring has stored (R7, R12). -/
theorem State.windowClosed_stored (s : State) (r : Ring) :
    SameStored (s.sfe.rings.get r) (s.windowClosed.sfe.rings.get r) := by
  rw [State.windowClosed_ring]
  split
  · split
    · exact ⟨rfl, rfl, rfl, rfl⟩
    · exact RingSense.grade_stored _ _
  · exact ⟨rfl, rfl, rfl, rfl⟩

/-- Every boundary leaves the last good codes; a geometry commit flushes the histories alone (R14, R15). -/
theorem State.boundary_lastGood (s : State) (r : Ring) :
    (s.boundary.sfe.rings.get r).lastGood = (s.sfe.rings.get r).lastGood := by
  rw [← (s.windowClosed_stored r).1, State.boundary_ring, State.boundarySfe]
  split
  · simp only [Sfe.dropTallies, Sfe.flush, PerRing.get_map]
    split <;> rfl
  · rfl

/-- Every boundary leaves the frame and the indices. -/
theorem State.boundary_indices (s : State) :
    s.boundary.sfe.frame = s.sfe.frame ∧ s.boundary.sfe.lastIndex = s.sfe.lastIndex
    ∧ s.boundary.sfe.nextIndex = s.sfe.nextIndex := by
  obtain ⟨next, last, _, _, _, _, _, _, frame⟩ := s.boundary_front
  have closed : s.windowClosed.sfe.frame = s.sfe.frame ∧ s.windowClosed.sfe.lastIndex = s.sfe.lastIndex
      ∧ s.windowClosed.sfe.nextIndex = s.sfe.nextIndex := by
    show (Sfe.settleClock _).frame = _ ∧ (Sfe.settleClock _).lastIndex = _ ∧ (Sfe.settleClock _).nextIndex = _
    unfold Sfe.settleClock
    split <;> exact ⟨rfl, rfl, rfl⟩
  rw [next, last, frame, State.boundarySfe]
  split <;> exact closed

/-- A boundary without a geometry commit leaves the fill count and what the rings have stored. -/
theorem State.boundary_plain_stored (s : State) (hg : s.pst.geometryPending = false) :
    s.boundary.sfe.fill = s.sfe.fill
    ∧ ∀ r, SameStored (s.sfe.rings.get r) (s.boundary.sfe.rings.get r)
      ∧ (isConfigured s.active r = false → s.boundary.sfe.rings.get r = s.sfe.rings.get r) := by
  obtain ⟨_, _, _, fill, _⟩ := s.boundary_front
  refine ⟨?_, fun r => ?_⟩
  · rw [fill, s.boundarySfe_plain hg]
    show (Sfe.settleClock _).fill = _
    unfold Sfe.settleClock
    split <;> rfl
  · rw [State.boundary_ring, s.boundarySfe_plain hg]
    exact ⟨s.windowClosed_stored r, fun hr => by rw [State.windowClosed_ring, if_neg (by simp [hr])]⟩

/-- A frame that closes the window counts its samples as any frame does (R3, R164). -/
theorem State.framed_boundary_counts (fr : Frame) (s : State) (r : Ring) :
    (isConfigured s.active r = true →
      SampleCounted r (fr.replies.get r) s.efu.stats (s.framed fr).boundary.efu.stats)
    ∧ (isConfigured s.active r = false →
      (s.framed fr).boundary.efu.stats.substituted.get r = s.efu.stats.substituted.get r
      ∧ (s.framed fr).boundary.efu.stats.saturated.get r = s.efu.stats.saturated.get r) := by
  have start := (s.framed fr).boundaryCore_start
  obtain ⟨_, _, _, _, substituted, saturated⟩ := (s.framed fr).boundary_end.steady.counts
  exact Stats.countFrame_ring _ _ _ _ r
    (substituted.trans (start.substituted.trans (s.framed_work fr).substituted))
    (saturated.trans (start.saturated.trans (s.framed_work fr).saturated))

/-! ### The statement -/

theorem not_configured_iff (s : State) (r : Ring) : ¬ Configured s r ↔ isConfigured s.active r = false := by
  rw [configured_iff, Bool.not_eq_true]

/-- Settles O15: inside a window the frame's state is the detections handled on the state that the detectors leave,
and a boundary leaves of a stored frame the indices, the last good codes, the counters and, where no geometry
commit flushes it, the rest. -/
theorem frameStored : Obligations.FrameStored := by
  unfold Obligations.FrameStored
  refine ⟨fun fr s h hw => ⟨s.framed fr, exec_replyDeadline_inside fr s h hw, onlyChanges_framed fr s, ?_⟩,
    fun fr s h => ⟨(s.framed fr).boundary, exec_replyDeadline_boundary fr s h, ?_⟩⟩
  · obtain ⟨tracked, detectors, runts, long⟩ := s.framed_sensed fr
    have fields : (s.framed fr).sfe = s.sfe.store s.active fr := s.framed_sfe fr
    refine ⟨by rw [fields]; rfl, by rw [fields]; rfl, by rw [fields]; rfl, by rw [fields]; rfl, by rw [fields]; rfl,
      by rw [fields]; rfl, by rw [fields]; rfl, by rw [fields]; rfl, by rw [fields]; rfl, fun r hr => ?_, ?_,
      fun r hr => ?_⟩
    · rw [not_configured_iff] at hr
      exact ⟨(s.framed_ring fr r).2 hr, (s.framed_counts fr r).2 hr⟩
    · intro out counted base
      have outs : ∀ r, (s.storeFrame fr).sampleOut fr.index r = out r := s.storeFrame_sampleOut fr
      have sensed : (s.storeFrame fr).sensed = base := s.storeFrame_sensed fr out outs
      rw [sensed] at tracked detectors runts long
      refine ⟨fun r => ?_, runts, long, ?_⟩
      · obtain ⟨detector, theta, quiet⟩ := detectors r
        refine ⟨detector.trans ?_, theta.trans ?_, quiet.trans ?_⟩ <;> simp [base]
      · rw [tracked]
        refine List.foldl_ext _ _ _ fun u r _ => ?_
        rw [outs]
        unfold State.handleEnd
        cases (out r).2 <;> rfl
    · rw [configured_iff] at hr
      have stored := (s.framed_ring fr r).1 hr
      simp only [stored]
      exact ⟨RingSense.store_stored _ _ _ _ _, RingSense.store_tallied _ _ _, (s.framed_counts fr r).1 hr, rfl, rfl, rfl,
        rfl⟩
  · obtain ⟨frame, last, next⟩ := (s.framed fr).boundary_indices
    have fields : (s.framed fr).sfe = s.sfe.store s.active fr := s.framed_sfe fr
    rw [fields] at frame last next
    refine ⟨frame, last, next, fun r hr => ?_, fun r hr => ?_, fun hc => ?_⟩
    · rw [not_configured_iff] at hr
      rw [State.boundary_lastGood, (s.framed_ring fr r).2 hr]
      exact ⟨rfl, (s.framed_boundary_counts fr r).2 hr⟩
    · rw [configured_iff] at hr
      rw [State.boundary_lastGood, (s.framed_ring fr r).1 hr]
      exact ⟨RingSense.codeFor_eq _ _, (s.framed_boundary_counts fr r).1 hr⟩
    · have plain : (s.framed fr).pst.geometryPending = false := by
        rw [State.framed_pst]
        exact closes_plain fr s hc
      obtain ⟨fill, rings⟩ := (s.framed fr).boundary_plain_stored plain
      refine ⟨by rw [fill, fields]; rfl, fun r hr => ?_, fun r hr => ?_⟩
      · rw [not_configured_iff] at hr
        rw [(rings r).2 (by rwa [State.framed_active]), (s.framed_ring fr r).2 hr]
      · rw [configured_iff] at hr
        have same := (rings r).1
        rw [(s.framed_ring fr r).1 hr] at same
        exact Stored.congr (RingSense.store_stored _ _ _ _ _) same

end Sys2Proof.Machine
end

section
/-!
SUPPORT. The pair table of a chain (R23 to R26): what an acceptable profile says of the lags, and what a slot holds.
-/

namespace Sys2Proof.Machine

open Sys2Proof.Claim

/-! ### The lags of an acceptable profile (R25, R26, R140) -/

theorem spacing_eq_gapsBetween (p : Profile) (up down : Ring) : spacing p up down = gapsBetween p up down := by
  cases up <;> cases down <;> simp [spacing, gapsBetween, Ring.num, Nat.add_assoc]

theorem Profile.accepted_field (p : Profile) (k : Nat) (h : p.accepted = true) (hk : isField k = true) :
    p.fieldInRange k = true := p.inRange_iff.1 (p.accepted_inRange h) k hk

theorem Profile.accepted_vMin (p : Profile) (h : p.accepted = true) : 0 < p.vMin := by
  have range := p.accepted_field 9 h (by decide)
  simp [Profile.fieldInRange, isPointField, scalarInRange, fieldRange, Profile.scalar] at range
  omega

theorem Profile.accepted_n (p : Profile) (h : p.accepted = true) : p.n ≤ 512 := by
  have range := p.accepted_field 6 h (by decide)
  simp [Profile.fieldInRange, isPointField, scalarInRange, Profile.scalar] at range
  omega

/-- Checks 1 and 5 of an acceptable profile (R140). -/
theorem Profile.accepted_checks (p : Profile) (h : p.accepted = true) : p.vMin < p.vMax ∧ p.failedGap = none := by
  obtain ⟨_, none⟩ := Bool.and_eq_true_iff.1 h
  unfold Profile.firstFailure at none
  split at none
  · cases none
  · next first =>
    refine ⟨not_not.1 first, ?_⟩
    split at none
    · cases none
    · split at none
      · cases none
      · split at none
        · cases none
        · split at none
          · cases none
          · assumption

/-- The gap between two adjacent configured rings is formable (R140, check 5). -/
theorem Profile.accepted_gap (p : Profile) (h : p.accepted = true) (up down : Ring) (next : down.num = up.num + 1)
    (configured : down.num < p.ringCount) : p.formable (spacing p up down) = true := by
  have gap : (up.num, spacing p up down) ∈ p.gaps := by
    simp only [Profile.gaps, List.mem_filter, decide_eq_true_eq]
    refine ⟨?_, by omega⟩
    revert next
    cases up <;> cases down <;> simp [Ring.num, spacing]
  have passes := (p.accepted_checks h).2
  rw [Profile.failedGap, Option.map_eq_none_iff, List.find?_eq_none] at passes
  simpa using passes _ gap

/-- A formable spacing has a lag range that is not empty, starts at 1 or above and fits the history (R25, R26). -/
theorem Profile.formable_iff (p : Profile) (s : Nat) : p.formable s = true ↔ 1 ≤ p.lmin s ∧ p.lmin s < p.lagLimit := by
  simp [Profile.formable]

theorem Profile.lmin_le_lmaxUncapped (p : Profile) (s : Nat) (positive : 0 < p.vMin) (h : p.vMin < p.vMax) :
    p.lmin s ≤ p.lmaxUncapped s :=
  calc s * p.fs / p.vMax ≤ s * p.fs / p.vMin := Nat.div_le_div_left h.le positive
    _ ≤ (s * p.fs + p.vMin - 1) / p.vMin := Nat.div_le_div_right (by omega)

/-! ### The slots of a table (R23, R24) -/

theorem candidateAt_eq_some (p : Profile) (chain : List Ring) (k : Slot) (e : PairEntry) :
    candidateAt p chain k = some e
      ↔ ∃ up down, chain[k.num]? = some up ∧ chain[k.num + 1]? = some down ∧ e = candidate p k up down := by
  unfold candidateAt
  split
  · next up down hu hd =>
    rw [Option.some_inj]
    refine ⟨fun h => ⟨up, down, hu, hd, h.symm⟩, fun ⟨_, _, hu', hd', he⟩ => ?_⟩
    rw [he, Option.some_inj.1 (hu.symm.trans hu'), Option.some_inj.1 (hd.symm.trans hd')]
  · next none => exact ⟨nofun, fun ⟨up, down, hu, hd, _⟩ => absurd hd (none up down hu)⟩

theorem buildTable_get (p : Profile) (chain : List Ring) (k : Slot) :
    (buildTable p chain).get k = (candidateAt p chain k).filter fun e => p.formable e.spacing := by
  rw [buildTable, PerSlot.get_map]

/-- A slot that holds a pair holds the formable candidate of its two rings (R23, R26). -/
theorem buildTable_eq_some (p : Profile) (chain : List Ring) (k : Slot) (e : PairEntry) :
    (buildTable p chain).get k = some e
      ↔ ∃ up down, chain[k.num]? = some up ∧ chain[k.num + 1]? = some down ∧ e = candidate p k up down
        ∧ p.formable (spacing p up down) = true := by
  rw [buildTable_get, Option.filter_eq_some_iff, candidateAt_eq_some]
  constructor
  · rintro ⟨⟨up, down, hu, hd, rfl⟩, formable⟩
    exact ⟨up, down, hu, hd, rfl, formable⟩
  · rintro ⟨up, down, hu, hd, rfl, formable⟩
    exact ⟨⟨up, down, hu, hd, rfl⟩, formable⟩

/-- An absent slot with two rings of its own has an unformable candidate (R26). -/
theorem buildTable_eq_none (p : Profile) (chain : List Ring) (k : Slot) (up down : Ring)
    (hu : chain[k.num]? = some up) (hd : chain[k.num + 1]? = some down) (h : (buildTable p chain).get k = none) :
    p.formable (spacing p up down) = false := by
  rw [buildTable_get, (candidateAt_eq_some p chain k _).2 ⟨up, down, hu, hd, rfl⟩, Option.filter_eq_none_iff] at h
  simpa [candidate] using h

/-- The lag range of a formable candidate (R25). -/
theorem candidate_lags (p : Profile) (k : Slot) (up down : Ring) (accepted : p.accepted = true)
    (formable : p.formable (spacing p up down) = true) :
    let e := candidate p k up down
    1 ≤ e.lmin ∧ e.lmin ≤ e.lmax ∧ e.lmax ≤ p.lagLimit ∧ e.lmax ≤ e.lmin + 511 := by
  obtain ⟨below, above⟩ := (p.formable_iff _).1 formable
  have ordered := p.lmin_le_lmaxUncapped (spacing p up down) (p.accepted_vMin accepted) (p.accepted_checks accepted).1
  simp only [candidate, Profile.lagCap]
  omega

/-- RANGE_CUT tells whether a bound cut the upper end of the range (R25). -/
theorem candidate_rangeCut (p : Profile) (k : Slot) (up down : Ring) :
    let e := candidate p k up down
    (e.rangeCut = false → e.lmax = p.lmaxUncapped e.spacing)
    ∧ (e.rangeCut = true → e.lmax < p.lmaxUncapped e.spacing ∧ (e.lmax = p.lagLimit ∨ e.lmax = e.lmin + 511)) := by
  intro e
  have cut : e.lmax = min (p.lmaxUncapped e.spacing) (min p.lagLimit (e.lmin + 511)) := rfl
  rw [cut]
  refine ⟨fun h => min_eq_left (not_lt.1 (of_decide_eq_false h)), fun h => ?_⟩
  have capped : min p.lagLimit (e.lmin + 511) < p.lmaxUncapped e.spacing := of_decide_eq_true h
  omega

/-! ### Chains (R23) -/

/-- The rings of a chain stand in order along the spool. -/
theorem chain_ordered (live : Ring → Bool) (i : Nat) (up down : Ring) (hu : (Ring.all.filter live)[i]? = some up)
    (hd : (Ring.all.filter live)[i + 1]? = some down) : up.num < down.num ∧ live down = true := by
  have sorted : (Ring.all.filter live).Pairwise fun x y => x.num < y.num :=
    List.Pairwise.sublist List.filter_sublist (by decide)
  obtain ⟨hi, rfl⟩ := List.getElem?_eq_some_iff.1 hu
  obtain ⟨hj, rfl⟩ := List.getElem?_eq_some_iff.1 hd
  exact ⟨List.pairwise_iff_getElem.1 sorted i (i + 1) hi hj (Nat.lt_succ_self i),
    (List.mem_filter.1 (List.getElem_mem hj)).2⟩

end Sys2Proof.Machine
end

section
/-!
PROOFS. PairTableOfChain: the table's facts, and the bounds that every command keeps for a correlation in flight
(R25, R26, R29).
-/

namespace Sys2Proof.Machine

open Sys2Proof.Claim

/-! ### The facts about a table -/

/-- What a slot that holds a pair says (R23 to R26). -/
theorem buildTable_pair (p : Profile) (live : Ring → Bool) (k : Slot) (e : PairEntry) (accepted : p.accepted = true)
    (h : (buildTable p (Ring.all.filter live)).get k = some e) :
    1 ≤ e.lmin ∧ e.lmin ≤ e.lmax ∧ e.lmax ≤ p.lagLimit ∧ e.lmax ≤ e.lmin + 511 := by
  obtain ⟨up, down, _, _, rfl, formable⟩ := (buildTable_eq_some _ _ _ _).1 h
  exact candidate_lags p k up down accepted formable

/-- An absent slot with two rings of its own has a bridged pair, and its Lmin is out of bounds (R26). -/
theorem buildTable_absent (p : Profile) (live : Ring → Bool) (k : Slot) (up down : Ring) (accepted : p.accepted = true)
    (configured : ∀ r, live r = true → r.num < p.ringCount) (hu : (Ring.all.filter live)[k.num]? = some up)
    (hd : (Ring.all.filter live)[k.num + 1]? = some down)
    (h : (buildTable p (Ring.all.filter live)).get k = none) :
    up.num + 1 < down.num ∧ (p.lmin (spacing p up down) < 1 ∨ p.lagLimit ≤ p.lmin (spacing p up down)) := by
  have unformable := buildTable_eq_none _ _ _ up down hu hd h
  obtain ⟨ordered, alive⟩ := chain_ordered live _ up down hu hd
  constructor
  · by_contra adjacent
    have next : down.num = up.num + 1 := by omega
    exact absurd (unformable.symm.trans (p.accepted_gap accepted up down next (configured down alive))) (by decide)
  · rw [Bool.eq_false_iff, ne_eq, Profile.formable_iff] at unformable
    omega

/-! ### A correlation in flight (R29, R33) -/

/-- From `s` to `t` the store stays well-formed and a correlation in flight within its bounds. -/
structure KeepsFlight (s t : State) : Prop where
  wf : s.pst.Wf → t.pst.Wf
  fits : s.pst.Wf → InFlightFits s → InFlightFits t

theorem KeepsFlight.refl (s : State) : KeepsFlight s s := ⟨id, fun _ => id⟩

theorem KeepsFlight.trans {s t u : State} (h : KeepsFlight s t) (g : KeepsFlight t u) : KeepsFlight s u :=
  ⟨g.wf ∘ h.wf, fun hw hf => g.fits (h.wf hw) (h.fits hw hf)⟩

theorem inFlightFits_of_state {s t : State} (h : InFlightFits s) (same : t.xcr.state = s.xcr.state) :
    InFlightFits t := by
  unfold InFlightFits
  rwa [same]

theorem inFlightFits_of_idle {s : State} (idle : s.xcr.state = .idle) : InFlightFits s := by
  intro f hf
  rw [idle] at hf
  rcases hf with hf | hf <;> cases hf

/-- Work that leaves the active profile and the correlator. -/
theorem Stands.keepsFlight {s t : State} (h : Stands s t) (same : t.xcr = s.xcr) : KeepsFlight s t :=
  ⟨h.store.wf, fun _ hf => inFlightFits_of_state hf (by rw [same])⟩

theorem OnlyReports.xcr {s t : State} (h : OnlyReports s t) : t.xcr = s.xcr := by
  obtain ⟨_, _, rfl⟩ := h
  rfl

theorem OnlyEvents.xcr {s t : State} (h : OnlyEvents s t) : t.xcr = s.xcr := h.onlyReports.xcr

theorem OnlyReports.keepsFlight {s t : State} (h : OnlyReports s t) : KeepsFlight s t :=
  h.stands.keepsFlight h.xcr

theorem OnlyEvents.keepsFlight {s t : State} (h : OnlyEvents s t) : KeepsFlight s t := h.onlyReports.keepsFlight

/-- A change of blocks that are neither the store nor the correlator. -/
theorem KeepsFlight.of_blocks {s t : State} (hp : t.pst = s.pst) (hx : t.xcr = s.xcr) : KeepsFlight s t :=
  ⟨fun h => by rwa [hp], fun _ hf => inFlightFits_of_state hf (by rw [hx])⟩

theorem State.whenRunning_keepsFlight {f : State → State} {s : State} (h : KeepsFlight s (f s)) :
    KeepsFlight s (s.whenRunning f) := by
  unfold State.whenRunning
  split
  · exact h
  · exact .refl s

/-! ### What leaves the correlator alone -/

@[simp] theorem State.expireClaim_xcr (s : State) : s.expireClaim.xcr = s.xcr := by
  unfold State.expireClaim
  split <;> simp

@[simp] theorem State.reachExpiry_xcr (s : State) : s.reachExpiry.xcr = s.xcr := by
  unfold State.reachExpiry
  split
  · split <;> rfl
  · rfl

@[simp] theorem State.nvComplete_xcr (agrees : Bool) (s : State) : (s.nvComplete agrees).xcr = s.xcr := by
  unfold State.nvComplete
  split
  · rfl
  · split <;> simp

@[simp] theorem State.crystalFails_xcr (s : State) : s.crystalFails.xcr = s.xcr := by
  unfold State.crystalFails
  split <;> simp

@[simp] theorem State.afterTimeLeft_xcr (s : State) : s.afterTimeLeft.xcr = s.xcr := by
  unfold State.afterTimeLeft
  split <;> rfl

@[simp] theorem State.copyEnds_xcr (s : State) : s.copyEnds.xcr = s.xcr := by
  unfold State.copyEnds
  split
  · exact (s.completeCapture_only _).xcr
  · rfl

@[simp] theorem State.byteTimeout_xcr (p : Port) (s : State) : (s.byteTimeout p).xcr = s.xcr := by
  unfold State.byteTimeout
  split <;> rfl

@[simp] theorem State.startResponse_xcr (p : Port) (s : State) : (s.startResponse p).xcr = s.xcr := by
  unfold State.startResponse
  simp only
  split
  · split <;> rfl
  · rfl

@[simp] theorem State.strobeFrame_xcr (s : State) : s.strobeFrame.xcr = s.xcr := by
  unfold State.strobeFrame
  split <;> rfl

@[simp] theorem State.tick_xcr (s : State) : s.tick.xcr = s.xcr := by
  by_cases h : s.power = .running
  · obtain ⟨m, c, ticked, _⟩ := s.tick_blocks h
    rw [ticked]
  · rw [State.tick, State.whenRunning_not _ _ h]

/-! ### The answers -/

@[simp] theorem State.answerSlugs_xcr (start : Byte) (s : State) : (s.answerSlugs start).state.xcr = s.xcr := by
  unfold State.answerSlugs
  split <;> rfl

@[simp] theorem State.answerAttention_xcr (p : Port) (e : EventSet) (th : Byte) (s : State) :
    (s.answerAttention p e th).state.xcr = s.xcr := by
  unfold State.answerAttention
  split <;> rfl

@[simp] theorem State.answerOpen_xcr (p : Port) (s : State) : (s.answerOpen p).state.xcr = s.xcr := by
  unfold State.answerOpen
  split
  · rfl
  · split <;> simp [State.refreshClaim]

@[simp] theorem State.fieldAnswer_xcr (st : Status) (field : Byte) (s : State) :
    (s.fieldAnswer st field).state.xcr = s.xcr := by
  unfold State.fieldAnswer
  simp only
  split <;> rfl

@[simp] theorem State.answerWrite_xcr (p : Port) (field : Byte) (value : BitVec 32) (s : State) :
    (s.answerWrite p field value).state.xcr = s.xcr := by
  unfold State.answerWrite
  split
  · simp
  · split
    · simp
    · split <;> simp [State.refreshClaim]

@[simp] theorem State.answerRead_xcr (field slot : Byte) (s : State) : (s.answerRead field slot).state.xcr = s.xcr := by
  unfold State.answerRead
  split
  · rfl
  · split
    · simp
    · split <;> simp

@[simp] theorem State.answerCommit_xcr (p : Port) (s : State) : (s.answerCommit p).state.xcr = s.xcr := by
  unfold State.answerCommit
  split
  · rfl
  · split
    · rfl
    · split
      · rfl
      · split <;> rfl

@[simp] theorem State.answerDrop_xcr (p : Port) (s : State) : (s.answerDrop p).state.xcr = s.xcr := by
  unfold State.answerDrop
  split
  · rfl
  · split <;> rfl

@[simp] theorem State.answerClearTotals_xcr (p : Port) (s : State) : (s.answerClearTotals p).state.xcr = s.xcr := by
  unfold State.answerClearTotals
  simp only
  split <;> rfl

@[simp] theorem State.answerRelease_xcr (s : State) : s.answerRelease.state.xcr = s.xcr := by
  unfold State.answerRelease
  simp only
  split <;> rfl

@[simp] theorem State.answerFlushBegin_xcr (s : State) : s.answerFlushBegin.state.xcr = s.xcr := by
  unfold State.answerFlushBegin
  split <;> rfl

@[simp] theorem State.answerFlushEnd_xcr (s : State) : s.answerFlushEnd.state.xcr = s.xcr := by
  unfold State.answerFlushEnd
  simp only
  split
  · simp only
    split <;> simp
  · rfl

@[simp] theorem State.answerArm_xcr (p : Port) (content which trigger : Byte) (s : State) :
    (s.answerArm p content which trigger).state.xcr = s.xcr := by
  unfold State.answerArm State.arm
  split
  · rfl
  · split
    · rfl
    · simp only
      split
      · exact (State.triggerCapture_only _).xcr
      · rfl

@[simp] theorem State.answerReadCapture_xcr (p : Port) (offset : BitVec 16) (s : State) :
    (s.answerReadCapture p offset).state.xcr = s.xcr := by
  unfold State.answerReadCapture
  simp only
  split
  · rfl
  · split
    · rfl
    · split <;> rfl

@[simp] theorem State.answerReleaseCapture_xcr (p : Port) (s : State) :
    (s.answerReleaseCapture p).state.xcr = s.xcr := by
  unfold State.answerReleaseCapture
  split
  · rfl
  · split <;> rfl

/-- A RESTART discards the correlation (R35). -/
theorem State.restartBlocks_keepsFlight (s : State) : KeepsFlight s s.restartBlocks :=
  ⟨id, fun _ _ => inFlightFits_of_idle rfl⟩

theorem State.dispatch_keepsFlight (p : Port) (code : Nat) (payload : List Byte) (s : State) :
    KeepsFlight s (s.dispatch p code payload).state := by
  unfold State.dispatch
  split
  · exact .refl s
  · exact .refl s
  · exact .refl s
  · exact (s.answerSlugs_stands _).keepsFlight (by simp)
  · exact .refl s
  · exact .refl s
  · exact .refl s
  · exact .refl s
  · exact .refl s
  · exact .of_blocks rfl rfl
  · exact (s.answerAttention_stands _ _ _).keepsFlight (by simp)
  · exact (s.answerOpen_stands _).keepsFlight (by simp)
  · exact (s.answerWrite_stands _ _ _).keepsFlight (by simp)
  · exact (s.answerRead_stands _ _).keepsFlight (by simp)
  · exact (s.answerCommit_stands _).keepsFlight (by simp)
  · exact (s.answerDrop_stands _).keepsFlight (by simp)
  · exact (s.answerClearTotals_stands _).keepsFlight (by simp)
  · exact s.answerRelease_stands.keepsFlight (by simp)
  · exact s.answerFlushBegin_stands.keepsFlight (by simp)
  · exact s.answerFlushEnd_stands.keepsFlight (by simp)
  · exact s.restartBlocks_keepsFlight
  · exact (s.answerArm_stands _ _ _ _).keepsFlight (by simp)
  · exact (s.answerReadCapture_stands _ _).keepsFlight (by simp)
  · exact (s.answerReleaseCapture_stands _).keepsFlight (by simp)
  · exact .of_blocks rfl rfl
  · exact .of_blocks rfl rfl
  · exact .refl s

theorem State.handle_keepsFlight (p : Port) (code : Byte) (payload : List Byte) (s : State) :
    KeepsFlight s (s.handle p code payload).state := by
  unfold State.handle
  split
  · exact .refl s
  · split
    · exact s.dispatch_keepsFlight _ _ _
    · exact .refl s

/-! ### The ports (R180 to R185) -/

theorem State.answer_keepsFlight (p : Port) (echo : Byte) (h : State → Answer) (s : State)
    (hk : KeepsFlight s (h s).state) : KeepsFlight s (s.answer p echo h) := hk.trans (.of_blocks rfl rfl)

theorem State.request_keepsFlight (p : Port) (echo : Byte) (h : State → Answer) (s : State)
    (hk : KeepsFlight s (h s).state) : KeepsFlight s (s.request p echo h) := by
  unfold State.request
  split
  · split
    · exact s.answer_keepsFlight p echo h hk
    · exact .of_blocks rfl rfl
    · exact .refl s
  · exact .refl s

theorem State.frameEnds_keepsFlight (p : Port) (buf : List Byte) (s : State) : KeepsFlight s (s.frameEnds p buf) := by
  unfold State.frameEnds
  split
  · exact .of_blocks rfl rfl
  · split
    · split
      · exact s.answer_keepsFlight _ _ _ (s.handle_keepsFlight _ _ _)
      · exact .of_blocks rfl rfl
    · exact .of_blocks rfl rfl

theorem State.receive_keepsFlight (p : Port) (x : Byte) (framingError : Bool) (s : State) :
    KeepsFlight s (s.receive p x framingError) := by
  unfold State.receive
  simp only
  split
  · exact .refl s
  · split
    · exact .of_blocks rfl rfl
    · split <;> exact .of_blocks rfl rfl
    · split
      · exact .of_blocks rfl rfl
      · split
        · exact .of_blocks rfl rfl
        · split
          · exact s.frameEnds_keepsFlight _ _
          · exact .of_blocks rfl rfl

/-! ### Starts, completions and boundaries -/

/-- A POR and an NRST's end leave the correlator IDLE and load an acceptable profile (R47, R148). -/
theorem Started.keepsFlight {straps : PerPort StrapPair} {s t : State} (h : Started (s.startBlocks straps) t)
    (hp : StoreEdited (s.startBlocks straps).pst t.pst) : KeepsFlight s t := by
  obtain ⟨_, _, correlator, _⟩ := s.startBlocks_measurement straps
  obtain ⟨_, _, same, _⟩ := h
  exact ⟨fun _ => hp.wf (s.startBlocks_wf straps), fun _ _ => inFlightFits_of_idle (by rw [same, correlator]; rfl)⟩

theorem State.powerOn_pst (straps : PerPort StrapPair) (s : State) :
    (s.powerOn straps).pst = (s.startBlocks straps).pst := by
  unfold State.powerOn
  simp only
  split <;> simp

theorem State.powerOn_keepsFlight (straps : PerPort StrapPair) (s : State) : KeepsFlight s (s.powerOn straps) :=
  Started.keepsFlight (s.powerOn_started straps) (by rw [State.powerOn_pst]; exact .refl _)

theorem State.endReset_keepsFlight (straps : PerPort StrapPair) (s : State) : KeepsFlight s (s.endReset straps) :=
  Started.keepsFlight (s.endReset_started straps) (.of_nv rfl)

/-- A completion leaves the correlator IDLE (R44). -/
theorem State.complete_xcr (c : Option InFlight) (w : Index) (rs : PerSlot (Option PairResult)) (s : State) :
    (s.complete c w rs).xcr = { s.xcr with state := .idle, results := rs, resultWindow := w } := by
  rw [State.complete_eq, State.publish_xcr, State.completed_xcr]

theorem State.completeCorrelation_keepsFlight (s : State) : KeepsFlight s s.completeCorrelation := by
  unfold State.completeCorrelation
  split
  · exact .refl s
  · exact ⟨(s.complete_stands _ _ _).store.wf, fun _ _ => inFlightFits_of_idle (by rw [State.complete_xcr])⟩

/-- A correlation that a boundary begins fits, where its table is that of a chain under its acceptable profile. -/
theorem newInFlight_fits (s : State) (accepted : s.active.accepted = true) (live : Ring → Bool)
    (table : s.xcr.table = buildTable s.active (Ring.all.filter live)) :
    s.newInFlight.n ≤ 512 ∧ ∀ k e, s.newInFlight.pairs.get k = some e → 1 ≤ e.lmin ∧ e.lmin ≤ e.lmax := by
  refine ⟨s.active.accepted_n accepted, fun k e he => ?_⟩
  have slot : (buildTable s.active (Ring.all.filter live)).get k = some e := by rw [← table]; exact he
  obtain ⟨low, ordered, _⟩ := buildTable_pair _ live k e accepted slot
  exact ⟨low, ordered⟩

theorem State.beginCorrelation_fits (s : State) (accepted : s.active.accepted = true) (live : Ring → Bool)
    (table : s.xcr.table = buildTable s.active (Ring.all.filter live)) : InFlightFits s.beginCorrelation := by
  unfold State.beginCorrelation
  split
  · rintro f (hf | hf)
    · cases hf
      exact newInFlight_fits s accepted live table
    · cases hf
  · exact inFlightFits_of_idle rfl

/-- The correlator's part of a boundary: the correlation in flight is kept as LATE, or one begins under the
profile in force (R29, R33, R34). -/
theorem State.moveCorrelator_fits (s : State) (accepted : s.active.accepted = true) (h : InFlightFits s) :
    InFlightFits s.moveCorrelator := by
  have state : s.rebuildTable.xcr.state = s.xcr.state := rfl
  unfold State.moveCorrelator
  rcases s.rebuildTable.correlatorBoundary_cases with ⟨_, eq⟩ | ⟨f, hs, eq⟩ | ⟨f, _, eq⟩ <;> rw [eq]
  · exact State.beginCorrelation_fits _ accepted s.isLive rfl
  · rintro g (hg | hg)
    · cases hg
    · cases hg
      exact h f (.inl (state ▸ hs))
  · exact State.beginCorrelation_fits _ accepted s.isLive rfl

/-- The later parts of a boundary leave the correlation, or complete one without pairs (R31). -/
theorem State.boundary_state (s : State) :
    s.boundary.xcr.state = s.boundaryCore.xcr.state ∨ s.boundary.xcr.state = .idle := by
  rcases s.boundary_cases with ⟨none, _⟩ | ⟨_, eq⟩
  · rw [(s.boundary_plain none).xcr]
    exact .inl rfl
  · right
    have tracked (u : State) (b : Bool) : (u.trackerWork s.active b).xcr = u.xcr := by
      obtain ⟨_, _, _, h⟩ := u.trackerWork_onlyTracks s.active b
      rw [h]
    rw [eq, State.finishWithCompletion_eq]
    simp only
    rw [(State.takeNotes_onlyReports _ _ _).xcr, State.publicationOn, State.applyClearIfPending_eq]
    simp only
    split
    · rw [State.completeWithoutPairs, State.complete_xcr]
    · rw [tracked, State.completeWithoutPairs, State.complete_xcr]

theorem State.boundary_keepsFlight (s : State) : KeepsFlight s s.boundary := by
  refine ⟨s.boundary_wf, fun wf fits => ?_⟩
  rcases s.boundary_state with same | idle
  · refine inFlightFits_of_state ?_ same
    have applied := s.closedWindow.applyPending_applied s.freeCount
    have store := s.boundaryCore_start.pst
    have accepted := (s.boundary_wf wf).1
    rw [State.boundary_active] at accepted
    show InFlightFits (s.closedWindow.applyPending s.freeCount).moveCorrelator
    have closed : s.closedWindow.xcr.state = s.xcr.state := by rw [s.closedWindow_only.xcr]; rfl
    have kept : s.closedWindow.pst = s.pst := by
      obtain ⟨_, _, h⟩ := s.closedWindow_only
      rw [h]
      rfl
    generalize s.closedWindow = v at *
    refine State.moveCorrelator_fits _ ?_ ?_
    · rw [State.active, applied.pst, State.nextProfile, kept]
      exact accepted
    · cases hg : v.pst.geometryPending with
      | true => exact inFlightFits_of_idle (by rw [applied.xcr, hg, if_pos rfl])
      | false => exact inFlightFits_of_state fits (by rw [applied.xcr, hg, if_neg Bool.false_ne_true, closed])
  · exact inFlightFits_of_idle idle

theorem State.closeFrame_keepsFlight (fr : Frame) (s : State) : KeepsFlight s (s.closeFrame fr) := by
  have framed : KeepsFlight s (s.framed fr) := .of_blocks (s.framed_pst fr) (s.framed_xcr fr)
  show KeepsFlight s (if (s.framed fr).sfe.windowPos = (s.framed fr).active.n then (s.framed fr).boundary
    else s.framed fr)
  split
  · exact framed.trans (State.boundary_keepsFlight _)
  · exact framed

theorem State.takeReply_keepsFlight (r : Ring) (x : Reply) (s : State) : KeepsFlight s (s.takeReply r x) := by
  unfold State.takeReply
  split
  · exact .refl s
  · split
    · simp only
      split
      · exact s.closeFrame_keepsFlight _
      · exact .of_blocks rfl rfl
    · exact .refl s

theorem State.takeDeadline_keepsFlight (s : State) : KeepsFlight s s.takeDeadline := by
  unfold State.takeDeadline
  split
  · exact .refl s
  · exact s.closeFrame_keepsFlight _

/-! ### The commands -/

theorem exec_keepsFlight (i : Instr) (s t : State) (h : exec i s = .next t) : KeepsFlight s t := by
  cases i with
  | powerOnReset straps => cases h; exact s.powerOn_keepsFlight straps
  | nrstAsserted =>
    cases h
    split
    · exact .refl s
    · exact s.holdReset_stands.keepsFlight rfl
    · exact s.holdReset_stands.keepsFlight rfl
  | nrstReleased straps =>
    cases h
    split
    · exact s.endReset_keepsFlight straps
    · exact .refl s
    · exact .refl s
  | powerLoss => cases h; exact s.losePower_stands.keepsFlight rfl
  | frameStrobe => cases h; exact State.whenRunning_keepsFlight (s.strobeFrame_stands.keepsFlight (by simp))
  | ringReply r code parity => cases h; exact State.whenRunning_keepsFlight (s.takeReply_keepsFlight _ _)
  | replyDeadline => cases h; exact State.whenRunning_keepsFlight s.takeDeadline_keepsFlight
  | correlationCompletion => cases h; exact State.whenRunning_keepsFlight s.completeCorrelation_keepsFlight
  | pulseWidthElapsed | gapElapsed | stableTimeReached =>
    cases h
    exact State.whenRunning_keepsFlight (.of_blocks rfl rfl)
  | crystalFailure => cases h; exact State.whenRunning_keepsFlight (s.crystalFails_stands.keepsFlight (by simp))
  | claimExpiry =>
    cases h
    exact State.whenRunning_keepsFlight
      ((s.reachExpiry_stands.trans (State.expireClaim_stands _)).keepsFlight (by simp))
  | nvWriteCompletion agrees =>
    cases h
    exact State.whenRunning_keepsFlight ((s.nvComplete_stands agrees).keepsFlight (by simp))
  | captureCopyCompletion => cases h; exact State.whenRunning_keepsFlight (s.copyEnds_stands.keepsFlight (by simp))
  | byteReceived p x framingError => cases h; exact State.whenRunning_keepsFlight (s.receive_keepsFlight p x framingError)
  | idleGapElapsed p | responseEnd p => cases h; exact State.whenRunning_keepsFlight (.of_blocks rfl rfl)
  | interByteTimeout p =>
    cases h
    exact State.whenRunning_keepsFlight ((s.byteTimeout_stands p).keepsFlight (by simp))
  | unknownCommand p code =>
    cases h
    split
    · exact .refl s
    · exact s.request_keepsFlight _ _ _ (.refl s)
  | responseStart p =>
    cases h
    exact State.whenRunning_keepsFlight ((s.startResponse_stands p).keepsFlight (by simp))
  | identify p | readFlow p | readPairs p | readDeparted p | readHealth p | readTotals p | readStats p
  | readFaults p => cases h; exact s.request_keepsFlight _ _ _ (.refl s)
  | takeEvents p remove | clearFaults p | clearStats p =>
    cases h
    exact s.request_keepsFlight _ _ _ (.of_blocks rfl rfl)
  | readSlugs p start => cases h; exact s.request_keepsFlight _ _ _ ((s.answerSlugs_stands _).keepsFlight (by simp))
  | setAttention p enable threshold =>
    cases h
    exact s.request_keepsFlight _ _ _ ((s.answerAttention_stands _ _ _).keepsFlight (by simp))
  | openEdit p => cases h; exact s.request_keepsFlight _ _ _ ((s.answerOpen_stands _).keepsFlight (by simp))
  | writeField p field value =>
    cases h
    exact s.request_keepsFlight _ _ _ ((s.answerWrite_stands _ _ _).keepsFlight (by simp))
  | readField p field slot =>
    cases h
    exact s.request_keepsFlight _ _ _ ((s.answerRead_stands _ _).keepsFlight (by simp))
  | commitEdit p => cases h; exact s.request_keepsFlight _ _ _ ((s.answerCommit_stands _).keepsFlight (by simp))
  | dropEdit p => cases h; exact s.request_keepsFlight _ _ _ ((s.answerDrop_stands _).keepsFlight (by simp))
  | clearTotals p =>
    cases h
    exact s.request_keepsFlight _ _ _ ((s.answerClearTotals_stands _).keepsFlight (by simp))
  | guardRelease p => cases h; exact s.request_keepsFlight _ _ _ (s.answerRelease_stands.keepsFlight (by simp))
  | flushBegin p => cases h; exact s.request_keepsFlight _ _ _ (s.answerFlushBegin_stands.keepsFlight (by simp))
  | flushEnd p => cases h; exact s.request_keepsFlight _ _ _ (s.answerFlushEnd_stands.keepsFlight (by simp))
  | restart p => cases h; exact s.request_keepsFlight _ _ _ s.restartBlocks_keepsFlight
  | armCapture p content which trigger =>
    cases h
    exact s.request_keepsFlight _ _ _ ((s.answerArm_stands _ _ _ _).keepsFlight (by simp))
  | readCapture p offset =>
    cases h
    exact s.request_keepsFlight _ _ _ ((s.answerReadCapture_stands _ _).keepsFlight (by simp))
  | releaseCapture p =>
    cases h
    exact s.request_keepsFlight _ _ _ ((s.answerReleaseCapture_stands _).keepsFlight (by simp))

theorem step_keepsFlight (s t : State) (h : step s = .next t) : KeepsFlight s t := by
  unfold step at h
  split at h
  · cases h
    exact s.tick_stands.keepsFlight (by simp)
  · next c rest _ =>
    have taken : KeepsFlight s (s.setPending rest) := .of_blocks rfl rfl
    exact taken.trans (exec_keepsFlight c _ t h)

/-- Settles O19: the candidates of a chain under an acceptable profile have the lags that the statement gives, only a
bridged pair can miss check 5, and a step leaves the correlation in flight, ends it, or begins one over such a
table. -/
theorem pairTableOfChain : Obligations.PairTableOfChain := by
  unfold Obligations.PairTableOfChain
  refine ⟨fun s t ⟨store, fits⟩ h => ?_, fun p live k accepted configured => ?_⟩
  · have kept := step_keepsFlight s t h
    exact ⟨kept.wf store, kept.fits store fits⟩
  intro chain lmin
  refine ⟨fun e he => ?_, fun none up down hu hd => ?_⟩
  · obtain ⟨low, ordered, high, narrow⟩ := buildTable_pair p live k e accepted he
    obtain ⟨up, down, hu, hd, rfl, _⟩ := (buildTable_eq_some _ _ _ _).1 he
    obtain ⟨uncut, cut⟩ := candidate_rangeCut p k up down
    have limit : p.lagLimit = 2048 - 2 * p.n := rfl
    have window := p.accepted_n accepted
    rw [limit] at high cut
    exact ⟨hu, hd, rfl, decide_eq_true_iff, spacing_eq_gapsBetween p up down, rfl, low, ordered, high, by omega,
      by omega, uncut, cut⟩
  · rw [← spacing_eq_gapsBetween]
    exact buildTable_absent p live k up down accepted configured hu hd none

end Sys2Proof.Machine
end

section
/-!
PROOFS. PairResultOfSums: the runs of the history as sums over a window's indices, the peak of a correlogram, its
offset, and the result of a pair (R30, R37 to R43).
-/

namespace Sys2Proof.Machine

open Sys2Proof.Claim

/-! ### Sums over a window (R30, R41) -/

/-- The places of a window, from its newest sample downwards. -/
theorem indexOf_reverse (c : InFlight) (i : Nat) (h : i < c.n) :
    indexOf c (c.n - 1 - i) = c.t - BitVec.ofNat 32 i := by
  obtain ⟨m, rest⟩ : ∃ m, c.n = m + 1 + i := ⟨c.n - 1 - i, by omega⟩
  have place : c.n - 1 - i = m := by omega
  rw [indexOf, place, rest, BitVec.ofNat_add, BitVec.ofNat_add, show BitVec.ofNat 32 1 = 1 from rfl]
  ring

/-- A sum over a window is the same from its newest sample downwards as from its oldest upwards. -/
theorem window_sum {M : Type} [AddCommMonoid M] (c : InFlight) (g : Index → M) :
    ((List.range c.n).map fun i => g (c.t - BitVec.ofNat 32 i)).sum
      = ((List.range c.n).map fun j => g (indexOf c j)).sum := by
  have reflected : ((List.range c.n).map fun i => g (indexOf c (c.n - 1 - i))).sum
      = ((List.range c.n).map fun j => g (indexOf c j)).sum :=
    Finset.sum_range_reflect (fun j => g (indexOf c j)) c.n
  rw [← reflected]
  exact congrArg List.sum (List.map_congr_left fun i hi => by rw [indexOf_reverse c i (List.mem_range.1 hi)])

theorem dot_map {α : Type} (a b : α → Int) (l : List α) : dot (l.map a) (l.map b) = (l.map fun x => a x * b x).sum := by
  induction l with
  | nil => rfl
  | cons x l ih => simp [dot, ih]

/-- The upstream run holds what R6 answers at its indices (R30). -/
theorem Sfe.upRun_eq (f : Sfe) (c : InFlight) (e : PairEntry) (k : Nat) (h : c.n ≤ 512) :
    f.upRun c e k
      = (List.range c.n).map fun i => sampleAt f e.up (c.t - BitVec.ofNat 32 i - BitVec.ofNat 32 k) := by
  rw [Sfe.upRun, histRun_eq _ _ _ _ (h.trans (by decide))]
  refine List.map_congr_left fun i _ => ?_
  rw [sampleAt, sub_right_comm]

/-- The downstream run holds what R6 answers at the window's indices (R30). -/
theorem Sfe.downRun_eq (f : Sfe) (c : InFlight) (e : PairEntry) (h : c.n ≤ 512) :
    f.downRun c e = (List.range c.n).map fun i => sampleAt f e.down (c.t - BitVec.ofNat 32 i) :=
  histRun_eq _ _ _ _ (h.trans (by decide))

/-- A correlation sum is R(k) of the statements (R30). -/
theorem Sfe.corr_eq (f : Sfe) (c : InFlight) (e : PairEntry) (k : Nat) (h : c.n ≤ 512) :
    f.corr c e k = sumAt f c e k := by
  rw [Sfe.corr, f.upRun_eq c e k h, f.downRun_eq c e h, dot_map]
  exact window_sum c fun i => sampleAt f e.up (i - BitVec.ofNat 32 k) * sampleAt f e.down i

/-- The energy of a run is the sum of its squares (R41). -/
theorem energy_map {α : Type} (a : α → Int) (l : List α) : energy (l.map a) = (l.map fun x => (a x).natAbs ^ 2).sum := by
  have squares : dot (l.map a) (l.map a) = ((l.map fun x => (a x).natAbs ^ 2).sum : Nat) := by
    rw [dot_map]
    induction l with
    | nil => rfl
    | cons x l ih => simp [ih, sq]
  rw [energy, squares, Int.toNat_natCast]

theorem Sfe.energy_upRun (f : Sfe) (c : InFlight) (e : PairEntry) (k : Nat) (h : c.n ≤ 512) :
    energy (f.upRun c e k) = energyAt f c e.up k := by
  rw [f.upRun_eq c e k h, energy_map]
  exact window_sum c fun i => (sampleAt f e.up (i - BitVec.ofNat 32 k)).natAbs ^ 2

theorem Sfe.energy_downRun (f : Sfe) (c : InFlight) (e : PairEntry) (h : c.n ≤ 512) :
    energy (f.downRun c e) = energyAt f c e.down 0 := by
  rw [f.downRun_eq c e h, energy_map, window_sum c fun i => (sampleAt f e.down i).natAbs ^ 2]
  simp [energyAt]

/-- The correlogram of a pair, lag by lag (R30). -/
theorem Sfe.correlogram_getElem? (f : Sfe) (c : InFlight) (e : PairEntry) (i : Nat) (h : c.n ≤ 512)
    (hi : i ≤ e.lmax - e.lmin) (ordered : e.lmin ≤ e.lmax) :
    (f.correlogram c e)[i]? = some (sumAt f c e (e.lmin + i)) := by
  have inside : i < e.lmax + 1 - e.lmin := by omega
  rw [Sfe.correlogram, List.getElem?_map, List.getElem?_range inside, Option.map_some, f.corr_eq c e _ h]

theorem Sfe.correlogram_length (f : Sfe) (c : InFlight) (e : PairEntry) :
    (f.correlogram c e).length = e.lmax + 1 - e.lmin := by
  rw [Sfe.correlogram, List.length_map, List.length_range]

/-! ### The peak (R37) -/

/-- A place with its value is the first largest one of a list. -/
structure IsPeak (l : List Int) (best : Nat × Int) : Prop where
  value : l[best.1]? = some best.2
  largest : ∀ (i : Nat) (x : Int), l[i]? = some x → x ≤ best.2
  first : ∀ (i : Nat) (x : Int), i < best.1 → l[i]? = some x → x < best.2

/-- One more value becomes the peak exactly when it is larger. -/
theorem IsPeak.snoc {l : List Int} {best : Nat × Int} (h : IsPeak l best) (x : Int) :
    IsPeak (l ++ [x]) (if best.2 < x then (l.length, x) else best) := by
  have held : best.1 < l.length := (List.getElem?_eq_some_iff.1 h.value).1
  have old (i : Nat) (y : Int) (hy : (l ++ [x])[i]? = some y) : l[i]? = some y ∨ i = l.length ∧ y = x := by
    rcases lt_or_ge i l.length with hi | hi
    · rw [List.getElem?_append_left hi] at hy
      exact .inl hy
    · rw [List.getElem?_append_right hi, List.getElem?_singleton] at hy
      split at hy
      · exact .inr ⟨by omega, (Option.some_inj.1 hy).symm⟩
      · cases hy
  split
  · next larger =>
    refine ⟨by simp, fun i y hy => ?_, fun i y hi hy => ?_⟩
    · rcases old i y hy with hy | ⟨_, rfl⟩
      · exact (h.largest i y hy).trans larger.le
      · exact le_rfl
    · rcases old i y hy with hy | ⟨hl, _⟩
      · exact (h.largest i y hy).trans_lt larger
      · exact absurd hl hi.ne
  · next smaller =>
    refine ⟨by rw [List.getElem?_append_left held, h.value], fun i y hy => ?_, fun i y hi hy => ?_⟩
    · rcases old i y hy with hy | ⟨_, rfl⟩
      · exact h.largest i y hy
      · exact not_lt.1 smaller
    · rcases old i y hy with hy | ⟨hl, _⟩
      · exact h.first i y hi hy
      · omega

theorem peakFrom_isPeak (l before : List Int) (best : Nat × Int) (h : IsPeak before best) :
    IsPeak (before ++ l) (peakFrom before.length best l) := by
  induction l generalizing before best with
  | nil => rwa [List.append_nil]
  | cons x l ih =>
    have next := ih (before ++ [x]) _ (h.snoc x)
    rwa [List.append_assoc, List.singleton_append, List.length_append, List.length_singleton] at next

theorem peakOf_isPeak (l : List Int) (h : l ≠ []) : IsPeak l (peakOf l) := by
  cases l with
  | nil => exact absurd rfl h
  | cons x l =>
    refine peakFrom_isPeak l [x] (0, x) ⟨rfl, fun i y hy => ?_, fun i _ hi => absurd hi (Nat.not_lt_zero i)⟩
    rw [List.getElem?_singleton] at hy
    split at hy
    · exact (Option.some_inj.1 hy).ge
    · cases hy

/-- The peak of a correlogram: the smallest lag of the largest sum (R37). -/
theorem Sfe.correlogram_peak (f : Sfe) (c : InFlight) (e : PairEntry) (h : c.n ≤ 512) (ordered : e.lmin ≤ e.lmax) :
    let peak := peakOf (f.correlogram c e)
    peak.1 ≤ e.lmax - e.lmin ∧ peak.2 = sumAt f c e (e.lmin + peak.1)
    ∧ (∀ k, e.lmin ≤ k → k ≤ e.lmax → sumAt f c e k ≤ peak.2)
    ∧ (∀ k, e.lmin ≤ k → k < e.lmin + peak.1 → sumAt f c e k < peak.2) := by
  intro peak
  have length := f.correlogram_length c e
  obtain ⟨value, largest, first⟩ : IsPeak (f.correlogram c e) peak :=
    peakOf_isPeak _ (List.length_pos_iff.1 (by omega))
  have inside : peak.1 ≤ e.lmax - e.lmin := by
    have := (List.getElem?_eq_some_iff.1 value).1
    omega
  have sum (k : Nat) (low : e.lmin ≤ k) (high : k ≤ e.lmax) :
      (f.correlogram c e)[k - e.lmin]? = some (sumAt f c e k) := by
    rw [f.correlogram_getElem? c e _ h (by omega) ordered, Nat.add_sub_cancel' low]
  refine ⟨inside, ?_, fun k low high => largest _ _ (sum k low high),
    fun k low high => first _ _ (by omega) (sum k low (by omega))⟩
  rw [f.correlogram_getElem? c e _ h inside ordered] at value
  exact (Option.some_inj.1 value).symm

/-! ### The offset and the quality (R39, R41) -/

/-- Between a smaller sum and one not larger the parabola opens downwards, and its vertex lies within half a sample:
the clamp has nothing to cut (R39). -/
theorem peakOffset_interior (a b c : Int) (ha : a < b) (hc : c ≤ b) :
    a - 2 * b + c < 0 ∧ peakOffset a b c = (128 * (a - c)).tdiv (a - 2 * b + c)
    ∧ -128 ≤ peakOffset a b c ∧ peakOffset a b c ≤ 128 := by
  have negative : a - 2 * b + c < 0 := by omega
  have bound : ((128 * (a - c)).tdiv (a - 2 * b + c)).natAbs ≤ 128 := by
    rw [Int.natAbs_tdiv]
    exact Nat.div_le_of_le_mul (by omega)
  have kept : peakOffset a b c = (128 * (a - c)).tdiv (a - 2 * b + c) := by
    rw [peakOffset, if_neg negative.ne, clampInt, min_eq_right (by omega), max_eq_right (by omega)]
  refine ⟨negative, kept, ?_, ?_⟩ <;> rw [kept] <;> omega

theorem quality_eq (r : Int) (eu ed : Nat) :
    quality r eu ed = if eu = 0 ∨ ed = 0 then 0 else min 1024 (1024 * r.natAbs ^ 2 / (eu * ed)) := by
  simp only [quality, Nat.mul_eq_zero]

theorem quality_le (r : Int) (eu ed : Nat) : quality r eu ed ≤ 1024 := by
  unfold quality
  split
  · exact Nat.zero_le _
  · exact min_le_left _ _

/-! ### The result of a pair (R37 to R44) -/

/-- A peak between the ends of the lag range (R42). -/
def PairEntry.inside (e : PairEntry) (kp : Nat) : Bool := decide (e.lmin < kp) && decide (kp < e.lmax)

theorem PairEntry.inside_iff (e : PairEntry) (kp : Nat) : e.inside kp = true ↔ e.lmin < kp ∧ kp < e.lmax := by
  simp [PairEntry.inside]

/-- The peak of a pair result in the words of the statements (R37). -/
theorem Sfe.pairResult_kp (f : Sfe) (c : InFlight) (e : PairEntry) (h : c.n ≤ 512) (ordered : e.lmin ≤ e.lmax) :
    let kp := (f.pairResult c e).kp
    e.lmin ≤ kp ∧ kp ≤ e.lmax
    ∧ (∀ k, e.lmin ≤ k → k ≤ e.lmax → sumAt f c e k ≤ sumAt f c e kp)
    ∧ (∀ k, e.lmin ≤ k → k < kp → sumAt f c e k < sumAt f c e kp) := by
  obtain ⟨inside, value, largest, first⟩ := f.correlogram_peak c e h ordered
  rw [value] at largest first
  exact ⟨Nat.le_add_right _ _, (Nat.add_le_add_left inside _).trans (Nat.add_sub_cancel' ordered).le, largest, first⟩

/-- The other items of a pair result, from the sums at its peak (R39 to R43). -/
theorem Sfe.pairResult_items (f : Sfe) (c : InFlight) (e : PairEntry) (h : c.n ≤ 512) (ordered : e.lmin ≤ e.lmax) :
    let x := f.pairResult c e
    let sum := sumAt f c e
    let eu := energyAt f c e.up x.kp
    let ed := energyAt f c e.down 0
    x.delta = (if 0 < sum x.kp ∧ e.inside x.kp = true then
        peakOffset (sum (x.kp - 1)) (sum x.kp) (sum (x.kp + 1)) else 0)
    ∧ x.energies = (if 0 < sum x.kp then some (eu, ed) else none)
    ∧ x.q = (if 0 < sum x.kp then quality (sum x.kp) eu ed else 0)
    ∧ x.verdict = (if sum x.kp ≤ 0 then .invalid .noPeak
      else if e.inside x.kp = false then .invalid .edge
      else if x.q < c.qMin then .invalid .lowQuality
      else .valid (pairVelocity e.spacing c.fs x.tau)) := by
  intro x sum eu ed
  obtain ⟨inside, value, _, _⟩ := f.correlogram_peak c e h ordered
  have lag : x.kp = e.lmin + (peakOf (f.correlogram c e)).1 := rfl
  have peak : (peakOf (f.correlogram c e)).2 = sum x.kp := value
  have energies : eu = energy (f.upRun c e x.kp) ∧ ed = energy (f.downRun c e) :=
    ⟨(f.energy_upRun c e _ h).symm, (f.energy_downRun c e h).symm⟩
  rw [energies.1, energies.2]
  refine ⟨?_, ?_, ?_, ?_⟩
  · have at_ (i : Nat) (hi : i ≤ e.lmax - e.lmin) : (f.correlogram c e).getD i 0 = sum (e.lmin + i) := by
      rw [List.getD_eq_getElem?_getD, f.correlogram_getElem? c e i h hi ordered, Option.getD_some]
    rw [← peak]
    refine ite_congr rfl (fun ⟨_, interior⟩ => ?_) fun _ => rfl
    obtain ⟨low, high⟩ := (e.inside_iff _).1 interior
    rw [at_ _ (by omega), at_ _ (by omega), lag]
    congr 2
    omega
  · rw [← peak]
    rfl
  · rw [← peak]
    rfl
  · rw [← peak]
    rfl

/-- Settles O22: the peak is that of the sums of R30, and the offset, quality, reason and velocity are the model's at
that peak; between the ends of the range its neighbours keep the offset within half a sample. -/
theorem pairResultOfSums : Obligations.PairResultOfSums := by
  unfold Obligations.PairResultOfSums
  intro f c e h low ordered x sum eu ed
  obtain ⟨above, below, largest, first⟩ : e.lmin ≤ x.kp ∧ x.kp ≤ e.lmax
      ∧ (∀ k, e.lmin ≤ k → k ≤ e.lmax → sum k ≤ sum x.kp) ∧ ∀ k, e.lmin ≤ k → k < x.kp → sum k < sum x.kp :=
    f.pairResult_kp c e h ordered
  obtain ⟨delta, energies, q, verdict⟩ := f.pairResult_items c e h ordered
  have vertex (interior : e.inside x.kp = true) :
      sum (x.kp - 1) - 2 * sum x.kp + sum (x.kp + 1) < 0
      ∧ peakOffset (sum (x.kp - 1)) (sum x.kp) (sum (x.kp + 1))
        = (128 * (sum (x.kp - 1) - sum (x.kp + 1))).tdiv (sum (x.kp - 1) - 2 * sum x.kp + sum (x.kp + 1))
      ∧ -128 ≤ peakOffset (sum (x.kp - 1)) (sum x.kp) (sum (x.kp + 1))
      ∧ peakOffset (sum (x.kp - 1)) (sum x.kp) (sum (x.kp + 1)) ≤ 128 := by
    obtain ⟨low, high⟩ := (e.inside_iff _).1 interior
    exact peakOffset_interior _ _ _ (first _ (by omega) (by omega)) (largest _ (by omega) (by omega))
  have bounds : -128 ≤ x.delta ∧ x.delta ≤ 128 := by
    rw [delta]
    split
    · next inner => exact (vertex inner.2).2.2
    · decide
  have transit : (x.tau : Int) = 256 * x.kp + x.delta := by
    have positive : 0 ≤ 256 * (x.kp : Int) + x.delta := by omega
    exact Int.toNat_of_nonneg positive
  have quality_bound : x.q ≤ 1024 := by
    rw [q]
    split
    · exact quality_le _ _ _
    · decide
  refine ⟨above, below, largest, first, transit, by omega, quality_bound, bounds.1, bounds.2, fun none => ?_, fun peak => ?_,
    fun peak edge => ?_, fun peak low high => ?_⟩
  · have absent : ¬ 0 < sum x.kp := not_lt.2 none
    rw [verdict, delta, q, energies, if_pos none, if_neg fun h => absent h.1, if_neg absent, if_neg absent]
    exact ⟨rfl, rfl, rfl, rfl⟩
  · rw [energies, q, if_pos peak, if_pos peak, quality_eq]
    exact ⟨rfl, rfl⟩
  · have exterior : e.inside x.kp = false := by
      rw [Bool.eq_false_iff, ne_eq, PairEntry.inside_iff]
      omega
    rw [verdict, delta, if_neg (not_le.2 peak), if_pos exterior, if_neg fun h => absurd (exterior.symm.trans h.2) (by decide)]
    exact ⟨rfl, rfl⟩
  · have interior : e.inside x.kp = true := (e.inside_iff _).2 ⟨by omega, by omega⟩
    obtain ⟨negative, offset, _⟩ := vertex interior
    rw [if_pos ⟨peak, interior⟩] at delta
    rw [if_neg (not_le.2 peak), if_neg (by rw [interior]; decide)] at verdict
    refine ⟨negative, delta.trans offset, fun poor => ?_, fun good => ?_⟩
    · rw [verdict, if_pos poor]
    · rw [verdict, if_neg (not_lt.2 good), pairVelocity, roundDiv_eq_round]

end Sys2Proof.Machine
end

section
/-!
PROOFS. READ_PAIRS (R46): optional items and blocks per slot at their offsets, and its 185 bytes.
-/

namespace Sys2Proof.Machine

open Sys2Proof.Claim

/-! ### Optional items -/

theorem replicate_zero_eq (k : Nat) : List.replicate k (0 : Byte) = bytesBE k 0 := by
  rw [bytesBE_eq]
  simp [List.map_const']

/-- A presence byte, then the item or zeros (R187). -/
theorem optItem_eq {α : Type} (k : Nat) (g : α → Nat) (x : Option α) :
    optItem k (fun y => bytesBE k (g y)) x
      = bytesBE 1 (if x.isSome then 1 else 0) ++ bytesBE k ((x.map g).getD 0) := by
  cases x with
  | none => rw [optItem, replicate_zero_eq]; rfl
  | some y => rfl

theorem atOpt_congr {l : List Byte} {o w : Nat} {x y : Option Int} (h : AtOpt l o w x) (hxy : x = y) :
    AtOpt l o w y := hxy ▸ h

theorem atOpt_optItem {α : Type} (k : Nat) (g : α → Nat) (x : Option α) (l : List Byte) :
    AtOpt (bytesBE 1 (if x.isSome then 1 else 0) ++ (bytesBE k ((x.map g).getD 0) ++ l)) 0 k
      (x.map fun y => (g y : Int)) := by
  refine ⟨at_congr (at_bytesBE _ _ _) ?_, at_congr (at_behind _ _ le_rfl (at_bytesBE _ _ _)) ?_⟩ <;>
    cases x <;> rfl

/-- An optional item behind another item. -/
theorem atOpt_behind (k x : Nat) {l : List Byte} {o w : Nat} {y : Option Int} (hk : k ≤ o)
    (h : AtOpt l (o - k) w y) : AtOpt (bytesBE k x ++ l) o w y := by
  obtain ⟨present, value⟩ := h
  refine ⟨at_behind _ _ hk present, at_behind _ _ (by omega) ?_⟩
  rwa [← Nat.sub_add_comm hk] at value

/-- Every byte of a run of zeros is a zero. -/
theorem at_replicate_zero (n i : Nat) (h : i < n) : At (List.replicate n (0 : Byte)) i 1 0 := by
  obtain ⟨m, rfl⟩ := Nat.exists_eq_add_of_lt h
  have split : List.replicate (i + m + 1) (0 : Byte)
      = List.replicate i 0 ++ (bytesBE 1 0 ++ List.replicate m 0) := by
    rw [← replicate_zero_eq, List.replicate_append_replicate, List.replicate_append_replicate]
    congr 1
    omega
  rw [split]
  simpa using at_append_right (List.replicate i (0 : Byte)) (at_bytesBE 1 0 (List.replicate m 0))

/-- A negative number of two bytes is carried in two's complement (R187). -/
theorem at_i16 (x : Int) (l : List Byte) : At (bytesBE 2 (BitVec.ofInt 16 x).toNat ++ l) 0 2 x := by
  obtain ⟨fits, value⟩ := at_bytesBE 2 (BitVec.ofInt 16 x).toNat l
  refine ⟨fits, value.trans ?_⟩
  rw [BitVec.toNat_ofInt, Int.toNat_of_nonneg (Int.emod_nonneg _ (by decide))]
  exact Int.emod_emod_of_dvd _ (by decide)

/-! ### Blocks per slot -/

/-- Blocks of one length per slot, read block by block. -/
theorem at_flatMap_slot {α : Type} (q : PerSlot α) (f : α → List Byte) (n : Nat) (hf : ∀ x, (f x).length = n)
    (k : Slot) {o w : Nat} {x : Int} (h : At (f (q.get k)) o w x) :
    At (q.toList.flatMap f) (n * slotCode k + o) w x := by
  have block (before after : List Byte) : At (before ++ (f (q.get k) ++ after)) (before.length + o) w x :=
    at_append_right before (at_append_left after h)
  have all : q.toList.flatMap f = f (q.get .s0) ++ (f (q.get .s1) ++ f (q.get .s2)) := by
    simp [PerSlot.toList, PerSlot.get]
  rw [all]
  cases k with
  | s0 => simpa [slotCode] using block [] (f (q.get .s1) ++ f (q.get .s2))
  | s1 => simpa [slotCode, hf] using block (f (q.get .s0)) (f (q.get .s2))
  | s2 => simpa [slotCode, hf, Nat.mul_two] using block (f (q.get .s0) ++ f (q.get .s1)) []

theorem flatMap_slot_length {α : Type} (q : PerSlot α) (f : α → List Byte) (n : Nat)
    (hf : ∀ x, (f x).length = n) : (q.toList.flatMap f).length = 3 * n := by
  simp only [PerSlot.toList, List.flatMap_cons, List.flatMap_nil, List.length_append, hf, List.length_nil]
  omega

theorem optItem_length {α : Type} (k : Nat) (enc : α → List Byte) (h : ∀ x, (enc x).length = k)
    (x : Option α) : (optItem k enc x).length = k + 1 := by
  cases x with
  | none => simp [optItem, u8, Nat.add_comm]
  | some y => simp [optItem, u8, h, Nat.add_comm]

/-- An absent block is all zeros (R187). -/
theorem at_optItem_none {α : Type} (k : Nat) (enc : α → List Byte) (i : Nat) (h : i < k + 1) :
    At (optItem k enc none) i 1 0 :=
  at_replicate_zero (k + 1) i h

/-! ### The blocks of READ_PAIRS -/

theorem ofFlag_eq (b : Bool) : ((if b then 1 else 0 : Nat) : Int) = ofFlag b := by cases b <;> rfl

theorem Slot.num_eq_slotCode (k : Slot) : k.num = slotCode k := by cases k <;> rfl

theorem Ring.num_eq_ringCode (r : Ring) : (r.num : Int) = ringCode r := by cases r <;> rfl

/-- A pair entry's block in the order of its offsets (R24, R46). -/
theorem PairEntry.block_eq (e : PairEntry) :
    optItem 11 PairEntry.bytes (some e) = bytesBE 1 1 ++ (bytesBE 1 e.slot.num ++ (bytesBE 1 e.up.num
      ++ (bytesBE 1 e.down.num ++ (bytesBE 1 (if e.bridged then 1 else 0) ++ (bytesBE 2 e.spacing
      ++ (bytesBE 2 e.lmin ++ (bytesBE 2 e.lmax ++ (bytesBE 1 (if e.rangeCut then 1 else 0) ++ [])))))))) := by
  simp only [optItem, PairEntry.bytes, flag, u8, u16, List.append_assoc, List.append_nil]

theorem PairEntry.bytes_length (e : PairEntry) : e.bytes.length = 11 := by
  simp [PairEntry.bytes, flag, u8, u16]

/-- The items of a pair entry's block (R24, R46). -/
theorem PairEntry.block_at (e : PairEntry) :
    let l := optItem 11 PairEntry.bytes (some e)
    At l 0 1 1 ∧ At l 1 1 (slotCode e.slot) ∧ At l 2 1 (ringCode e.up) ∧ At l 3 1 (ringCode e.down)
    ∧ At l 4 1 (ofFlag e.bridged) ∧ At l 5 2 e.spacing ∧ At l 7 2 e.lmin ∧ At l 9 2 e.lmax
    ∧ At l 11 1 (ofFlag e.rangeCut) := by
  simp only [← ofFlag_eq, ← Ring.num_eq_ringCode, ← Slot.num_eq_slotCode, PairEntry.block_eq]
  refine ⟨at_bytesBE _ _ _, ?_, ?_, ?_, ?_, ?_, ?_, ?_, ?_⟩
  all_goals
    repeat refine at_behind _ _ (by decide) ?_
    exact at_bytesBE _ _ _

/-- A pair result's block in the order of its offsets (R44, R46). -/
theorem PairResult.block_eq (x : PairResult) :
    optItem 44 PairResult.bytes (some x) = bytesBE 1 1 ++ (bytesBE 4 x.window.toNat ++ (bytesBE 1 x.slot.num
      ++ (bytesBE 1 x.up.num ++ (bytesBE 1 x.down.num ++ (bytesBE 2 x.spacing ++ (bytesBE 2 x.lmin
      ++ (bytesBE 2 x.lmax ++ (bytesBE 1 (if x.rangeCut then 1 else 0) ++ (bytesBE 2 x.kp
      ++ (bytesBE 2 (BitVec.ofInt 16 x.delta).toNat ++ (bytesBE 4 x.tau
      ++ (bytesBE 1 (if x.energies.isSome then 1 else 0) ++ (bytesBE 6 ((x.energies.map (·.1)).getD 0)
      ++ (bytesBE 1 (if x.energies.isSome then 1 else 0) ++ (bytesBE 6 ((x.energies.map (·.2)).getD 0)
      ++ (bytesBE 2 x.q ++ (bytesBE 1 (if x.reason?.isNone then 1 else 0)
      ++ (bytesBE 1 (if x.reason?.isSome then 1 else 0) ++ (bytesBE 1 ((x.reason?.map Reason.code).getD 0)
      ++ (bytesBE 1 (if x.vp?.isSome then 1 else 0) ++ (bytesBE 2 ((x.vp?.map id).getD 0)
      ++ []))))))))))))))))))))) := by
  have energies : optItem 6 u48 (x.energies.map (·.1)) = bytesBE 1 (if x.energies.isSome then 1 else 0)
        ++ bytesBE 6 ((x.energies.map (·.1)).getD 0)
      ∧ optItem 6 u48 (x.energies.map (·.2)) = bytesBE 1 (if x.energies.isSome then 1 else 0)
        ++ bytesBE 6 ((x.energies.map (·.2)).getD 0) := by
    cases x.energies <;> exact ⟨rfl, rfl⟩
  have reason : optItem 1 u8 (x.reason?.map Reason.code) = bytesBE 1 (if x.reason?.isSome then 1 else 0)
      ++ bytesBE 1 ((x.reason?.map Reason.code).getD 0) := by
    cases x.reason? <;> rfl
  have velocity : optItem 2 u16 x.vp? = bytesBE 1 (if x.vp?.isSome then 1 else 0)
      ++ bytesBE 2 ((x.vp?.map id).getD 0) := optItem_eq 2 id x.vp?
  simp only [optItem.eq_1, PairResult.bytes, energies, reason, velocity, flag, u8, u16, u32, i16,
    List.append_assoc, List.append_nil]

theorem PairResult.bytes_length (x : PairResult) : x.bytes.length = 44 := by
  have block : (optItem 44 PairResult.bytes (some x)).length = 45 := by
    rw [PairResult.block_eq]
    simp only [List.length_append, bytesBE_length, List.length_nil]
  rw [optItem, u8, List.length_append, bytesBE_length] at block
  omega

/-- The items of a pair result's block that every result has (R44, R46). -/
theorem PairResult.block_at (x : PairResult) :
    let l := optItem 44 PairResult.bytes (some x)
    At l 0 1 1 ∧ At l 1 4 x.window.toNat ∧ At l 5 1 (slotCode x.slot) ∧ At l 6 1 (ringCode x.up)
    ∧ At l 7 1 (ringCode x.down) ∧ At l 8 2 x.spacing ∧ At l 10 2 x.lmin ∧ At l 12 2 x.lmax
    ∧ At l 14 1 (ofFlag x.rangeCut) ∧ At l 15 2 x.kp ∧ At l 17 2 x.delta ∧ At l 19 4 x.tau
    ∧ AtOpt l 23 6 (x.energies.map fun y => (y.1 : Int)) ∧ AtOpt l 30 6 (x.energies.map fun y => (y.2 : Int))
    ∧ At l 37 2 x.q ∧ At l 39 1 (ofFlag x.reason?.isNone)
    ∧ AtOpt l 40 1 (x.reason?.map fun w => (w.code : Int)) ∧ AtOpt l 42 2 (x.vp?.map fun v : Nat => (v : Int)) := by
  simp only [← ofFlag_eq, ← Ring.num_eq_ringCode, ← Slot.num_eq_slotCode, PairResult.block_eq]
  refine ⟨at_bytesBE _ _ _, ?_, ?_, ?_, ?_, ?_, ?_, ?_, ?_, ?_, ?_, ?_, ?_, ?_, ?_, ?_, ?_, ?_⟩
  case refine_10 =>
    repeat refine at_behind _ _ (by decide) ?_
    exact at_i16 _ _
  case refine_12 | refine_13 | refine_16 | refine_17 =>
    repeat refine atOpt_behind _ _ (by decide) ?_
    exact atOpt_optItem _ _ _ _
  all_goals
    repeat refine at_behind _ _ (by decide) ?_
    exact at_bytesBE _ _ _

/-! ### READ_PAIRS -/

/-- The items of READ_PAIRS in the order of their offsets (R46). -/
theorem pairsPayload_eq (s : State) :
    pairsPayload s = bytesBE 1 s.xcr.state.code
      ++ (bytesBE 1 (if (s.xcr.state.inFlight.map (·.window)).isSome then 1 else 0)
      ++ (bytesBE 4 (((s.xcr.state.inFlight.map (·.window)).map (·.toNat)).getD 0)
      ++ (bytesBE 4 s.xcr.windowNumber.toNat ++ (s.xcr.table.toList.flatMap (optItem 11 PairEntry.bytes)
      ++ (bytesBE 4 s.xcr.resultWindow.toNat
      ++ s.xcr.results.toList.flatMap (optItem 44 PairResult.bytes)))))) := by
  have window := optItem_eq 4 (fun w : Index => w.toNat) (s.xcr.state.inFlight.map (·.window))
  simp only [pairsPayload, u8, u32, window, List.append_assoc]

theorem pairTable_length (t : PerSlot (Option PairEntry)) :
    (t.toList.flatMap (optItem 11 PairEntry.bytes)).length = 36 :=
  flatMap_slot_length t _ 12 (optItem_length 11 _ PairEntry.bytes_length)

theorem pairsPayload_length (s : State) : (pairsPayload s).length = 185 := by
  have results : (s.xcr.results.toList.flatMap (optItem 44 PairResult.bytes)).length = 135 :=
    flatMap_slot_length _ _ 45 (optItem_length 44 _ PairResult.bytes_length)
  simp only [pairsPayload_eq, List.length_append, bytesBE_length, pairTable_length, results]

/-- An item behind the pair table. -/
theorem at_behind_pairTable (t : PerSlot (Option PairEntry)) {l : List Byte} {o w : Nat} {x : Int} (h36 : 36 ≤ o)
    (h : At l (o - 36) w x) : At (t.toList.flatMap (optItem 11 PairEntry.bytes) ++ l) o w x := by
  have := at_append_right (t.toList.flatMap (optItem 11 PairEntry.bytes)) h
  rwa [pairTable_length, Nat.add_sub_cancel' h36] at this

/-- An item of a slot's pair block stands at the block's offset. -/
theorem pairsPayload_pair (s : State) (k : Slot) {o w : Nat} {x : Int}
    (h : At (optItem 11 PairEntry.bytes (s.xcr.table.get k)) o w x) :
    At (pairsPayload s) (10 + 12 * slotCode k + o) w x := by
  have block := at_flatMap_slot s.xcr.table _ 12 (optItem_length 11 _ PairEntry.bytes_length) k h
  rw [pairsPayload_eq, Nat.add_assoc]
  repeat refine at_behind _ _ (by omega) ?_
  have offset : 10 + (12 * slotCode k + o) - 1 - 1 - 4 - 4 = 12 * slotCode k + o := by omega
  rw [offset]
  exact at_append_left _ block

/-- An item of a slot's result block stands at the block's offset. -/
theorem pairsPayload_result (s : State) (k : Slot) {o w : Nat} {x : Int}
    (h : At (optItem 44 PairResult.bytes (s.xcr.results.get k)) o w x) :
    At (pairsPayload s) (50 + 45 * slotCode k + o) w x := by
  have block := at_flatMap_slot s.xcr.results _ 45 (optItem_length 44 _ PairResult.bytes_length) k h
  rw [pairsPayload_eq, Nat.add_assoc]
  repeat refine at_behind _ _ (by omega) ?_
  refine at_behind_pairTable _ (by omega) (at_behind _ _ (by omega) ?_)
  have offset : 50 + (45 * slotCode k + o) - 1 - 1 - 4 - 4 - 36 - 4 = 45 * slotCode k + o := by omega
  rwa [offset]

/-- An optional item of a slot's result block stands at the block's offset. -/
theorem pairsPayload_result_opt (s : State) (k : Slot) {o w : Nat} {x : Option Int}
    (h : AtOpt (optItem 44 PairResult.bytes (s.xcr.results.get k)) o w x) :
    AtOpt (pairsPayload s) (50 + 45 * slotCode k + o) w x :=
  ⟨pairsPayload_result s k h.1, pairsPayload_result s k h.2⟩

/-- Settles O23: the items before the blocks stand in the order of the payload, and each slot's at the offset of
its block. -/
theorem readPairs : Obligations.ReadPairs := by
  unfold Obligations.ReadPairs
  rintro p s ⟨running, free⟩
  have taken : exec (.readPairs p) s = .next (s.answer p 0x11 (State.report pairsPayload)) := by
    show Host.Outcome.next (s.request p 0x11 (State.report pairsPayload)) = _
    rw [State.request_free _ _ _ _ running free]
  refine ⟨_, pairsPayload s, taken, ?_, rfl, pairsPayload_length s, ?_, ?_, ?_, ?_, fun k => ⟨⟨?_, ?_⟩, ?_, ?_⟩⟩
  · intro b
    cases b <;> simp [Block.Same, State.report]
  · rw [pairsPayload_eq]
    refine at_congr (at_bytesBE _ _ _) ?_
    cases s.xcr.state <;> rfl
  · rw [pairsPayload_eq]
    refine atOpt_congr (atOpt_behind _ _ le_rfl (atOpt_optItem _ _ _ _)) ?_
    cases s.xcr.state <;> rfl
  · rw [pairsPayload_eq]
    repeat refine at_behind _ _ (by decide) ?_
    exact at_bytesBE _ _ _
  · rw [pairsPayload_eq]
    repeat refine at_behind _ _ (by decide) ?_
    exact at_behind_pairTable _ (by decide) (at_bytesBE _ _ _)
  · intro none i hi
    refine pairsPayload_pair s k ?_
    rw [none]
    exact at_optItem_none 11 _ i hi
  · intro e pair
    have items := e.block_at
    rw [← pair] at items
    obtain ⟨present, slot, up, down, bridged, spacing, lmin, lmax, cut⟩ := items
    exact ⟨pairsPayload_pair s k present, pairsPayload_pair s k slot, pairsPayload_pair s k up,
      pairsPayload_pair s k down, pairsPayload_pair s k bridged, pairsPayload_pair s k spacing,
      pairsPayload_pair s k lmin, pairsPayload_pair s k lmax, pairsPayload_pair s k cut⟩
  · intro none i hi
    refine pairsPayload_result s k ?_
    rw [none]
    exact at_optItem_none 44 _ i hi
  · intro x result
    have items := x.block_at
    rw [← result] at items
    obtain ⟨present, window, slot, up, down, spacing, lmin, lmax, cut, kp, delta, tau, above, below, q, valid,
      reason, velocity⟩ := items
    refine ⟨pairsPayload_result s k present, pairsPayload_result s k window, pairsPayload_result s k slot,
      pairsPayload_result s k up, pairsPayload_result s k down, pairsPayload_result s k spacing,
      pairsPayload_result s k lmin, pairsPayload_result s k lmax, pairsPayload_result s k cut,
      pairsPayload_result s k kp, pairsPayload_result s k delta, pairsPayload_result s k tau,
      pairsPayload_result_opt s k above, pairsPayload_result_opt s k below, pairsPayload_result s k q,
      fun v verdict => ?_, fun w verdict => ?_⟩
    · simp only [PairResult.reason?, PairResult.vp?, verdict] at valid reason velocity
      exact ⟨pairsPayload_result s k valid, pairsPayload_result_opt s k reason,
        pairsPayload_result_opt s k velocity⟩
    · simp only [PairResult.reason?, PairResult.vp?, verdict] at valid reason velocity
      refine ⟨pairsPayload_result s k valid, pairsPayload_result_opt s k ?_, pairsPayload_result_opt s k velocity⟩
      cases w <;> exact reason

end Sys2Proof.Machine
end

section
/-!
SUPPORT. The tracker in lock step: two states that agree in what the tracker reads stay so through its work, each
step of which changes its tables, a counter of its own, or posts a departure; and what postings make of a capture.
-/

namespace Sys2Proof.Machine

open Sys2Proof.Claim

/-! ### A capture through postings (R171) -/

/-- The capture unit stands, or is ARMED no more; one that was ARMED waited for one of the kinds listed. -/
def Fires (kinds : List EventKind) (s t : State) : Prop :=
  t.cap = s.cap ∨ (s.cap.state = .armed → ∃ k ∈ kinds, s.cap.waitsFor k = true) ∧ t.cap.state ≠ .armed

theorem Fires.of_cap {kinds : List EventKind} {s t : State} (h : t.cap = s.cap) : Fires kinds s t := .inl h

theorem Fires.refl (kinds : List EventKind) (s : State) : Fires kinds s s := .of_cap rfl

theorem Cap.armed_of_waitsFor (c : Cap) (k : EventKind) (h : c.waitsFor k = true) : c.state = .armed := by
  simp only [Cap.waitsFor, Bool.and_eq_true, beq_iff_eq] at h
  exact h.1

theorem Fires.trans {kinds : List EventKind} {s t u : State} (h : Fires kinds s t) (g : Fires kinds t u) :
    Fires kinds s u := by
  rcases h with h | ⟨waits, fired⟩
  · rcases g with g | g
    · exact .inl (g.trans h)
    · exact .inr (h ▸ g)
  · rcases g with g | ⟨_, gone⟩
    · exact .inr ⟨waits, g ▸ fired⟩
    · exact .inr ⟨waits, gone⟩

theorem Fires.after {kinds : List EventKind} {s t u : State} (g : Fires kinds t u) (h : t.cap = s.cap) :
    Fires kinds s u := Fires.trans (.of_cap h) g

theorem Fires.mono {kinds more : List EventKind} {s t : State} (h : Fires kinds s t) (sub : kinds ⊆ more) :
    Fires more s t := by
  rcases h with h | ⟨waits, fired⟩
  · exact .inl h
  · refine .inr ⟨fun armed => ?_, fired⟩
    obtain ⟨k, hk, wait⟩ := waits armed
    exact ⟨k, sub hk, wait⟩

/-- An ARMED capture that waits for none of the kinds is left alone. -/
theorem Fires.quiet {kinds : List EventKind} {s t : State} (h : Fires kinds s t) (armed : s.cap.state = .armed)
    (none : ∀ k ∈ kinds, s.cap.waitsFor k = false) : t.cap = s.cap := by
  rcases h with h | ⟨waits, _⟩
  · exact h
  · obtain ⟨k, hk, wait⟩ := waits armed
    exact absurd ((none k hk).symm.trans wait) (by decide)

/-- A trigger takes the unit out of ARMED (R171). -/
theorem State.triggerCapture_fired (s : State) : s.triggerCapture.cap.state ≠ .armed := by
  unfold State.triggerCapture
  split
  · split
    · simp
    · rw [State.completeEmpty_cap]
      simp
  · simp

theorem State.post_fires (k : EventKind) (s : State) : Fires [k] s (s.post k) := by
  cases waits : s.cap.waitsFor k with
  | false => exact .of_cap (s.post_cap k waits)
  | true =>
    refine .inr ⟨fun _ => ⟨k, List.mem_singleton_self k, waits⟩, ?_⟩
    rw [State.post, if_pos waits]
    exact State.triggerCapture_fired _

theorem foldl_post_fires (kinds : List EventKind) (s : State) :
    Fires kinds s (kinds.foldl (fun s k => s.post k) s) := by
  induction kinds generalizing s with
  | nil => exact .refl _ s
  | cons k kinds ih =>
    exact ((s.post_fires k).mono (by simp)).trans ((ih (s.post k)).mono (List.subset_cons_self k kinds))

/-! ### Two states alike to the tracker -/

/-- Two states with the same tables, front end, velocity and profile for the tracker (R48, R59). -/
structure Alike (s t : State) : Prop where
  stk : t.stk = s.stk
  rings : t.sfe.rings = s.sfe.rings
  last : t.sfe.lastIndex = s.sfe.lastIndex
  record : t.fsv.record = s.fsv.record
  active : t.pst.active = s.pst.active

theorem Alike.refl (s : State) : Alike s s := ⟨rfl, rfl, rfl, rfl, rfl⟩

/-- The counters of completions and records, which the tracker never counts (R45, R73). -/
def SameRecordCounts (c d : Stats) : Prop :=
  d.completed = c.completed ∧ d.recCorrelated = c.recCorrelated ∧ d.recSlug = c.recSlug ∧ d.recHeld = c.recHeld
  ∧ d.recLost = c.recLost

theorem SameRecordCounts.refl (c : Stats) : SameRecordCounts c c := ⟨rfl, rfl, rfl, rfl, rfl⟩

theorem SameRecordCounts.trans {c d e : Stats} (h : SameRecordCounts c d) (g : SameRecordCounts d e) :
    SameRecordCounts c e := by
  obtain ⟨h1, h2, h3, h4, h5⟩ := h
  obtain ⟨g1, g2, g3, g4, g5⟩ := g
  exact ⟨g1.trans h1, g2.trans h2, g3.trans h3, g4.trans h4, g5.trans h5⟩

/-- The tracker's steps from two states at once: it changes its tables, counts for itself, or posts a
departure. -/
inductive LockStep (s t : State) : State → State → Prop
  | start : LockStep s t s t
  | tables {u v : State} (k : Stk) (h : LockStep s t u v) : LockStep s t (u.setStk k) (v.setStk k)
  | counts {u v : State} (f g : Stats → Stats) (hf : ∀ c, SameRecordCounts c (f c)) (h : LockStep s t u v) :
      LockStep s t (u.count f) (v.count g)
  | departure {u v : State} (h : LockStep s t u v) : LockStep s t (u.post .slugDeparted) (v.post .slugDeparted)

namespace LockStep
variable {s t u v w x : State}

theorem trans (h : LockStep s t u v) (g : LockStep u v w x) : LockStep s t w x := by
  induction g with
  | start => exact h
  | tables k _ ih => exact ih.tables k
  | counts f g hf _ ih => exact ih.counts f g hf
  | departure _ ih => exact ih.departure

theorem alike (h : LockStep s t u v) (a : Alike s t) : Alike u v := by
  induction h with
  | start => exact a
  | tables k _ ih => exact ⟨rfl, ih.rings, ih.last, ih.record, ih.active⟩
  | counts f g _ _ ih => exact ⟨ih.stk, ih.rings, ih.last, ih.record, ih.active⟩
  | departure _ ih => exact ⟨by simp [ih.stk], by simp [ih.rings], by simp [ih.last], by simp [ih.record],
      by simp [ih.active]⟩

/-- The tracker reaches a capture by its departures alone. -/
theorem fires (h : LockStep s t u v) : Fires [.slugDeparted] s u := by
  induction h with
  | start => exact .refl _ s
  | tables k _ ih => exact ih
  | counts f g _ _ ih => exact ih
  | departure _ ih => exact ih.trans (State.post_fires _ _)

theorem records (h : LockStep s t u v) : SameRecordCounts s.efu.stats u.efu.stats := by
  induction h with
  | start => exact .refl _
  | tables k _ ih => exact ih
  | counts f g hf _ ih => exact ih.trans (hf _)
  | departure _ ih => simpa using ih

end LockStep

/-- One step of the tables, read from either state. -/
theorem lockStep_tables {s t : State} {j k : Stk} (h : k = j) : LockStep s t (s.setStk j) (t.setStk k) := by
  subst h
  exact .tables k .start

theorem lockStep_counts {s t : State} (f : Stats → Stats) (hf : ∀ c, SameRecordCounts c (f c)) :
    LockStep s t (s.count f) (t.count f) := .counts f f hf .start

/-! ### What the tracker reads -/

section
variable {s t : State} (a : Alike s t)
include a

theorem Alike.health_eq : t.health = s.health := funext fun r => by rw [State.health, a.rings]; rfl

theorem Alike.active_eq : t.active = s.active := a.active

theorem Alike.isLive_eq : t.isLive = s.isLive := funext fun r => by
  rw [State.isLive, a.active_eq, a.health_eq]
  rfl

theorem Alike.chain_eq : t.chain = s.chain := by
  rw [State.chain, a.isLive_eq]
  rfl

theorem Alike.nextLive_eq : t.nextLive = s.nextLive := funext fun r => by
  rw [State.nextLive, a.chain_eq]
  rfl

theorem Alike.aim_eq (x : SlugRecord) (reference next : Ring) : t.aim x reference next = s.aim x reference next := by
  have velocity : t.usableVelocity = s.usableVelocity := by
    simp only [State.usableVelocity, a.record, a.active_eq]
  rw [State.aim, velocity, a.active_eq]
  rfl

/-! ### A frame in lock step (R48 to R62) -/

theorem Alike.mapTrack (r : Ring) (f : RingTrack → RingTrack) : LockStep s t (s.mapTrack r f) (t.mapTrack r f) :=
  lockStep_tables (by rw [a.stk])

theorem Alike.charge (r : Ring) : LockStep s t (s.charge r) (t.charge r) := a.mapTrack r _

theorem Alike.dropStale (x : SlugRecord) : LockStep s t (s.dropStale x) (t.dropStale x) := by
  have counted : LockStep s t (s.count fun c => { c with stale := satAdd c.stale 1 })
      (t.count fun c => { c with stale := satAdd c.stale 1 }) := lockStep_counts _ fun _ => .refl _
  exact counted.trans ((counted.alike a).charge x.origin)

theorem Alike.depart (x : SlugRecord) (last : Index) (vs : Nat) :
    LockStep s t (s.depart x last vs) (t.depart x last vs) := by
  simp only [State.depart, a.stk, a.active_eq]
  exact .departure (.counts _ _ (fun _ => .refl _) (.tables _ .start))

theorem Alike.timeSlug (dist transit : Nat) : LockStep s t (s.timeSlug dist transit) (t.timeSlug dist transit) := by
  simp only [State.timeSlug, a.stk]
  exact .counts _ _ (fun _ => .refl _) (.tables _ .start)

theorem Alike.completeSlug (x : SlugRecord) : LockStep s t (s.completeSlug x) (t.completeSlug x) := by
  unfold State.completeSlug
  simp only [a.active_eq]
  split
  · exact .start
  · split
    · have timed := a.timeSlug
      split
      · exact (timed _ _).trans (((timed _ _).alike a).depart x _ _)
      · exact timed _ _
    · exact lockStep_counts _ fun _ => .refl _

theorem Alike.arrive (q : SlugRecord → Bool) (x : SlugRecord) (r : Ring) (onset : Index) :
    LockStep s t (s.arrive q x r onset) (t.arrive q x r onset) := by
  unfold State.arrive
  simp only [a.stk, a.nextLive_eq, a.aim_eq]
  split
  · exact lockStep_tables rfl
  · have out : LockStep s t (s.setStk { s.stk with table := updateFirst q (fun _ => []) s.stk.table })
        (t.setStk { s.stk with table := updateFirst q (fun _ => []) s.stk.table }) := lockStep_tables rfl
    exact out.trans ((out.alike a).completeSlug _)

theorem Alike.createRecord (r next : Ring) (onset : Index) (peak width : Nat) :
    LockStep s t (s.createRecord r next onset peak width) (t.createRecord r next onset peak width) := by
  unfold State.createRecord
  simp only [a.stk, a.aim_eq]
  exact .counts _ _ (fun _ => .refl _) (.tables _ .start)

theorem Alike.detection (r : Ring) (onset : Index) (peak width : Nat) :
    LockStep s t (s.detection r onset peak width) (t.detection r onset peak width) := by
  have seen := a.mapTrack r fun x => { x with detected := true }
  refine seen.trans ?_
  have b := seen.alike a
  unfold State.detection
  generalize s.mapTrack r (fun x => { x with detected := true }) = u at *
  generalize t.mapTrack r (fun x => { x with detected := true }) = v at *
  simp only [b.stk, b.chain_eq, b.nextLive_eq]
  split
  · exact b.arrive _ _ _ _
  · split
    · split
      · exact b.createRecord _ _ _ _ _
      · exact .start
    · have counted : LockStep u v (u.count fun c => { c with unmatched := satAdd c.unmatched 1 })
          (v.count fun c => { c with unmatched := satAdd c.unmatched 1 }) := lockStep_counts _ fun _ => .refl _
      exact counted.trans ((counted.alike b).charge r)

theorem Alike.trackRing (i : Index) (r : Ring) : LockStep s t (s.trackRing i r) (t.trackRing i r) := by
  unfold State.trackRing
  simp only [a.stk, a.rings, a.isLive_eq, a.active_eq]
  split
  · have moved := a.mapTrack r fun x => { x with
      detector := (detectorStep s.active (s.stk.rings.get r).theta i (-((s.sfe.rings.get r).hist.headD 0))
        (s.stk.rings.get r).detector).1 }
    refine moved.trans ?_
    split
    · exact .start
    · exact lockStep_counts _ fun _ => .refl _
    · exact lockStep_counts _ fun _ => .refl _
    · exact (moved.alike a).detection _ _ _ _
  · exact .start

theorem Alike.trackFrame : LockStep s t s.trackFrame t.trackFrame := by
  have rings (l : List Ring) : ∀ u v : State, Alike u v → LockStep u v
      (l.foldl (fun s r => s.trackRing s.sfe.lastIndex r) u)
      (l.foldl (fun s r => s.trackRing s.sfe.lastIndex r) v) := by
    induction l with
    | nil => exact fun u v _ => .start
    | cons r l ih =>
      intro u v b
      have step := b.trackRing u.sfe.lastIndex r
      rw [List.foldl_cons, List.foldl_cons, b.last]
      exact step.trans (ih _ _ (step.alike b))
  exact rings Ring.all s t a

/-! ### The boundary in lock step (R52, R55, R63, R64, R68) -/

theorem Alike.isStale_eq (i : Index) : t.isStale i = s.isStale i := funext fun x => by
  simp only [State.isStale, State.arriving, a.stk]

theorem Alike.staleSweep (i : Index) : LockStep s t (s.staleSweep i) (t.staleSweep i) := by
  have drops (l : List SlugRecord) : ∀ u v : State, Alike u v → LockStep u v
      (l.foldl (fun s x => s.dropStale x) u) (l.foldl (fun s x => s.dropStale x) v) := by
    induction l with
    | nil => exact fun u v _ => .start
    | cons x l ih =>
      intro u v b
      exact (b.dropStale x).trans (ih _ _ ((b.dropStale x).alike b))
  unfold State.staleSweep
  simp only [a.stk, a.isStale_eq]
  have kept : LockStep s t (s.setStk { s.stk with table := s.stk.table.filter fun x => !s.isStale i x })
      (t.setStk { s.stk with table := s.stk.table.filter fun x => !s.isStale i x }) := lockStep_tables rfl
  exact kept.trans (drops _ _ _ (kept.alike a))

omit a in
theorem reAimList_lockStep (l : List SlugRecord) : ∀ s t : State, Alike s t →
    (reAimList l t).1 = (reAimList l s).1 ∧ LockStep s t (reAimList l s).2 (reAimList l t).2 := by
  induction l with
  | nil => exact fun s t _ => ⟨rfl, .start⟩
  | cons x l ih =>
    intro s t a
    obtain ⟨same, rest⟩ := ih s t a
    unfold reAimList
    simp only [a.health_eq, a.nextLive_eq, a.aim_eq]
    split
    · split
      · exact ⟨by rw [same], rest⟩
      · split
        · obtain ⟨same, rest⟩ := ih _ _ ((a.dropStale x).alike a)
          exact ⟨same, (a.dropStale x).trans rest⟩
        · obtain ⟨same, rest⟩ := ih _ _ ((a.completeSlug x).alike a)
          exact ⟨same, (a.completeSlug x).trans rest⟩
    · exact ⟨by rw [same], rest⟩

theorem Alike.reAim : LockStep s t s.reAim t.reAim := by
  obtain ⟨same, rest⟩ := reAimList_lockStep s.stk.table s t a
  unfold State.reAim
  simp only [a.stk, same]
  exact rest.trans (lockStep_tables (by rw [(rest.alike a).stk]))

theorem Alike.sortTable (changed : Bool) : LockStep s t (s.sortTable changed) (t.sortTable changed) := by
  have armed : LockStep s t s.armFailed t.armFailed := lockStep_tables (by rw [a.stk, a.health_eq])
  have swept := armed.trans ((armed.alike a).staleSweep s.sfe.lastIndex)
  have aimed := swept.trans (swept.alike a).reAim
  have b := aimed.alike a
  unfold State.sortTable
  rw [a.last]
  exact aimed.trans (lockStep_tables (by rw [b.stk, b.active_eq, b.health_eq]))

theorem Alike.trackerBoundary (changed : Bool) :
    LockStep s t (s.trackerBoundary changed) (t.trackerBoundary changed) := by
  have sorted := a.sortTable changed
  have b := sorted.alike a
  rw [State.trackerBoundary_eq, State.trackerBoundary_eq, a.last]
  refine .counts _ _ (fun _ => .refl _) (sorted.trans (lockStep_tables ?_))
  rw [b.stk]

end

/-! ### What the tracker leaves of the capture unit and of the counters -/

theorem State.trackFrame_fires (s : State) : Fires [.slugDeparted] s s.trackFrame := (Alike.refl s).trackFrame.fires

theorem State.trackFrame_records (s : State) : SameRecordCounts s.efu.stats s.trackFrame.efu.stats :=
  (Alike.refl s).trackFrame.records

theorem State.trackerBoundary_fires (changed : Bool) (s : State) :
    Fires [.slugDeparted] s (s.trackerBoundary changed) := ((Alike.refl s).trackerBoundary changed).fires

theorem State.trackerBoundary_records (changed : Bool) (s : State) :
    SameRecordCounts s.efu.stats (s.trackerBoundary changed).efu.stats :=
  ((Alike.refl s).trackerBoundary changed).records

theorem State.trackerWork_fires (old : Profile) (geometry : Bool) (s : State) :
    Fires [.slugDeparted] s (s.trackerWork old geometry) := by
  unfold State.trackerWork
  simp only
  split
  · exact (s.trackerBoundary_fires _).trans (.of_cap (State.trackerGeometry_cap old _))
  · exact s.trackerBoundary_fires _

theorem State.trackerWork_records (old : Profile) (geometry : Bool) (s : State) :
    SameRecordCounts s.efu.stats (s.trackerWork old geometry).efu.stats := by
  unfold State.trackerWork
  simp only
  split
  · exact s.trackerBoundary_records _
  · exact s.trackerBoundary_records _

theorem State.framed_fires (fr : Frame) (s : State) : Fires [.slugDeparted] s (s.framed fr) :=
  (s.storeFrame fr).trackFrame_fires.after rfl

theorem State.framed_records (fr : Frame) (s : State) : SameRecordCounts s.efu.stats (s.framed fr).efu.stats :=
  (s.storeFrame fr).trackFrame_records

end Sys2Proof.Machine
end

section
/-!
SUPPORT. The capture unit at postings, at completions and at boundaries (R171 to R174): what triggers it, what a
completion copies into it, and what the later parts of a boundary leave of it.
-/

namespace Sys2Proof.Machine

open Sys2Proof.Claim

/-! ### The kind that a capture waits for (R170, R171) -/

theorem waitsOn_eq (x : Trigger) : waitsOn x = x.kind := by cases x <;> rfl

theorem armedOn_iff (k : EventKind) (c : Cap) : ArmedOn k c ↔ c.waitsFor k = true := by
  simp only [ArmedOn, Cap.waitsFor, Bool.and_eq_true, beq_iff_eq, Option.bind_eq_some_iff, waitsOn_eq]

/-- A capture waits for one kind. -/
theorem Cap.waitsFor_ne (c : Cap) (j k : EventKind) (h : c.waitsFor k = true) (ne : j ≠ k) : c.waitsFor j = false := by
  simp only [Cap.waitsFor, Bool.and_eq_true, beq_iff_eq] at h
  rw [Cap.waitsFor, h.2]
  simp [Ne.symm ne]

theorem Fires.waits_only {kinds : List EventKind} {s t : State} {k : EventKind} (h : Fires kinds s t)
    (waits : s.cap.waitsFor k = true) (other : k ∉ kinds) : t.cap = s.cap :=
  h.quiet (Cap.armed_of_waitsFor _ k waits) fun j hj => Cap.waitsFor_ne _ j k waits fun e => other (e ▸ hj)

/-! ### A trigger (R171, R172) -/

/-- The latest 1,024 entries of a ring, the oldest first, read by sample index (R6, R172). -/
theorem State.rawValues_eq (s : State) (r : Ring) :
    s.rawValues r
      = (List.range 1024).map fun i => sampleAt s.sfe r (s.sfe.lastIndex - BitVec.ofNat 32 (1023 - i)) := by
  rw [State.rawValues, takeZ_eq]
  refine List.ext_getElem (by simp [Config.captureDepth]) fun i h₁ h₂ => ?_
  have bound : i < 1024 := by simpa using h₂
  have place (m : Nat) (hm : m < 1024) : (s.sfe.lastIndex - (s.sfe.lastIndex - BitVec.ofNat 32 m)).toNat = m := by
    bv_omega
  simp only [List.getElem_reverse, List.getElem_map, List.getElem_range, List.length_map, List.length_range,
    sampleAt, histAt, Config.captureDepth]
  rw [place _ (by omega)]

/-- A trigger does what it says to the unit it finds (R171, R172). -/
theorem State.triggerCapture_triggered (s : State) : Triggered s s.triggerCapture := by
  have only := s.triggerCapture_only
  refine ⟨fun slot content => ?_, fun r content on => ?_, fun r content off => ?_⟩
  all_goals
    have unfolded := State.triggerCapture.eq_1 s
    rw [content] at unfolded
  · rw [unfolded]
    rfl
  · have same : s.triggerCapture.pst = s.pst := by
      obtain ⟨_, _, h⟩ := only
      rw [h]
    rw [same, ← isConfigured_iff] at on
    simp only [State.active, on, if_true] at unfolded
    rw [unfolded, s.rawValues_eq]
    rfl
  · have same : s.triggerCapture.pst = s.pst ∧ s.triggerCapture.xcr = s.xcr ∧ s.triggerCapture.sfe = s.sfe := by
      obtain ⟨_, _, h⟩ := only
      rw [h]
      exact ⟨rfl, rfl, rfl⟩
    obtain ⟨store, correlator, front⟩ := same
    have unconfigured : isConfigured s.pst.active r = false := by
      rw [Bool.eq_false_iff, ne_eq, isConfigured_iff, not_lt, ← store]
      exact off
    rw [correlator, front]
    simp only [State.active, unconfigured, Bool.false_eq_true, if_false] at unfolded
    rw [unfolded]
    exact ⟨State.completeEmpty_cap _, fun p owner => State.completeEmpty_pends _ p owner⟩

/-- What comes after a trigger and leaves what the trigger recorded to stand. -/
structure KeepsTrigger (v t : State) : Prop where
  window : t.xcr.windowNumber = v.xcr.windowNumber
  last : t.sfe.lastIndex = v.sfe.lastIndex
  fill : t.sfe.fill = v.sfe.fill
  rings : ∀ r, (t.sfe.rings.get r).hist = (v.sfe.rings.get r).hist
  count : t.pst.active.ringCount = v.pst.active.ringCount
  posts : ∀ p, Pends v p .captureDone = true → Pends t p .captureDone = true

theorem KeepsTrigger.trans {s t u : State} (h : KeepsTrigger s t) (g : KeepsTrigger t u) : KeepsTrigger s u where
  window := g.window.trans h.window
  last := g.last.trans h.last
  fill := g.fill.trans h.fill
  rings r := (g.rings r).trans (h.rings r)
  count := g.count.trans h.count
  posts p hp := g.posts p (h.posts p hp)

theorem KeepsTrigger.of_blocks {v t : State} {kinds : List EventKind} (hx : t.xcr = v.xcr) (hf : t.sfe = v.sfe)
    (hp : t.pst = v.pst) (posts : PostsWithin kinds v t) : KeepsTrigger v t :=
  ⟨by rw [hx], by rw [hf], by rw [hf], fun r => by rw [hf], by rw [hp], fun p => posts.grows p _⟩

theorem OnlyEvents.keepsTrigger {v t : State} {kinds : List EventKind} (h : OnlyEvents v t)
    (posts : PostsWithin kinds v t) : KeepsTrigger v t := by
  obtain ⟨_, _, rfl⟩ := h
  exact .of_blocks rfl rfl rfl posts

/-- A trigger stands through what keeps it. -/
theorem later_triggered {s v t : State} (h : Triggered s v) (k : KeepsTrigger v t) (same : t.cap = v.cap) :
    Triggered s t := by
  obtain ⟨correlogram, raw, absent⟩ := h
  have sample (r : Ring) (i : Index) : sampleAt t.sfe r i = sampleAt v.sfe r i := by
    rw [sampleAt, k.last, k.rings]
    rfl
  unfold Triggered
  simp only [same, k.window, k.last, k.fill, k.count, sample]
  exact ⟨correlogram, raw, fun r content off =>
    ⟨(absent r content off).1, fun p owner => k.posts p ((absent r content off).2 p owner)⟩⟩

/-- A trigger says nothing of the state it began in but its capture unit. -/
theorem triggered_of_cap {s u t : State} (h : Triggered u t) (same : u.cap = s.cap) : Triggered s t := by
  unfold Triggered at h ⊢
  rwa [same] at h

/-- A posting of the kind that a capture waits for triggers it (R171). -/
theorem State.post_triggered (k : EventKind) (s : State) (waits : s.cap.waitsFor k = true) :
    Triggered s (s.post k) ∧ (s.post k).cap.state ≠ .armed := by
  rw [State.post_eq, if_pos waits]
  exact ⟨triggered_of_cap (s.addKind k).triggerCapture_triggered rfl, State.triggerCapture_fired _⟩

/-- Of several postings the one that a capture waits for triggers it, and the others leave it (R171). -/
theorem foldl_post_triggered (k : EventKind) (kinds : List EventKind) (s : State) (waits : s.cap.waitsFor k = true)
    (posted : k ∈ kinds) :
    let t := kinds.foldl (fun s k => s.post k) s
    Triggered s t ∧ t.cap.state ≠ .armed := by
  induction kinds generalizing s with
  | nil => simp at posted
  | cons j kinds ih =>
    rw [List.foldl_cons]
    by_cases hj : j = k
    · subst hj
      obtain ⟨triggered, fired⟩ := s.post_triggered j waits
      have kept := foldl_post_capStands kinds (s.post j) fired
      have rest := (foldl_post_only kinds (s.post j)).keepsTrigger (foldl_post_within kinds (s.post j))
      exact ⟨later_triggered triggered rest kept, by rw [kept]; exact fired⟩
    · have same := s.post_cap j (Cap.waitsFor_ne _ j k waits hj)
      obtain ⟨triggered, fired⟩ := ih (s.post j) (by rw [same]; exact waits) (List.mem_of_ne_of_mem (Ne.symm hj) posted)
      exact ⟨triggered_of_cap triggered same, fired⟩

theorem OnlyPublishes.keepsTrigger {v t : State} {kinds : List EventKind} (h : OnlyPublishes v t)
    (posts : PostsWithin kinds v t) : KeepsTrigger v t := by
  obtain ⟨_, window, front, store, _⟩ := h
  exact ⟨window, by rw [front], by rw [front], fun r => by rw [front], by rw [store], fun p => posts.grows p _⟩

/-! ### A completion (R173) -/

/-- A completion passes a capture that waits for no correlogram. -/
theorem State.captureCompletion_other (c : Option InFlight) (s : State)
    (h : s.cap.state = .filling → ∀ k, s.cap.content ≠ some (.correlogram k)) : s.captureCompletion c = s := by
  unfold State.captureCompletion
  split
  · next slot state content => exact absurd content (h state slot)
  · rfl

/-- A completion without the pair that a capture waits for completes it EMPTY. -/
theorem State.captureCompletion_absent (c : Option InFlight) (s : State) (k : Slot) (hs : s.cap.state = .filling)
    (hc : s.cap.content = some (.correlogram k)) (absent : ∀ f, c = some f → f.pairs.get k = none) :
    s.captureCompletion c = s.completeEmpty := by
  have no_pair : (c.bind fun f => (f.pairs.get k).map fun e => (f, e)) = none := by
    cases c with
    | none => rfl
    | some f => rw [Option.bind_some, absent f rfl]; rfl
  unfold State.captureCompletion
  rw [hs, hc]
  simp only
  rw [State.copyCorrelogram, no_pair]

/-- A completion with the pair that a capture waits for copies its correlogram. -/
theorem State.captureCompletion_present (f : InFlight) (e : PairEntry) (s : State) (k : Slot)
    (hs : s.cap.state = .filling) (hc : s.cap.content = some (.correlogram k)) (pair : f.pairs.get k = some e) :
    let shift := captureShift (maxMagnitude (s.sfe.correlogram f e))
    s.captureCompletion (some f) = (s.setCap { s.cap with header := s.cap.header.map fun h =>
        { h with corr := some (corrHeader (s.sfe.pairResult f e) shift) } }).completeCapture
      (scaleValues shift (s.sfe.correlogram f e)) := by
  intro shift
  unfold State.captureCompletion
  rw [hs, hc]
  simp only
  rw [State.copyCorrelogram, Option.bind_some, pair]
  rfl

theorem State.completeCapture_cap (values : List Int) (s : State) : (s.completeCapture values).cap = { s.cap with
    state := .full, buffer := values, count := values.length, empty := false } :=
  State.postCaptureDone_cap _

theorem State.completeCapture_pends (values : List Int) (s : State) (p : Port) (h : s.cap.owner = some p) :
    Pends (s.completeCapture values) p .captureDone = true := State.postCaptureDone_pends _ p h

theorem State.captureCompletion_fires (c : Option InFlight) (s : State) : Fires [] s (s.captureCompletion c) := by
  unfold State.captureCompletion
  split
  · next slot state _ =>
    refine .inr ⟨fun armed => absurd (state.symm.trans armed) (by decide), ?_⟩
    unfold State.copyCorrelogram
    split
    · rw [State.completeEmpty_cap]
      simp
    · rw [State.completeCapture_cap]
      simp
  · exact .refl _ s

theorem State.completed_fires (c : Option InFlight) (w : Index) (rs : PerSlot (Option PairResult)) (s : State) :
    Fires [] s (s.completed c w rs) := (State.captureCompletion_fires c _).after rfl

theorem State.completed_cap_other (c : Option InFlight) (w : Index) (rs : PerSlot (Option PairResult)) (s : State)
    (h : s.cap.state = .filling → ∀ k, s.cap.content ≠ some (.correlogram k)) :
    (s.completed c w rs).cap = s.cap := by
  rw [State.completed, State.captureCompletion_other c (s.publishResults w rs) h]
  rfl

/-- A completion without the pair that a capture waits for leaves it FULL without values, and tells its owner. -/
theorem State.completed_absent (c : Option InFlight) (w : Index) (rs : PerSlot (Option PairResult)) (s : State)
    (k : Slot) (hs : s.cap.state = .filling) (hc : s.cap.content = some (.correlogram k))
    (absent : ∀ f, c = some f → f.pairs.get k = none) :
    (s.completed c w rs).cap = { s.cap with
      state := .full, buffer := [], count := 0, empty := true
      header := s.cap.header.map fun h => { h with raw := none, corr := none } }
    ∧ ∀ p, s.cap.owner = some p → Pends (s.completed c w rs) p .captureDone = true := by
  rw [State.completed, State.captureCompletion_absent c (s.publishResults w rs) k hs hc absent]
  exact ⟨State.completeEmpty_cap _, fun p owner => State.completeEmpty_pends _ p owner⟩

/-! ### A publication (R73, R80, R105) -/

/-- The kinds that announce a record solved as `u` (R73, R80). -/
def announcedKinds (s u : State) : List EventKind :=
  if u.fsv.record.status == .lost && s.fsv.record.status != .lost then [.recordPublished, .velocityLost]
  else [.recordPublished]

theorem State.announce_eq (s u : State) : s.announce u = (announcedKinds s u).foldl (fun s k => s.post k) u := by
  unfold State.announce announcedKinds
  simp only
  split <;> rfl

theorem announcedKinds_subset (s u : State) : announcedKinds s u ⊆ [.recordPublished, .velocityLost] := by
  unfold announcedKinds
  split <;> simp

theorem velocityLost_mem_announcedKinds (s u : State) :
    .velocityLost ∈ announcedKinds s u ↔ u.fsv.record.status = .lost ∧ s.fsv.record.status ≠ .lost := by
  unfold announcedKinds
  split
  · next h => simpa using h
  · next h => simpa using h

theorem State.announce_fires (s u : State) : Fires [.recordPublished, .velocityLost] u (s.announce u) := by
  rw [State.announce_eq]
  exact (foldl_post_fires _ u).mono (announcedKinds_subset s u)

theorem State.guardStep_fires (s : State) : Fires [.guardWatch, .guardTripped, .guardRecovered] s s.guardStep := by
  refine (Fires.mono (foldl_post_fires _ _) fun k hk => ?_).after (u := s.guardStep)
    (t := (s.setDgd (s.dgd.step s.active s.fsv.record)).setFsv
      (s.fsv.writeGuard (s.dgd.step s.active s.fsv.record).state)) rfl
  have := guardEvents_subset _ _ _ hk
  simp only [List.mem_cons, List.not_mem_nil, or_false] at this ⊢
  tauto

/-- The kinds of a publication that a capture may wait for, and those beside them (R73). -/
def publishedKinds : List EventKind :=
  [.recordPublished, .velocityLost, .guardWatch, .guardTripped, .guardRecovered]

theorem State.publish_fires (w : Index) (rs : PerSlot (Option PairResult)) (s : State) :
    Fires publishedKinds s (s.publish w rs) := by
  have announced := ((s.announce_fires (s.solve w rs)).mono (more := publishedKinds) (by decide)).after
    (s := s) (t := s.solve w rs) rfl
  have guarded := (s.announce (s.solve w rs)).guardStep_fires.mono (more := publishedKinds) (by decide)
  rw [State.publish_steps]
  exact (announced.trans guarded).trans (.of_cap (State.integrateRecord_cap _))

theorem State.completeWithoutPairs_fires (s : State) : Fires publishedKinds s s.completeWithoutPairs :=
  ((s.completed_fires none _ _).mono (by simp)).trans (State.publish_fires _ _ _)

/-- GUARD_TRIPPED is posted exactly by a step into TRIPPED (R105). -/
theorem guardTripped_mem_guardEvents (p : Profile) (r : FlowRecord) (g : Dgd) :
    .guardTripped ∈ guardEvents p r g ↔ g.state ≠ .tripped ∧ (g.step p r).state = .tripped := by
  unfold guardEvents Dgd.step
  cases g.state with
  | clear => simp only; split_ifs <;> simp [Dgd.make]
  | watch =>
    cases r.isDanger p with
    | false =>
      simp only [Bool.false_and, Bool.false_eq_true, if_false]
      split <;> simp [Dgd.make]
    | true => by_cases reached : p.tripCount ≤ g.danger + 1 <;> simp [reached, Dgd.make]
  | tripped => simp only; split_ifs <;> simp
  | recovered => simp only; split_ifs <;> simp [Dgd.make]

/-- What a publication makes of a capture ARMED on the guard's trip (R105, R171). -/
theorem State.publish_guardTripped (w : Index) (rs : PerSlot (Option PairResult)) (s : State)
    (waits : s.cap.waitsFor .guardTripped = true) :
    (s.dgd.state ≠ .tripped ∧ (s.publish w rs).dgd.state = .tripped → Triggered s (s.publish w rs))
    ∧ (s.dgd.state = .tripped ∨ (s.publish w rs).dgd.state ≠ .tripped → (s.publish w rs).cap = s.cap) := by
  have announced : (s.announce (s.solve w rs)).cap = s.cap :=
    Fires.waits_only (s := s.solve w rs) (k := .guardTripped) (s.announce_fires _) waits (by decide)
  have only := s.announce_only (s.solve w rs)
  have guard : (s.publish w rs).dgd = s.dgd.step s.active (s.computeRecord w rs) := by rw [State.publish_eq]
  have trips := guardTripped_mem_guardEvents s.active (s.computeRecord w rs) s.dgd
  have caught := State.integrateRecord_cap (s.announce (s.solve w rs)).guardStep
  have kept : KeepsTrigger (s.announce (s.solve w rs)).guardStep (s.publish w rs) := by
    rw [State.publish_steps]
    exact (State.integrateRecord_onlyPublishes _).keepsTrigger (State.integrateRecord_within _)
  rw [State.publish_steps] at kept ⊢
  rw [State.publish_steps] at guard
  rw [guard]
  generalize (s.announce (s.solve w rs)).guardStep.integrateRecord = t at *
  have step : (s.announce (s.solve w rs)).guardStep
      = (guardEvents s.active (s.computeRecord w rs) s.dgd).foldl (fun s k => s.post k)
        (((s.announce (s.solve w rs)).setDgd (s.dgd.step s.active (s.computeRecord w rs))).setFsv
          ((s.announce (s.solve w rs)).fsv.writeGuard (s.dgd.step s.active (s.computeRecord w rs)).state)) := by
    obtain ⟨_, _, h⟩ := only
    rw [State.guardStep, h]
    rfl
  generalize s.announce (s.solve w rs) = v at *
  have armed : ((v.setDgd (s.dgd.step s.active (s.computeRecord w rs))).setFsv
      (v.fsv.writeGuard (s.dgd.step s.active (s.computeRecord w rs)).state)).cap.waitsFor .guardTripped = true := by
    show v.cap.waitsFor .guardTripped = true
    rw [announced]
    exact waits
  rw [step] at caught kept
  refine ⟨fun tripping => ?_, fun still => ?_⟩
  · obtain ⟨triggered, _⟩ := foldl_post_triggered .guardTripped _ _ armed (trips.2 tripping)
    exact later_triggered (triggered_of_cap triggered announced) kept caught
  · rw [caught, (foldl_post_fires _ _).waits_only armed fun posted => ?_]
    · exact announced
    · obtain ⟨was, is⟩ := trips.1 posted
      rcases still with h | h
      · exact was h
      · exact h is

/-- What a publication makes of a capture ARMED on the loss of the velocity (R80, R171). -/
theorem State.publish_velocityLost_cap (w : Index) (rs : PerSlot (Option PairResult)) (s : State)
    (waits : s.cap.waitsFor .velocityLost = true) :
    ((s.publish w rs).fsv.record.status = .lost ∧ s.fsv.record.status ≠ .lost → Triggered s (s.publish w rs))
    ∧ ((s.publish w rs).fsv.record.status ≠ .lost ∨ s.fsv.record.status = .lost → (s.publish w rs).cap = s.cap) := by
  have record : (s.publish w rs).fsv.record.status = (s.solve w rs).fsv.record.status := by
    rw [State.publish_fsv]
    rfl
  have lost := velocityLost_mem_announcedKinds s (s.solve w rs)
  have eq := s.announce_eq (s.solve w rs)
  have solved : (s.solve w rs).cap.waitsFor .velocityLost = true := waits
  rw [record]
  generalize (s.solve w rs).fsv.record.status = status at *
  have guarded := (s.announce (s.solve w rs)).guardStep_fires
  have kept : KeepsTrigger (s.announce (s.solve w rs)) (s.publish w rs) := by
    rw [State.publish_steps]
    exact ((State.guardStep_onlyPublishes _).keepsTrigger (State.guardStep_within _)).trans
      ((State.integrateRecord_onlyPublishes _).keepsTrigger (State.integrateRecord_within _))
  have stands : CapStands (s.announce (s.solve w rs)) (s.publish w rs) := by
    rw [State.publish_steps]
    exact (State.guardStep_capStands _).trans (.of_cap (State.integrateRecord_cap _))
  have caught : (s.publish w rs).cap = (s.announce (s.solve w rs)).guardStep.cap := by
    rw [State.publish_steps, State.integrateRecord_cap]
  generalize s.publish w rs = t at *
  refine ⟨fun fresh => ?_, fun other => ?_⟩
  · obtain ⟨triggered, fired⟩ := foldl_post_triggered .velocityLost _ _ solved (lost.2 fresh)
    rw [← eq] at triggered fired
    exact later_triggered (triggered_of_cap triggered rfl) kept (stands fired)
  · have quiet : (s.announce (s.solve w rs)).cap = s.cap := by
      rw [eq]
      refine (foldl_post_fires _ _).waits_only solved fun posted => ?_
      obtain ⟨is, was⟩ := lost.1 posted
      rcases other with h | h
      · exact h is
      · exact was h
    rw [caught, guarded.waits_only (by rw [quiet]; exact waits) (by decide), quiet]

end Sys2Proof.Machine
end

section
/-!
SUPPORT. The capture unit and the reports over a boundary (R171 to R174): the grades' postings, the work that
stands beside a publication, and the publication of a completion without pairs.
-/

namespace Sys2Proof.Machine

open Sys2Proof.Claim

/-! ### The postings of the grades (R12) -/

/-- The kinds that the grading of the rings posts, in ring order (R12). -/
def gradeKinds (before after : PerRing RingSense) : List EventKind :=
  Ring.all.filterMap fun r => healthEvent (before.get r).health (after.get r).health

theorem State.postHealth_posts (before : PerRing RingSense) (s : State) :
    s.postHealth before = (gradeKinds before s.sfe.rings).foldl (fun s k => s.post k) s := by
  rw [gradeKinds, List.foldl_filterMap, State.postHealth_eq]
  congr
  funext u r
  rw [State.postGrade]
  cases healthEvent (before.get r).health (s.sfe.rings.get r).health <;> rfl

theorem ringFailed_mem_gradeKinds (before after : PerRing RingSense) :
    .ringFailed ∈ gradeKinds before after
      ↔ ∃ r, (before.get r).health = .suspect ∧ (after.get r).health = .failed := by
  have event (x y : Health) : healthEvent x y = some .ringFailed ↔ x = .suspect ∧ y = .failed := by
    cases x <;> cases y <;> simp [healthEvent]
  simp only [gradeKinds, List.mem_filterMap, event, Ring.mem_all, true_and]

/-! ### What stands beside a publication -/

/-- The kinds that a boundary's work beside a publication may post (R62, R120, R161). -/
def asideKinds : List EventKind := [.slugDeparted, .totalsCleared, .faultMapFull, .captureDone]

/-- Work of a boundary beside a publication: it reaches a capture by departures alone, counts no completion and no
record, and does not record a pulse overrun. -/
structure Aside (s t : State) : Prop where
  stands : CapStands s t
  fires : Fires [.slugDeparted] s t
  posts : PostsWithin asideKinds s t
  records : SameRecordCounts s.efu.stats t.efu.stats
  overrun : KeepsKey overrunKey s t

theorem Aside.refl (s : State) : Aside s s := ⟨.refl s, .refl _ s, .refl _ s, .refl _, .refl _ s⟩

theorem Aside.trans {s t u : State} (h : Aside s t) (g : Aside t u) : Aside s u :=
  ⟨h.stands.trans g.stands, h.fires.trans g.fires, h.posts.trans g.posts, h.records.trans g.records,
    h.overrun.trans g.overrun⟩

theorem State.trackerBoundary_within (changed : Bool) (s : State) :
    PostsWithin [.slugDeparted, .captureDone] s (s.trackerBoundary changed) := by
  obtain ⟨_, ports, _⟩ := s.trackerBoundary_after_sort changed
  exact (s.sortTable_work changed).posts.trans (.of_ports ports)

theorem State.trackerWork_within (old : Profile) (geometry : Bool) (s : State) :
    PostsWithin [.slugDeparted, .captureDone] s (s.trackerWork old geometry) := by
  unfold State.trackerWork
  simp only
  split
  · exact (s.trackerBoundary_within _).trans (.of_ports rfl)
  · exact s.trackerBoundary_within _

theorem State.trackerWork_aside (old : Profile) (geometry : Bool) (s : State) : Aside s (s.trackerWork old geometry) :=
  ⟨s.trackerWork_capStands old geometry, s.trackerWork_fires old geometry,
    (s.trackerWork_within old geometry).mono (by decide), s.trackerWork_records old geometry,
    (s.trackerWork_passes old geometry overrunKey).keeps⟩

theorem State.applyClearIfPending_within (s : State) :
    PostsWithin [.totalsCleared, .captureDone] s s.applyClearIfPending := by
  unfold State.applyClearIfPending
  split
  · exact s.applyClear_within
  · exact .refl _ s

theorem State.applyClearIfPending_aside (s : State) : Aside s s.applyClearIfPending := by
  obtain ⟨_, _, stats⟩ := s.applyClearIfPending_blocks
  exact ⟨.of_cap s.applyClearIfPending_cap, .of_cap s.applyClearIfPending_cap,
    s.applyClearIfPending_within.mono (by decide), by rw [stats]; exact .refl _, .of_faults s.applyClearIfPending_faults⟩

theorem State.takeNote_within (x : Note) (s : State) : PostsWithin [.faultMapFull, .captureDone] s (s.takeNote x) := by
  obtain ⟨key, _ | _ | _⟩ := x
  · exact s.noteFault_within false key
  · exact .of_ports rfl
  · exact s.noteFault_within true key

theorem State.takeNotes_within (n : Nat) (l : List Note) (s : State) :
    PostsWithin [.faultMapFull, .captureDone] s (s.takeNotes n l) := by
  obtain ⟨order, _, h⟩ := s.takeNotes_eq_foldl n l
  rw [h]
  exact foldl_keeps (PostsWithin.refl _) PostsWithin.trans (fun s x => s.takeNote_within x) order s

theorem State.takeNotes_aside (n : Nat) (l : List Note) (s : State) (h : overrunKey ∉ l.map (·.1)) :
    Aside s (s.takeNotes n l) :=
  ⟨.of_cap (s.takeNotes_cap n l), .of_cap (s.takeNotes_cap n l), (s.takeNotes_within n l).mono (by decide),
    by rw [s.takeNotes_stats]; exact .refl _, s.takeNotes_keepsKey n overrunKey l h⟩

/-- No recording of a boundary is a pulse overrun. -/
theorem DistinctKeys.no_overrun {notes : List Note} (h : DistinctKeys notes) (s : State) (p : Note → Bool) :
    overrunKey ∉ ((s.driftNote :: notes).filter p).map (·.1) := fun hm => by
  obtain ⟨x, hx, hk⟩ := List.mem_map.1 hm
  exact h.overrun (hk ▸ List.mem_map_of_mem (f := (·.1)) (List.mem_filter.1 hx).1)

theorem State.finishBoundary_aside (n : Nat) (old : Profile) (geometry : Bool) (notes : List Note) (s : State)
    (h : DistinctKeys notes) : Aside s (s.finishBoundary n old geometry notes) := by
  have worked := (s.trackerWork_aside old geometry).trans (State.applyClearIfPending_aside _)
  unfold State.finishBoundary
  simp only
  refine worked.trans (State.takeNotes_aside _ _ _ ?_)
  have all := h.no_overrun (s.trackerWork old geometry).applyClearIfPending fun _ => true
  rwa [List.filter_true] at all

theorem State.earlyNoted_aside (n : Nat) (old : Profile) (notes : List Note) (s : State) (h : DistinctKeys notes) :
    Aside s (s.earlyNoted n old notes) := by
  have tracked : Aside s (if Config.takenFirst .trackerBeforePublication n then s.trackerWork old false else s) := by
    split
    · exact s.trackerWork_aside old false
    · exact .refl s
  have before : Aside s (s.beforePublication n old) := by
    unfold State.beforePublication
    simp only
    split
    · exact tracked.trans (State.applyClearIfPending_aside _)
    · exact tracked
  exact before.trans (State.takeNotes_aside _ _ _ (h.no_overrun _ _))

/-- What a boundary with a completion still does after its publication. -/
theorem State.finishWithCompletion_aside (n : Nat) (old : Profile) (notes : List Note) (s : State)
    (h : DistinctKeys notes) :
    Aside (s.earlyNoted n old notes).completeWithoutPairs (s.finishWithCompletion n old notes) := by
  rw [State.finishWithCompletion_eq]
  refine Aside.trans ?_ (State.takeNotes_aside _ _ _ (h.no_overrun _ _))
  unfold State.publicationOn
  refine Aside.trans ?_ (State.applyClearIfPending_aside _)
  split
  · exact .refl _
  · exact State.trackerWork_aside _ _ _

/-! ### The completion without pairs at a capture (R173) -/

theorem State.completeWithoutPairs_within (s : State) :
    PostsWithin [.recordPublished, .velocityLost, .guardTripped, .guardWatch, .guardRecovered, .pulseOverrun,
      .faultMapFull, .captureDone] s s.completeWithoutPairs := by
  have copied := s.completed_within none s.xcr.windowNumber (PerSlot.fill none)
  have announced := (State.announce_within (s.completed none s.xcr.windowNumber (PerSlot.fill none))
    ((s.completed none s.xcr.windowNumber (PerSlot.fill none)).solve s.xcr.windowNumber (PerSlot.fill none))).after
    (s := s.completed none s.xcr.windowNumber (PerSlot.fill none)) rfl
  have published := State.publish_within s.xcr.windowNumber (PerSlot.fill none)
    (s.completed none s.xcr.windowNumber (PerSlot.fill none))
  exact (copied.mono (by simp)).trans ((announced.mono (by simp)).trans (published.mono (by simp)))

/-- A capture that waits for no completion stands through one, unless it is ARMED. -/
theorem State.completeWithoutPairs_stands_cap (s : State)
    (h : s.cap.state = .filling → ∀ k, s.cap.content ≠ some (.correlogram k)) :
    CapStands s s.completeWithoutPairs :=
  CapStands.trans (.of_cap (s.completed_cap_other none _ _ h)) (State.publish_capStands _ _ _)

/-- A correlogram that waits for a completion is completed EMPTY by one without pairs. -/
theorem State.completeWithoutPairs_absent (s : State) (k : Slot) (hs : s.cap.state = .filling)
    (hc : s.cap.content = some (.correlogram k)) :
    s.completeWithoutPairs.cap = { s.cap with
      state := .full, buffer := [], count := 0, empty := true
      header := s.cap.header.map fun h => { h with raw := none, corr := none } }
    ∧ ∀ p, s.cap.owner = some p → Pends s.completeWithoutPairs p .captureDone = true := by
  obtain ⟨cap, done⟩ := s.completed_absent none s.xcr.windowNumber (PerSlot.fill none) k hs hc fun _ h => by cases h
  have published := State.publish_capStands s.xcr.windowNumber (PerSlot.fill none)
    (s.completed none s.xcr.windowNumber (PerSlot.fill none)) (by rw [cap]; simp)
  exact ⟨published.trans cap, fun p owner => (State.publish_steady _ _ _).posts.grows p _ (done p owner)⟩

/-! ### A boundary at a capture -/

theorem State.captureGeometry_fires (s : State) : Fires [] s s.captureGeometry := by
  unfold State.captureGeometry
  split
  · next state _ =>
    refine .inr ⟨fun armed => absurd (state.symm.trans armed) (by decide), ?_⟩
    rw [State.completeEmpty_cap]
    simp
  · exact .refl _ s

theorem State.applyCommit_fires (s : State) : Fires [] s s.applyCommit := by
  rw [State.applyCommit_eq]
  split
  · exact s.commitBlocks.captureGeometry_fires.after rfl
  · exact .of_cap rfl

theorem State.applyPending_fires (n : Nat) (s : State) : Fires [] s (s.applyPending n) := by
  unfold State.applyPending
  split
  · refine (State.applyCommit_fires _).after ?_
    split
    · exact s.applyClear_cap
    · rfl
  · exact .refl _ s

theorem State.moveCorrelator_cap (s : State) : s.moveCorrelator.cap = s.cap := by
  obtain ⟨_, _, _, h⟩ := s.moveCorrelator_moved.blocks
  rw [h]

/-- The middle of a boundary, from its grades to its tracker's work, reaches no ARMED capture (R171). -/
theorem State.boundaryCore_fires (s : State) : Fires [] s.closedWindow s.boundaryCore :=
  (s.closedWindow.applyPending_fires s.freeCount).trans (.of_cap (State.moveCorrelator_cap _))

/-- A boundary without a geometry commit leaves the capture unit in its middle part. -/
theorem State.boundaryCore_cap (s : State) (plain : s.pst.geometryPending = false) :
    s.boundaryCore.cap = s.closedWindow.cap := by
  have store : s.closedWindow.pst = s.pst := by
    obtain ⟨_, _, h⟩ := s.closedWindow_only
    rw [h]
    rfl
  exact (State.moveCorrelator_cap _).trans
    ((s.closedWindow.applyPending_applied s.freeCount).cap (by rw [store]; exact plain))

theorem State.notesAtBoundary_distinct (s : State) : DistinctKeys s.notesAtBoundary := boundaryNotes_distinct _ _ _ _

/-- The later parts of a boundary reach an ARMED capture by departures and by a publication (R171). -/
theorem State.boundary_fires (s : State) : Fires (.slugDeparted :: publishedKinds) s.closedWindow s.boundary := by
  have core := s.boundaryCore_fires.mono (more := .slugDeparted :: publishedKinds) (by simp)
  refine core.trans ?_
  rcases s.boundary_cases with ⟨_, eq⟩ | ⟨_, eq⟩ <;> rw [eq]
  · exact (State.finishBoundary_aside _ _ _ _ _ s.notesAtBoundary_distinct).fires.mono (by simp)
  · have before := (s.boundaryCore.earlyNoted_aside s.freeCount s.active _ s.notesAtBoundary_distinct).fires
    have after := (s.boundaryCore.finishWithCompletion_aside s.freeCount s.active _ s.notesAtBoundary_distinct).fires
    exact (before.mono (by simp)).trans ((State.completeWithoutPairs_fires _).mono (List.subset_cons_self _ _) |>.trans
      (after.mono (by simp)))

/-- A capture that is not ARMED stands through a boundary that gives no completion that it waits for. -/
theorem State.boundary_capStands (s : State)
    (h : s.boundaryCore.completesWithoutPairs = true → s.boundaryCore.cap.state = .filling →
      ∀ k, s.boundaryCore.cap.content ≠ some (.correlogram k)) : CapStands s.boundaryCore s.boundary := by
  rcases s.boundary_cases with ⟨none, _⟩ | ⟨completes, eq⟩
  · exact (s.boundary_plain none).cap
  · intro idle
    have before := (s.boundaryCore.earlyNoted_aside s.freeCount s.active _ s.notesAtBoundary_distinct).stands
    have after := (s.boundaryCore.finishWithCompletion_aside s.freeCount s.active _ s.notesAtBoundary_distinct).stands
    have other := (s.boundaryCore.earlyNoted s.freeCount s.active s.notesAtBoundary).completeWithoutPairs_stands_cap
      (by rw [before idle]; exact h completes)
    rw [eq]
    exact (before.trans (other.trans after)) idle

/-- A correlogram that waits for a completion is completed EMPTY by a boundary that gives one without pairs. -/
theorem State.boundary_absent (s : State) (k : Slot) (completes : s.boundaryCore.completesWithoutPairs = true)
    (hs : s.boundaryCore.cap.state = .filling) (hc : s.boundaryCore.cap.content = some (.correlogram k)) :
    s.boundary.cap = { s.boundaryCore.cap with
      state := .full, buffer := [], count := 0, empty := true
      header := s.boundaryCore.cap.header.map fun h => { h with raw := none, corr := none } }
    ∧ ∀ p, s.boundaryCore.cap.owner = some p → Pends s.boundary p .captureDone = true := by
  rcases s.boundary_cases with ⟨none, _⟩ | ⟨_, eq⟩
  · exact absurd (none.symm.trans completes) (by decide)
  · have before := (s.boundaryCore.earlyNoted_aside s.freeCount s.active _ s.notesAtBoundary_distinct).stands
      (by rw [hs]; decide)
    have after := s.boundaryCore.finishWithCompletion_aside s.freeCount s.active _ s.notesAtBoundary_distinct
    obtain ⟨cap, done⟩ := (s.boundaryCore.earlyNoted s.freeCount s.active s.notesAtBoundary).completeWithoutPairs_absent
      k (by rw [before]; exact hs) (by rw [before]; exact hc)
    rw [before] at cap done
    rw [eq]
    exact ⟨(after.stands (by rw [cap]; simp)).trans cap, fun p owner => after.posts.grows p _ (done p owner)⟩

/-! ### When a boundary gives a completion without pairs (R31, R34) -/

/-- With no pair and no correlation to be skipped past, the correlator is IDLE after its part of a boundary. -/
theorem State.moveCorrelator_idle (s : State) (empty : tableEmpty s.rebuildTable.xcr.table = true)
    (h : ∀ f, s.xcr.state ≠ .running f) : s.moveCorrelator.xcr.state = .idle := by
  have begun (u : State) (hu : tableEmpty u.xcr.table = true) : u.beginCorrelation.xcr.state = .idle := by
    rw [State.beginCorrelation, hu, Bool.not_true, Bool.and_false, if_neg Bool.false_ne_true]
    rfl
  unfold State.moveCorrelator
  rcases s.rebuildTable.correlatorBoundary_cases with ⟨_, eq⟩ | ⟨f, running, _⟩ | ⟨_, _, eq⟩
  · rw [eq]
    exact begun _ empty
  · exact absurd running (h f)
  · rw [eq]
    exact begun _ empty

/-- The correlator's part of a boundary rebuilds the table and nothing else of it (R27). -/
theorem State.moveCorrelator_table (s : State) : s.moveCorrelator.xcr.table = s.rebuildTable.xcr.table := by
  have begun (u : State) : u.beginCorrelation.xcr.table = u.xcr.table := by
    unfold State.beginCorrelation
    split <;> rfl
  unfold State.moveCorrelator
  rcases s.rebuildTable.correlatorBoundary_cases with ⟨_, eq⟩ | ⟨_, _, eq⟩ | ⟨_, _, eq⟩ <;> rw [eq]
  · exact begun _
  · rfl
  · exact begun _

/-- A boundary without a geometry commit gives a completion where the statements say so (R31). -/
theorem State.framed_completes_of (fr : Frame) (s : State) (plain : s.pst.geometryPending = false)
    (h : EmptyCompletion s (s.framed fr).boundary) : (s.framed fr).boundaryCore.completesWithoutPairs = true := by
  obtain ⟨ready, empty, idle⟩ := h
  have plain' : (s.framed fr).pst.geometryPending = false := by rwa [State.framed_pst]
  have front := (s.framed fr).boundaryCore_start.sfe
  obtain ⟨table, _⟩ := (s.framed fr).boundary_end.only
  rw [table] at empty
  have no_pair : tableEmpty (s.framed fr).boundaryCore.xcr.table = true := (tableEmpty_iff _).2 empty
  have readied : (s.framed fr).boundaryCore.sfe.ready = true := by
    rw [front, State.boundarySfe_plain _ plain', State.windowClosed_ready, Bool.or_eq_true, decide_eq_true_eq,
      State.framed_sfe, State.framed_active]
    exact ready
  have before : ∀ f, ((s.framed fr).closedWindow.applyPending (s.framed fr).freeCount).xcr.state ≠ .running f := by
    have applied := (s.framed fr).closedWindow.applyPending_applied (s.framed fr).freeCount
    have same : (s.framed fr).closedWindow.xcr.state = s.xcr.state := by
      rw [(s.framed fr).closedWindow_only.xcr]
      show (s.framed fr).xcr.state = _
      rw [State.framed_xcr]
    intro f
    rw [applied.xcr]
    split
    · simp
    · rw [same]
      exact idle f
  have state : (s.framed fr).boundaryCore.xcr.state = .idle := by
    refine State.moveCorrelator_idle _ ?_ before
    rw [← State.moveCorrelator_table]
    exact no_pair
  simp only [State.completesWithoutPairs, readied, no_pair, state, Bool.true_and, beq_self_eq_true]

end Sys2Proof.Machine
end

section
/-!
PROOFS. CaptureAtCompletion: the copy of a correlogram (R173, R174), and the captures that a publication and a ring's
failure trigger (R171).
-/

namespace Sys2Proof.Machine

open Sys2Proof.Claim

/-! ### The shift of a copied correlogram (R173) -/

theorem le_maxMagnitude (l : List Int) (x : Int) (h : x ∈ l) : x.natAbs ≤ maxMagnitude l := by
  have fold (l : List Int) (m : Nat) : m ≤ l.foldl (fun m x => max m x.natAbs) m
      ∧ ∀ x ∈ l, x.natAbs ≤ l.foldl (fun m x => max m x.natAbs) m := by
    induction l generalizing m with
    | nil => exact ⟨le_rfl, by simp⟩
    | cons y l ih =>
      obtain ⟨base, rest⟩ := ih (max m y.natAbs)
      refine ⟨(le_max_left _ _).trans base, fun x hx => ?_⟩
      rcases List.mem_cons.1 hx with rfl | hx
      · exact (le_max_right _ _).trans base
      · exact rest x hx
  exact (fold l 0).2 x h

/-- The largest magnitude is that of a value. -/
theorem maxMagnitude_attained (l : List Int) (h : l ≠ []) : ∃ x ∈ l, maxMagnitude l = x.natAbs := by
  have fold (l : List Int) (m : Nat) : l.foldl (fun m x => max m x.natAbs) m = m
      ∨ ∃ x ∈ l, l.foldl (fun m x => max m x.natAbs) m = x.natAbs := by
    induction l generalizing m with
    | nil => exact .inl rfl
    | cons y l ih =>
      rcases ih (max m y.natAbs) with same | ⟨x, hx, eq⟩
      · rcases max_choice m y.natAbs with left | right
        · exact .inl (same.trans left)
        · exact .inr ⟨y, List.mem_cons_self, same.trans right⟩
      · exact .inr ⟨x, List.mem_cons_of_mem y hx, eq⟩
  rcases fold l 0 with zero | attained
  · obtain ⟨x, hx⟩ := List.exists_mem_of_ne_nil l h
    refine ⟨x, hx, zero.trans (Nat.le_zero.1 ?_).symm⟩
    rw [← zero]
    exact le_maxMagnitude l x hx
  · exact attained

/-- The shift is the smallest up to 8 that brings a magnitude below 2^31, and 8 where none does (R173). -/
theorem captureShift_spec (m : Nat) :
    captureShift m ≤ 8 ∧ (∀ j < captureShift m, 2 ^ 31 ≤ m / 2 ^ j)
    ∧ (captureShift m < 8 → m / 2 ^ captureShift m < 2 ^ 31) := by
  unfold captureShift
  cases found : (List.range 8).find? fun k => m / 2 ^ k < 2 ^ 31 with
  | none =>
    refine ⟨le_rfl, fun j hj => ?_, fun h => absurd h (lt_irrefl 8)⟩
    have := List.find?_eq_none.1 found j (List.mem_range.2 hj)
    simpa using this
  | some k =>
    obtain ⟨fits, inside, least⟩ := List.find?_range_eq_some.1 found
    refine ⟨(List.mem_range.1 inside).le, fun j hj => ?_, fun _ => of_decide_eq_true fits⟩
    simpa using least j hj

/-- The copy of a correlogram: the sums of R30 over the range, divided by the shift's power of two, which is the
least that fits them (R173). -/
theorem Sfe.scaled_correlogram (sfe : Sfe) (f : InFlight) (e : PairEntry) (ordered : e.lmin ≤ e.lmax) (hn : f.n ≤ 512) :
    let sum := sumAt sfe f e
    let shift := captureShift (maxMagnitude (sfe.correlogram f e))
    let buffer := scaleValues shift (sfe.correlogram f e)
    shift ≤ 8 ∧ buffer.length = e.lmax - e.lmin + 1
    ∧ (∀ i, i ≤ e.lmax - e.lmin → buffer[i]? = some (sum (e.lmin + i) / 2 ^ shift))
    ∧ (∀ j < shift, ∃ i, i ≤ e.lmax - e.lmin ∧ 2 ^ 31 ≤ (sum (e.lmin + i)).natAbs / 2 ^ j)
    ∧ (shift < 8 → ∀ i, i ≤ e.lmax - e.lmin → (sum (e.lmin + i)).natAbs / 2 ^ shift < 2 ^ 31) := by
  intro sum shift buffer
  have length : (sfe.correlogram f e).length = e.lmax - e.lmin + 1 := by rw [Sfe.correlogram_length]; omega
  have value (i : Nat) (hi : i ≤ e.lmax - e.lmin) : (sfe.correlogram f e)[i]? = some (sum (e.lmin + i)) :=
    sfe.correlogram_getElem? f e i hn hi ordered
  obtain ⟨bound, least, fits⟩ := captureShift_spec (maxMagnitude (sfe.correlogram f e))
  refine ⟨bound, by rw [← length]; exact List.length_map _, fun i hi => ?_, fun j hj => ?_, fun h i hi => ?_⟩
  · show ((sfe.correlogram f e).map fun x => x / 2 ^ shift)[i]? = _
    rw [List.getElem?_map, value i hi]
    rfl
  · obtain ⟨x, hx, attained⟩ := maxMagnitude_attained (sfe.correlogram f e)
      (List.ne_nil_of_length_pos (by rw [length]; exact Nat.succ_pos _))
    obtain ⟨i, hi, at_i⟩ := List.getElem_of_mem hx
    have inside : i ≤ e.lmax - e.lmin := by omega
    refine ⟨i, inside, ?_⟩
    have same : sum (e.lmin + i) = x := Option.some.inj ((value i inside).symm.trans (List.getElem?_eq_some_iff.2 ⟨hi, at_i⟩))
    rw [same, ← attained]
    exact least j hj
  · have mem : sum (e.lmin + i) ∈ sfe.correlogram f e := List.mem_of_getElem? (value i hi)
    exact (Nat.div_le_div_right (le_maxMagnitude _ _ mem)).trans_lt (fits h)

/-- What a completion with the pair that a capture waits for makes of the unit (R173, R174). -/
theorem State.completed_present (f : InFlight) (e : PairEntry) (w : Index) (rs : PerSlot (Option PairResult)) (s : State)
    (k : Slot) (hs : s.cap.state = .filling) (hc : s.cap.content = some (.correlogram k))
    (pair : f.pairs.get k = some e) :
    let shift := captureShift (maxMagnitude (s.sfe.correlogram f e))
    let values := scaleValues shift (s.sfe.correlogram f e)
    (s.completed (some f) w rs).cap = { s.cap with
      state := .full, buffer := values, count := values.length, empty := false
      header := s.cap.header.map fun h => { h with corr := some (corrHeader (s.sfe.pairResult f e) shift) } }
    ∧ ∀ p, s.cap.owner = some p → Pends (s.completed (some f) w rs) p .captureDone = true := by
  intro shift values
  rw [State.completed, State.captureCompletion_present f e (s.publishResults w rs) k hs hc pair]
  exact ⟨State.completeCapture_cap _ _, fun p owner => State.completeCapture_pends _ _ p owner⟩

/-- What a publication does to the capture that its completion has filled: nothing (R171). -/
theorem State.publish_cap_full (w : Index) (rs : PerSlot (Option PairResult)) (s : State)
    (full : s.cap.state = .full) : (s.publish w rs).cap = s.cap :=
  s.publish_capStands w rs (by rw [full]; decide)

/-- The completion of a correlation in flight, at the capture that waits for its correlogram (R172 to R174). -/
theorem State.completion_fills (f : InFlight) (s : State) (k : Slot) (p : Port) (hs : s.cap.state = .filling)
    (owner : s.cap.owner = some p) (hc : s.cap.content = some (.correlogram k)) :
    let t := (s.completed (some f) f.window (s.sfe.resultSet f)).publish f.window (s.sfe.resultSet f)
    t.cap.state = .full ∧ Pends t p .captureDone = true
    ∧ (f.pairs.get k = none → t.cap.empty = true ∧ t.cap.count = 0 ∧ t.cap.buffer = []
      ∧ t.cap.header = s.cap.header.map fun h => { h with raw := none, corr := none })
    ∧ ∀ e, f.pairs.get k = some e →
      let shift := captureShift (maxMagnitude (s.sfe.correlogram f e))
      let values := scaleValues shift (s.sfe.correlogram f e)
      t.cap.empty = false ∧ t.cap.count = values.length ∧ t.cap.buffer = values
      ∧ t.cap.header = s.cap.header.map fun h => { h with corr := some (corrHeader (s.sfe.pairResult f e) shift) } := by
  intro t
  have published := State.publish_cap_full f.window (s.sfe.resultSet f)
    (s.completed (some f) f.window (s.sfe.resultSet f))
  have posts := (State.publish_steady f.window (s.sfe.resultSet f)
    (s.completed (some f) f.window (s.sfe.resultSet f))).posts
  cases pair : f.pairs.get k with
  | none =>
    obtain ⟨cap, done⟩ := s.completed_absent (some f) f.window (s.sfe.resultSet f) k hs hc
      fun g hg => by cases hg; exact pair
    have same : t.cap = _ := (published (by rw [cap])).trans cap
    rw [same]
    exact ⟨rfl, posts.grows p _ (done p owner), fun _ => ⟨rfl, rfl, rfl, rfl⟩, fun e he => by cases he⟩
  | some e =>
    obtain ⟨cap, done⟩ := s.completed_present f e f.window (s.sfe.resultSet f) k hs hc pair
    have same : t.cap = _ := (published (by rw [cap])).trans cap
    rw [same]
    refine ⟨rfl, posts.grows p _ (done p owner), fun none => (by cases none), fun e' he => ?_⟩
    cases he
    exact ⟨rfl, rfl, rfl, rfl⟩

/-! ### A ring's failure at a boundary (R12, R171) -/

theorem State.triggerCapture_content (s : State) : s.triggerCapture.cap.content = s.cap.content := by
  unfold State.triggerCapture
  split
  · split
    · rfl
    · rw [State.completeEmpty_cap]
      rfl
  · rfl

theorem State.post_content (k : EventKind) (s : State) : (s.post k).cap.content = s.cap.content := by
  rw [State.post_eq]
  split
  · exact (s.addKind k).triggerCapture_content
  · rfl

theorem State.postHealth_content (before : PerRing RingSense) (s : State) :
    (s.postHealth before).cap.content = s.cap.content := by
  rw [State.postHealth_posts]
  exact foldl_keeps (R := fun s t : State => t.cap.content = s.cap.content) (fun _ => rfl) (fun h g => g.trans h)
    (fun s k => s.post_content k) _ s

theorem State.framed_health (fr : Frame) (s : State) (r : Ring) :
    ((s.framed fr).sfe.rings.get r).health = (s.sfe.rings.get r).health := by
  rw [State.framed_sfe, Sfe.store_ring]
  split <;> rfl

/-- RING_FAILED is posted exactly for a configured ring that fails at the boundary, and by no geometry commit (R12,
R15). -/
theorem State.framed_ringFailed (fr : Frame) (s : State) :
    .ringFailed ∈ gradeKinds (s.framed fr).sfe.rings (s.framed fr).windowClosed.sfe.rings
      ↔ s.pst.geometryPending = false ∧ ∃ r, Configured s r ∧ (s.sfe.rings.get r).health = .suspect
        ∧ ((s.framed fr).boundary.sfe.rings.get r).health = .failed := by
  rw [ringFailed_mem_gradeKinds, ← s.framed_pst fr]
  have closed (r : Ring) := (s.framed fr).windowClosed_ring r
  simp only [State.framed_health]
  cases plain : (s.framed fr).pst.geometryPending with
  | true =>
    refine ⟨fun ⟨r, suspect, failed⟩ => ?_, fun h => absurd h.1 (by decide)⟩
    have same : ((s.framed fr).windowClosed.sfe.rings.get r).health = ((s.framed fr).sfe.rings.get r).health := by
      rw [closed, plain]
      split <;> rfl
    rw [same, State.framed_health, suspect] at failed
    cases failed
  | false =>
    have graded (r : Ring) : (s.framed fr).boundary.sfe.rings.get r = (s.framed fr).windowClosed.sfe.rings.get r := by
      rw [State.boundary_ring, State.boundarySfe_plain _ plain]
    simp only [graded, true_and]
    refine exists_congr fun r => ⟨fun ⟨suspect, failed⟩ => ⟨?_, suspect, failed⟩, fun h => h.2⟩
    rw [configured_iff]
    by_contra off
    rw [closed, State.framed_active, if_neg off, State.framed_health, suspect] at failed
    cases failed

/-- The failure of a ring counts in no boundary that applies a geometry commit, since that leaves every ring HEALTHY
(R15). -/
theorem State.framed_failed_plain (fr : Frame) (s : State) (r : Ring)
    (failed : ((s.framed fr).boundary.sfe.rings.get r).health = .failed) : s.pst.geometryPending = false := by
  rw [← s.framed_pst fr, Bool.eq_false_iff]
  intro geometry
  obtain ⟨_, _, _, _, _, rings⟩ := (s.framed fr).boundary_flushed geometry
  rw [(rings r).1] at failed
  cases failed

/-- A commit that is no geometry commit keeps the number of rings (R143). -/
theorem State.nextProfile_ringCount (s : State) (plain : s.pst.geometryPending = false) :
    s.nextProfile.ringCount = s.pst.active.ringCount := by
  unfold State.nextProfile
  split
  · next pending =>
    rw [Pst.geometryPending, pending, Bool.true_and, Bool.eq_false_iff, ne_eq, isGeometry_iff] at plain
    by_contra changed
    exact plain (.inr (.inr (Ne.symm changed)))
  · rfl

/-- What the grades trigger stands through the middle of a boundary without a geometry commit. -/
theorem State.boundaryCore_keepsTrigger (s : State) (plain : s.pst.geometryPending = false) :
    KeepsTrigger s.closedWindow s.boundaryCore := by
  have start := s.boundaryCore_start
  have front : s.boundaryCore.sfe = s.closedWindow.sfe := by
    rw [start.sfe, State.boundarySfe_plain _ plain, State.closedWindow_sfe]
  have posts := (s.closedWindow.applyPending_applied s.freeCount).posts
  have moved : PostsWithin [] (s.closedWindow.applyPending s.freeCount) s.boundaryCore := by
    obtain ⟨_, _, _, h⟩ := (s.closedWindow.applyPending s.freeCount).moveCorrelator_moved.blocks
    exact .of_ports (by rw [State.boundaryCore, h])
  have store : s.closedWindow.pst.active = s.pst.active := by
    obtain ⟨_, _, h⟩ := s.closedWindow_only
    rw [h]
    rfl
  refine ⟨?_, by rw [front], by rw [front], fun r => by rw [front], ?_, fun p hp => moved.grows p _ (posts.grows p _ hp)⟩
  · rw [start.window, s.closedWindow_only.xcr]
    rfl
  · rw [start.pst, store]
    exact s.nextProfile_ringCount plain

theorem State.boundary_keepsTrigger (s : State) (plain : s.pst.geometryPending = false) :
    KeepsTrigger s.closedWindow s.boundary :=
  (s.boundaryCore_keepsTrigger plain).trans (s.boundary_end.only.keepsTrigger s.boundary_end.steady.posts)

/-- The capture that waits for a ring's failure, once the rings of a boundary are graded. -/
theorem State.closedWindow_ringFailed (fr : Frame) (s : State) (waits : s.cap.waitsFor .ringFailed = true) :
    let kinds := gradeKinds (s.framed fr).sfe.rings (s.framed fr).windowClosed.sfe.rings
    (.ringFailed ∉ kinds → (s.framed fr).closedWindow.cap = s.cap)
    ∧ (.ringFailed ∈ kinds → Triggered s (s.framed fr).closedWindow
      ∧ (s.framed fr).closedWindow.cap.state ≠ .armed
      ∧ (s.framed fr).closedWindow.cap.content = s.cap.content) := by
  intro kinds
  have frame : (s.framed fr).windowClosed.cap = s.cap := (s.framed_fires fr).waits_only waits (by decide)
  have armed : (s.framed fr).windowClosed.cap.waitsFor .ringFailed = true := by rw [frame]; exact waits
  have content := (s.framed fr).windowClosed.postHealth_content (s.framed fr).sfe.rings
  rw [State.closedWindow_eq, content, frame, State.postHealth_posts]
  refine ⟨fun none => ?_, fun some => ?_⟩
  · exact ((foldl_post_fires kinds _).waits_only armed none).trans frame
  · obtain ⟨triggered, fired⟩ := foldl_post_triggered .ringFailed kinds _ armed some
    exact ⟨triggered_of_cap triggered frame, fired, rfl⟩

/-- Settles O57: a completion copies before its publication, which then leaves the FULL unit; a publication and the
grades of a boundary trigger the capture ARMED on one of their kinds, and what comes after a trigger leaves it, but for
the completion without pairs that a correlogram waited for. -/
theorem captureAtCompletion : Obligations.CaptureAtCompletion := by
  unfold Obligations.CaptureAtCompletion
  refine ⟨fun f s h => ⟨_, exec_correlationCompletion f s h, fun k p filling owner content => ?_, fun armed => ?_,
    fun armed => ?_⟩, fun fr s closes armed => ⟨_, exec_replyDeadline_boundary fr s closes, fun none => ?_,
    fun failing => ⟨fun other => ?_, fun empty k content => ?_⟩⟩⟩
  · obtain ⟨full, done, absent, present⟩ := s.completion_fills f k p filling owner content
    refine ⟨full, done, absent, fun e pair ordered hn => ?_⟩
    obtain ⟨nonempty, count, buffer, header⟩ := present e pair
    obtain ⟨bound, length, values, least, fits⟩ := s.sfe.scaled_correlogram f e ordered hn
    refine ⟨captureShift (maxMagnitude (s.sfe.correlogram f e)), bound, nonempty, count.trans length,
      (congrArg List.length buffer).trans length, fun i hi => by rw [buffer]; exact values i hi, least, fits,
      fun h x hh result => ?_⟩
    rw [State.publish_xcr, State.completed_xcr, Sfe.resultSet, PerSlot.get_map, pair] at result
    cases result
    rw [header, hh]
    rfl
  · have waits := (armedOn_iff _ _).1 armed
    have same := s.completed_cap_other (some f) f.window (s.sfe.resultSet f)
      fun filling => absurd (filling.symm.trans armed.1) (by decide)
    have guard : (s.completed (some f) f.window (s.sfe.resultSet f)).dgd = s.dgd := by rw [State.completed_eq]
    have published := State.publish_guardTripped f.window (s.sfe.resultSet f)
      (s.completed (some f) f.window (s.sfe.resultSet f)) (by rw [same]; exact waits)
    rw [guard, same] at published
    exact ⟨fun trips => triggered_of_cap (published.1 trips) same, published.2⟩
  · have waits := (armedOn_iff _ _).1 armed
    have same := s.completed_cap_other (some f) f.window (s.sfe.resultSet f)
      fun filling => absurd (filling.symm.trans armed.1) (by decide)
    have published := State.publish_velocityLost_cap f.window (s.sfe.resultSet f)
      (s.completed (some f) f.window (s.sfe.resultSet f)) (by rw [same]; exact waits)
    rw [State.completed_fsv, same] at published
    exact ⟨fun lost => triggered_of_cap (published.1 lost) same, published.2⟩
  · have waits := (armedOn_iff _ _).1 armed
    have graded := (s.closedWindow_ringFailed fr waits).1 fun posted => by
      obtain ⟨_, r, on, suspect, failed⟩ := (s.framed_ringFailed fr).1 posted
      exact none r on suspect failed
    have rest := (s.framed fr).boundary_fires.waits_only (k := .ringFailed) (by rw [graded]; exact waits) (by decide)
    rw [rest, graded]
  · obtain ⟨r, on, suspect, failed⟩ := failing
    have plain := s.framed_failed_plain fr r failed
    have plain' : (s.framed fr).pst.geometryPending = false := by rwa [State.framed_pst]
    obtain ⟨triggered, fired, same⟩ := (s.closedWindow_ringFailed fr ((armedOn_iff _ _).1 armed)).2
      ((s.framed_ringFailed fr).2 ⟨plain, r, on, suspect, failed⟩)
    have core := (s.framed fr).boundaryCore_cap plain'
    have stands := (s.framed fr).boundary_capStands fun completes _ k => by
      rw [core, same]
      rcases other with incomplete | uncorrelated
      · exact absurd (s.framed_completes fr completes).2 incomplete
      · exact uncorrelated k
    refine later_triggered triggered ((s.framed fr).boundary_keepsTrigger plain') ?_
    rw [stands (by rw [core]; exact fired), core]
  · obtain ⟨r, on, suspect, failed⟩ := failing
    have plain := s.framed_failed_plain fr r failed
    have plain' : (s.framed fr).pst.geometryPending = false := by rwa [State.framed_pst]
    obtain ⟨triggered, _, _⟩ := (s.closedWindow_ringFailed fr ((armedOn_iff _ _).1 armed)).2
      ((s.framed_ringFailed fr).2 ⟨plain, r, on, suspect, failed⟩)
    have waiting := triggered.1 k content
    have core := (s.framed fr).boundaryCore_cap plain'
    have kept := (s.framed fr).boundary_keepsTrigger plain'
    have completed := (s.framed fr).boundary_absent k (s.framed_completes_of fr plain empty)
      (by rw [core, waiting]) (by rw [core, waiting]; exact content)
    rw [core, waiting] at completed
    rw [kept.window, kept.last]
    exact completed

end Sys2Proof.Machine
end

section
/-!
PROOFS. CorrelatorAtBoundary, its first half: the pair table and the correlation that a boundary leaves (R23, R26 to
R34), and the counters that tell of them.
-/

namespace Sys2Proof.Machine

open Sys2Proof.Claim

/-! ### The table and the unformable pairs (R23, R26) -/

theorem Profile.unformable_eq (p : Profile) (up down : Ring) :
    (!p.formable (spacing p up down))
      = decide (gapsBetween p up down * p.fs / p.vMax < 1 ∨ 2048 - 2 * p.n ≤ gapsBetween p up down * p.fs / p.vMax) := by
  rw [spacing_eq_gapsBetween, Profile.formable, Profile.lmin, Profile.lagLimit, Bool.not_and, Bool.decide_or,
    ← decide_not, ← decide_not]
  simp only [Config.historyDepth, not_le, not_lt]

/-- The unformable candidates of a chain are its unformable neighbours (R26). -/
theorem unformableCount_eq (p : Profile) (chain : List Ring) (short : chain.length ≤ 4) :
    unformableCount p chain = unformableIn p chain := by
  have spaced (k : Slot) (up down : Ring) : (candidate p k up down).spacing = spacing p up down := rfl
  have neighbours : unformableIn p chain
      = (chain.zip chain.tail).countP fun x => !p.formable (spacing p x.1 x.2) := by
    simp only [Profile.unformable_eq]
    rfl
  rw [neighbours]
  match chain, short with
  | [], _ => rfl
  | [_], _ => rfl
  | [_, _], _ => simp [unformableCount, candidateAt, Slot.num, spaced]
  | [_, _, _], _ => simp [unformableCount, candidateAt, Slot.num, spaced, List.countP_cons]
  | [_, _, _, _], _ => simp [unformableCount, candidateAt, Slot.num, spaced, List.countP_cons]

theorem State.chain_length (s : State) : s.chain.length ≤ 4 := List.length_filter_le _ Ring.all

/-! ### The correlator's part of a boundary (R29, R33, R34) -/

/-- A boundary before its correlator's part: the window closed and what is pending applied. -/
def State.beforeCorrelator (s : State) : State := s.closedWindow.applyPending s.freeCount

theorem State.boundaryCore_eq (s : State) : s.boundaryCore = s.beforeCorrelator.moveCorrelator := rfl

/-- The begun correlation of a boundary that skips past none (R29, R33). -/
theorem State.moveCorrelator_begins (s : State) (h : ∀ f, s.xcr.state ≠ .running f) :
    s.moveCorrelator.xcr.state
      = if s.sfe.ready && !tableEmpty s.moveCorrelator.xcr.table then
          .running ⟨s.xcr.windowNumber, s.sfe.lastIndex, s.moveCorrelator.xcr.table, s.active.n, s.active.fs,
            s.active.qMin⟩
        else .idle := by
  rw [State.moveCorrelator_table]
  have begun (u : State) : u.beginCorrelation.xcr.state
      = if u.sfe.ready && !tableEmpty u.xcr.table then .running u.newInFlight else .idle := by
    unfold State.beginCorrelation
    split <;> rfl
  unfold State.moveCorrelator
  rcases s.rebuildTable.correlatorBoundary_cases with ⟨_, eq⟩ | ⟨f, running, _⟩ | ⟨_, _, eq⟩
  · rw [eq, begun]
    rfl
  · exact absurd running (h f)
  · rw [eq, begun]
    rfl

/-- What the correlator's part of a boundary counts (R26, R33, R34). -/
structure CorrelatorCounted (s t : State) : Prop where
  unformable : t.efu.stats.unformable = satAdd s.efu.stats.unformable (unformableCount s.active s.chain)
  skipped : ∀ f, s.xcr.state = .running f → t.efu.stats.skipped = satAdd s.efu.stats.skipped 1
  discarded : ∀ f, s.xcr.state = .late f → t.efu.stats.discardedLate = satAdd s.efu.stats.discardedLate 1
  records : SameRecordCounts s.efu.stats t.efu.stats

theorem State.moveCorrelator_counted (s : State) : CorrelatorCounted s s.moveCorrelator := by
  have begun (u : State) : u.beginCorrelation.efu = u.efu := by
    unfold State.beginCorrelation
    split <;> rfl
  have state : s.rebuildTable.xcr.state = s.xcr.state := rfl
  unfold State.moveCorrelator
  rcases s.rebuildTable.correlatorBoundary_cases with ⟨hs, eq⟩ | ⟨f, hs, eq⟩ | ⟨f, hs, eq⟩ <;> rw [state] at hs <;>
    constructor <;> simp only [eq, begun, hs]
  case inl.unformable | inr.inl.unformable | inr.inr.unformable => rfl
  case inl.records | inr.inl.records | inr.inr.records => exact .refl _
  case inr.inl.skipped => exact fun _ _ => rfl
  case inr.inr.discarded => exact fun _ _ => rfl
  all_goals exact fun _ h => by cases h

/-- The blocks that the correlator's part of a boundary reads. -/
structure CorrelatorReads (s a : State) : Prop where
  front : a.sfe = s.boundarySfe
  active : a.active = s.nextProfile
  window : a.xcr.windowNumber = s.xcr.windowNumber + 1
  state : s.pst.geometryPending = false → a.xcr.state = s.xcr.state
  stats : a.efu.stats = s.windowClosed.efu.stats

theorem State.beforeCorrelator_reads (s : State) : CorrelatorReads s s.beforeCorrelator := by
  have applied := s.closedWindow.applyPending_applied s.freeCount
  have start := s.boundaryCore_start
  obtain ⟨table, state, counts, moved⟩ := s.beforeCorrelator.moveCorrelator_moved.blocks
  rw [← State.boundaryCore_eq] at moved
  obtain ⟨ports, cap, closed⟩ := s.closedWindow_only
  refine ⟨?_, ?_, ?_, fun plain => ?_, ?_⟩
  · rw [← start.sfe, moved]
  · have store := congrArg Pst.active start.pst
    rw [moved] at store
    exact store
  · have window := start.window
    rw [moved] at window
    exact window
  · have store : s.closedWindow.pst = s.pst := by rw [closed]; rfl
    show (s.closedWindow.applyPending s.freeCount).xcr.state = _
    rw [applied.xcr, store, plain, if_neg Bool.false_ne_true, closed]
    rfl
  · exact applied.stats.trans (by rw [closed])

/-- The correlator's part of a boundary changes none of what the table rests on. -/
theorem State.boundaryCore_chain (s : State) :
    s.boundaryCore.active = s.beforeCorrelator.active ∧ s.boundaryCore.chain = s.beforeCorrelator.chain := by
  obtain ⟨_, _, _, moved⟩ := s.beforeCorrelator.moveCorrelator_moved.blocks
  rw [State.boundaryCore_eq, moved]
  exact ⟨rfl, rfl⟩

/-- The chain and the profile that a boundary leaves are those of its table. -/
theorem State.boundary_chain (s : State) :
    s.boundary.active = s.boundaryCore.active ∧ Ring.all.filter (live s.boundary) = s.boundaryCore.chain := by
  obtain ⟨_, _, front, store, _⟩ := s.boundary_end.only
  have active : s.boundary.active = s.boundaryCore.active := by rw [State.active, store]; rfl
  refine ⟨active, ?_⟩
  have same : live s.boundary = s.boundaryCore.isLive := funext fun r => by
    rw [← isLive_eq_live, State.isLive, active, State.health, front]
    rfl
  rw [same]
  rfl

/-- The pair table of a boundary, and the unformable pairs that it counts (R23, R26, R27). -/
theorem State.boundary_table (s : State) :
    let chain := Ring.all.filter (live s.boundary)
    s.boundary.xcr.table = buildTable s.boundary.pst.active chain
    ∧ s.boundary.efu.stats.unformable = plus s.efu.stats.unformable (unformableIn s.boundary.pst.active chain) := by
  intro chain
  obtain ⟨active, live⟩ := s.boundary_chain
  obtain ⟨profile, same⟩ := s.boundaryCore_chain
  obtain ⟨table, _⟩ := s.boundary_end.only
  obtain ⟨_, _, _, unformable, _⟩ := s.boundary_end.steady.counts
  have counted := s.beforeCorrelator.moveCorrelator_counted.unformable
  rw [s.beforeCorrelator_reads.stats, ← State.boundaryCore_eq] at counted
  have rebuilt : s.boundaryCore.xcr.table = buildTable s.beforeCorrelator.active s.beforeCorrelator.chain :=
    s.beforeCorrelator.moveCorrelator_table
  rw [show s.boundary.pst.active = s.beforeCorrelator.active from active.trans profile,
    show chain = s.beforeCorrelator.chain from live.trans same, table, unformable, rebuilt, counted,
    plus_eq_satAdd, unformableCount_eq _ _ s.beforeCorrelator.chain_length]
  exact ⟨rfl, rfl⟩

/-! ### The counters over a frame and its boundary -/

/-- The work up to a publication counts no completion and no record (R45, R73). -/
theorem State.framed_core_records (fr : Frame) (s : State) :
    SameRecordCounts s.efu.stats (s.framed fr).boundaryCore.efu.stats := by
  have counted := (s.framed fr).beforeCorrelator.moveCorrelator_counted.records
  rw [(s.framed fr).beforeCorrelator_reads.stats] at counted
  exact ((s.framed_records fr).trans (d := (s.framed fr).windowClosed.efu.stats) (.refl _)).trans counted

/-- The counters of the correlator that a frame leaves (R164). -/
theorem State.framed_correlator_counts (fr : Frame) (s : State) :
    (s.framed fr).efu.stats.skipped = s.efu.stats.skipped
    ∧ (s.framed fr).efu.stats.discardedLate = s.efu.stats.discardedLate
    ∧ (s.framed fr).efu.stats.unformable = s.efu.stats.unformable := by
  obtain ⟨_, skipped, discarded, unformable, _⟩ := (s.storeFrame fr).trackFrame_work.counts
  exact ⟨skipped, discarded, unformable⟩

/-- The correlator's counters over a frame and its boundary (R33, R34). -/
theorem State.framed_boundary_late_counts (fr : Frame) (s : State) (plain : s.pst.geometryPending = false) (f : InFlight) :
    (s.xcr.state = .running f → (s.framed fr).boundary.efu.stats.skipped = plus s.efu.stats.skipped 1)
    ∧ (s.xcr.state = .late f →
      (s.framed fr).boundary.efu.stats.discardedLate = plus s.efu.stats.discardedLate 1) := by
  have reads := (s.framed fr).beforeCorrelator_reads
  have counted := (s.framed fr).beforeCorrelator.moveCorrelator_counted
  have state := reads.state (by rw [State.framed_pst]; exact plain)
  obtain ⟨_, skipped, discarded, _⟩ := (s.framed fr).boundary_end.steady.counts
  obtain ⟨before, behind, _⟩ := s.framed_correlator_counts fr
  rw [State.framed_xcr] at state
  rw [skipped, discarded, plus_eq_satAdd, plus_eq_satAdd, ← before, ← behind]
  refine ⟨fun hf => ?_, fun hf => ?_⟩
  · refine (counted.skipped f (state.trans hf)).trans ?_
    rw [reads.stats]
    rfl
  · refine (counted.discarded f (state.trans hf)).trans ?_
    rw [reads.stats]
    rfl

/-- CORRELATION_LATE is recorded at a boundary that finds a correlation begun and applies no geometry commit (R33,
R34). -/
theorem State.framed_boundary_noted (fr : Frame) (s : State) (plain : s.pst.geometryPending = false)
    (begun : s.xcr.state ≠ .idle) : Noted false lateKey s (s.framed fr).boundary := by
  have listed : (lateKey, none) ∈ (s.framed fr).notesAtBoundary := by
    have late : ((s.framed fr).xcr.state != .idle && !(s.framed fr).pst.geometryPending) = true := by
      rw [State.framed_xcr, State.framed_pst, plain]
      simpa using begun
    rw [State.notesAtBoundary, late]
    exact List.mem_append_right _ (List.mem_singleton_self _)
  have taken := (s.framed fr).boundary_end.takes _ listed
  rw [State.framed_core_window] at taken
  exact TakesRecording.noted (taken.after (s.framed_core_keeps fr lateKey))

/-! ### The profile and the solver that a boundary applies (R85, R89, R142) -/

theorem storeApplied_active (s : State) : (storeApplied s).active = s.nextProfile := by
  unfold storeApplied State.nextProfile
  split <;> rfl

theorem State.framed_nextProfile (fr : Frame) (s : State) : (s.framed fr).nextProfile = s.nextProfile := by
  rw [State.nextProfile, State.framed_pst]
  rfl

theorem State.framed_boundary_active (fr : Frame) (s : State) : (s.framed fr).boundary.pst.active = s.nextProfile := by
  rw [State.boundary_active, State.framed_nextProfile]

/-- A commit that is no geometry commit keeps the frame rate, N and the number of rings (R143). -/
theorem State.nextProfile_geometry (s : State) (plain : s.pst.geometryPending = false) :
    isGeometry s.pst.active s.nextProfile = false := by
  unfold State.nextProfile
  split
  · next pending => rwa [Pst.geometryPending, pending, Bool.true_and] at plain
  · exact isGeometry_self _

theorem solverApplied_eq (s : State) (new : Profile) (w : Index) (degraded : Bool) (g : GuardState)
    (plain : isGeometry s.pst.active new = false) :
    s.fsv.applyCommit s.pst.active new w degraded g = solverApplied new s := by
  simp only [Fsv.applyCommit, solverApplied, plain, Bool.false_eq_true, if_false, pipeArea, roundDiv_eq_round]
  split_ifs <;> rfl

theorem State.framed_core_fsv (fr : Frame) (s : State) (plain : s.pst.geometryPending = false) :
    (s.framed fr).boundaryCore.fsv = solverApplied s.nextProfile s := by
  rw [(s.framed fr).boundaryCore_start.fsv, State.framed_pst, State.framed_nextProfile]
  have solver : (s.framed fr).fsv = s.fsv := by rw [State.framed_eq]
  rw [solver]
  exact solverApplied_eq s _ _ _ _ (s.nextProfile_geometry plain)

/-! ### A boundary that gives no completion -/

/-- What such a boundary leaves of the correlator, the solver and the count of completions. -/
theorem State.framed_incomplete (fr : Frame) (s : State) (plain : s.pst.geometryPending = false)
    (none : (s.framed fr).boundaryCore.completesWithoutPairs = false) :
    let t := (s.framed fr).boundary
    t.xcr = (s.framed fr).boundaryCore.xcr ∧ t.xcr.results = s.xcr.results
    ∧ t.efu.stats.completed = s.efu.stats.completed ∧ t.fsv = solverApplied t.pst.active s := by
  intro t
  have kept := (s.framed fr).boundary_plain none
  have counted : t.efu.stats.completed = (s.framed fr).boundaryCore.efu.stats.completed := by
    rcases (s.framed fr).boundary_cases with ⟨_, eq⟩ | ⟨completes, _⟩
    · rw [show t = _ from eq]
      exact (State.finishBoundary_aside _ _ _ _ _ (s.framed fr).notesAtBoundary_distinct).records.1
    · exact absurd (none.symm.trans completes) (by decide)
  refine ⟨kept.xcr, ?_, counted.trans (s.framed_core_records fr).1, ?_⟩
  · rw [kept.xcr, (s.framed fr).boundaryCore_start.results, State.framed_xcr]
  · rw [kept.fsv, s.framed_core_fsv fr plain, State.framed_boundary_active]

/-- The history is ready at a boundary in the words of the statements (R10). -/
theorem State.framed_core_ready (fr : Frame) (s : State) (plain : s.pst.geometryPending = false) :
    (s.framed fr).beforeCorrelator.sfe.ready = true ↔ ReadyAt s := by
  rw [(s.framed fr).beforeCorrelator_reads.front, State.boundarySfe_plain _ (by rwa [State.framed_pst]),
    State.windowClosed_ready, Bool.or_eq_true, decide_eq_true_eq, State.framed_sfe, State.framed_active]
  rfl

theorem State.framed_lastIndex (fr : Frame) (s : State) (plain : s.pst.geometryPending = false) :
    (s.framed fr).beforeCorrelator.sfe.lastIndex = fr.index := by
  have settled (f : Sfe) : f.settleClock.lastIndex = f.lastIndex := by
    unfold Sfe.settleClock
    split <;> rfl
  rw [(s.framed fr).beforeCorrelator_reads.front, State.boundarySfe_plain _ (by rwa [State.framed_pst])]
  refine (settled _).trans ?_
  show (s.framed fr).sfe.lastIndex = _
  rw [State.framed_sfe]
  rfl

/-- The correlation that a boundary leaves where it skips past none (R29, R31). -/
theorem State.framed_core_state (fr : Frame) (s : State) (plain : s.pst.geometryPending = false)
    (idle : ∀ f, s.xcr.state ≠ .running f) :
    let core := (s.framed fr).boundaryCore
    (ReadyAt s → (∃ k, core.xcr.table.get k ≠ none) → core.xcr.state = .running ⟨s.xcr.windowNumber + 1, fr.index,
      core.xcr.table, s.nextProfile.n, s.nextProfile.fs, s.nextProfile.qMin⟩)
    ∧ (¬ ReadyAt s → core.xcr.state = .idle) := by
  intro core
  have reads := (s.framed fr).beforeCorrelator_reads
  have state := reads.state (by rwa [State.framed_pst])
  have begins := (s.framed fr).beforeCorrelator.moveCorrelator_begins fun f => by
    rw [state, State.framed_xcr]
    exact idle f
  rw [reads.window, State.framed_xcr, s.framed_lastIndex fr plain, reads.active, State.framed_nextProfile] at begins
  have ready := s.framed_core_ready fr plain
  refine ⟨fun hr pair => begins.trans (if_pos ?_), fun hr => begins.trans (if_neg ?_)⟩
  · obtain ⟨k, hk⟩ := pair
    have some : tableEmpty core.xcr.table = false :=
      Bool.eq_false_iff.2 fun empty => hk ((tableEmpty_iff _).1 empty k)
    rw [ready.2 hr, Bool.true_and]
    exact congrArg not some
  · rw [Bool.and_eq_true]
    exact fun h => hr (ready.1 h.1)

/-! ### The publication at a boundary -/

/-- The state of a boundary when the publication of its completion without pairs begins (assumption 9). -/
def State.publishing (s : State) : State := s.boundaryCore.earlyNoted s.freeCount s.active s.notesAtBoundary

/-- The blocks that a boundary's work beside a publication may change (R62, R120, R160). -/
def OnlyAside (s t : State) : Prop :=
  ∃ (k : Stk) (x : Tot) (v : Nv) (e : Efu) (c : Cap),
    t = { s with stk := k, tot := x, pst := { s.pst with nv := v }, efu := e, cap := c }

theorem OnlyAside.refl (s : State) : OnlyAside s s := ⟨s.stk, s.tot, s.pst.nv, s.efu, s.cap, rfl⟩

theorem OnlyAside.trans {s t u : State} (h : OnlyAside s t) (g : OnlyAside t u) : OnlyAside s u := by
  obtain ⟨_, _, _, _, _, rfl⟩ := h
  obtain ⟨k, x, v, e, c, rfl⟩ := g
  exact ⟨k, x, v, e, c, rfl⟩

theorem State.trackerWork_onlyAside (old : Profile) (geometry : Bool) (s : State) :
    OnlyAside s (s.trackerWork old geometry) := by
  obtain ⟨k, e, c, h⟩ := s.trackerWork_onlyTracks old geometry
  exact ⟨k, s.tot, s.pst.nv, e, c, h⟩

theorem State.takeNotes_onlyAside (n : Nat) (l : List Note) (s : State) : OnlyAside s (s.takeNotes n l) := by
  obtain ⟨e, c, h⟩ := s.takeNotes_onlyReports n l
  exact ⟨s.stk, s.tot, s.pst.nv, e, c, h⟩

theorem State.applyClearIfPending_onlyAside (s : State) : OnlyAside s s.applyClearIfPending := by
  unfold State.applyClearIfPending
  split
  · obtain ⟨_, h⟩ := s.applyClear_blocks
    exact ⟨_, _, _, _, _, h⟩
  · exact .refl s

theorem State.beforePublication_onlyAside (n : Nat) (old : Profile) (s : State) :
    OnlyAside s (s.beforePublication n old) := by
  have tracked : OnlyAside s
      (if Config.takenFirst .trackerBeforePublication n then s.trackerWork old false else s) := by
    split
    · exact s.trackerWork_onlyAside old false
    · exact .refl s
  unfold State.beforePublication
  simp only
  split
  · exact tracked.trans (State.applyClearIfPending_onlyAside _)
  · exact tracked

theorem State.publishing_onlyAside (s : State) : OnlyAside s.boundaryCore s.publishing :=
  (s.boundaryCore.beforePublication_onlyAside s.freeCount s.active).trans (State.takeNotes_onlyAside _ _ _)

theorem State.publicationOn_onlyAside (n : Nat) (old : Profile) (s : State) :
    OnlyAside s.completeWithoutPairs (s.publicationOn n old) := by
  unfold State.publicationOn
  refine OnlyAside.trans ?_ (State.applyClearIfPending_onlyAside _)
  split
  · exact .refl _
  · exact State.trackerWork_onlyAside _ _ _

/-- A boundary that gives a completion is its publication and work beside it. -/
theorem State.boundary_publishes (s : State) (completes : s.boundaryCore.completesWithoutPairs = true) :
    OnlyAside s.publishing.completeWithoutPairs s.boundary ∧ Aside s.boundaryCore s.publishing
    ∧ Aside s.publishing.completeWithoutPairs s.boundary := by
  rcases s.boundary_cases with ⟨none, _⟩ | ⟨_, eq⟩
  · exact absurd (none.symm.trans completes) (by decide)
  · rw [eq]
    refine ⟨?_, State.earlyNoted_aside _ _ _ _ s.notesAtBoundary_distinct,
      State.finishWithCompletion_aside _ _ _ _ s.notesAtBoundary_distinct⟩
    rw [State.finishWithCompletion_eq]
    exact (State.publicationOn_onlyAside _ _ _).trans (State.takeNotes_onlyAside _ _ _)

/-- A completion without pairs, block by block: its result set is empty, and its record is of the standing window (R31,
R73). -/
theorem State.completeWithoutPairs_xcr (s : State) : s.completeWithoutPairs.xcr
    = { s.xcr with state := .idle, results := PerSlot.fill none, resultWindow := s.xcr.windowNumber } :=
  s.complete_xcr _ _ _

theorem State.completeWithoutPairs_record (s : State) :
    s.completeWithoutPairs.fsv.record.vc = none
    ∧ s.completeWithoutPairs.fsv.record.window = s.xcr.windowNumber := by
  have published : s.completeWithoutPairs.fsv.record
      = (s.completed none s.xcr.windowNumber (PerSlot.fill none)).publishedRecord s.xcr.windowNumber (PerSlot.fill none) :=
    congrArg Fsv.record (State.publish_fsv _ _ _)
  rw [published]
  exact ⟨rfl, rfl⟩

theorem State.completeWithoutPairs_stats (s : State) :
    s.completeWithoutPairs.efu.stats.completed = satAdd s.efu.stats.completed 1
    ∧ CountsRecord s.completeWithoutPairs.fsv.record.status s.efu.stats s.completeWithoutPairs.efu.stats := by
  have published : s.completeWithoutPairs.fsv.record
      = (s.completed none s.xcr.windowNumber (PerSlot.fill none)).publishedRecord s.xcr.windowNumber (PerSlot.fill none) :=
    congrArg Fsv.record (State.publish_fsv _ _ _)
  have stats : s.completeWithoutPairs.efu.stats = _ := State.publish_stats s.xcr.windowNumber (PerSlot.fill none)
    (s.completed none s.xcr.windowNumber (PerSlot.fill none))
  rw [State.completed_stats] at stats
  rw [stats, published]
  refine ⟨?_, Stats.countCompletion_countsRecord (Stats.countRecord_countsRecord _ _)⟩
  rw [Stats.countRecord_completed]
  rfl

end Sys2Proof.Machine
end

section
/-!
PROOFS. CorrelatorAtBoundary, its second half: the publication of a completion without pairs at a boundary, and the
tracker's work and a pending clear beside it (R31, R73, R120).
-/

namespace Sys2Proof.Machine

open Sys2Proof.Claim

/-! ### A pending clear (R120) -/

/-- The store once a clear that is pending in the totals `t` has been applied: a checkpoint of zeros is queued. -/
def Pst.settled (t : Tot) (x : Pst) : Pst :=
  if t.clearPending then { x with nv := x.nv.queue (.totals (checkpointOf 0 0 0 0 t.rate)) } else x

theorem Tot.settled_clear (t : Tot) (h : t.clearPending = true) : t.settled = ⟨0, 0, 0, 0, t.rate, 0, false⟩ := by
  rw [Tot.settled, if_pos h]
  rfl

theorem Tot.settled_same (t : Tot) (h : t.clearPending = false) : t.settled = t := by
  rw [Tot.settled, if_neg (by simp [h])]

theorem Pst.settled_clear (t : Tot) (x : Pst) (h : t.clearPending = true) :
    x.settled t = { x with nv := x.nv.queue (.totals (checkpointOf 0 0 0 0 t.rate)) } := if_pos h

theorem Pst.settled_same (t : Tot) (x : Pst) (h : t.clearPending = false) : x.settled t = x := if_neg (by simp [h])

theorem State.applyClearIfPending_settled (s : State) :
    s.applyClearIfPending.tot = s.tot.settled ∧ s.applyClearIfPending.pst = s.pst.settled s.tot := by
  refine ⟨s.applyClearIfPending_blocks.1, ?_⟩
  unfold State.applyClearIfPending Pst.settled
  split
  · obtain ⟨_, h⟩ := s.applyClear_blocks
    rw [h, Tot.snapshot_eq]
    rfl
  · rfl

theorem State.applyClearIfPending_pends (s : State) (h : s.tot.clearPending = true) (p : Port) :
    Pends s.applyClearIfPending p .totalsCleared = true := by
  rw [State.applyClearIfPending, if_pos h]
  exact s.applyClear_pends p

/-! ### The totals and the store before the publication (R120, R142) -/

/-- Whether a boundary applies a pending clear before the commit that waits (assumption 9). -/
def State.clearsFirst (s : State) : Bool :=
  s.pst.commitPending && (s.tot.clearPending && Config.takenFirst .clearBeforeCommit s.freeCount)

/-- A commit that is no geometry commit, in the totals and the store (R114, R142). -/
theorem State.applyCommit_store (s : State) (same : s.pst.active.fs = s.pst.staging.fs) :
    s.applyCommit.tot = s.tot ∧ s.applyCommit.pst = s.pst.apply := by
  obtain ⟨_, _, h⟩ := s.applyCommit_only
  rw [h]
  exact ⟨if_pos same, rfl⟩

theorem storeApplied_of_pending (s : State) (h : s.pst.commitPending = true) : storeApplied s = s.pst.apply := by
  rw [storeApplied, if_pos h, Pst.apply, imageOf_eq]

theorem storeApplied_of_none (s : State) (h : s.pst.commitPending = false) : storeApplied s = s.pst :=
  if_neg (by simp [h])

theorem State.closedWindow_store (s : State) : s.closedWindow.pst = s.pst ∧ s.closedWindow.tot = s.tot := by
  obtain ⟨_, _, closed⟩ := s.closedWindow_only
  rw [closed]
  exact ⟨rfl, rfl⟩

/-- The correlator's part of a boundary leaves the totals, the store and the events. -/
theorem State.boundaryCore_same (s : State) : s.boundaryCore.tot = s.beforeCorrelator.tot
    ∧ s.boundaryCore.pst = s.beforeCorrelator.pst
    ∧ ∀ p k, Pends s.boundaryCore p k = Pends s.beforeCorrelator p k := by
  obtain ⟨_, _, _, moved⟩ := s.beforeCorrelator.moveCorrelator_moved.blocks
  rw [State.boundaryCore_eq, moved]
  exact ⟨rfl, rfl, fun _ _ => rfl⟩

theorem State.pending_fs (s : State) (plain : s.pst.geometryPending = false) (pending : s.pst.commitPending = true) :
    s.pst.active.fs = s.pst.staging.fs := by
  rw [Pst.geometryPending, pending, Bool.true_and, Bool.eq_false_iff, ne_eq, isGeometry_iff] at plain
  by_contra changed
  exact plain (.inl changed)

theorem State.clearsFirst_pending (s : State) (h : s.clearsFirst = true) :
    s.pst.commitPending = true ∧ s.tot.clearPending = true := by
  obtain ⟨commit, clear⟩ := Bool.and_eq_true_iff.1 h
  exact ⟨commit, (Bool.and_eq_true_iff.1 clear).1⟩

/-- A boundary that does not clear before its commit leaves the totals and applies the commit to the store alone. -/
theorem State.boundaryCore_uncleared (s : State) (plain : s.pst.geometryPending = false)
    (h : s.clearsFirst = false) : s.boundaryCore.tot = s.tot ∧ s.boundaryCore.pst = storeApplied s := by
  obtain ⟨store, totals⟩ := s.closedWindow_store
  obtain ⟨tot, pst, _⟩ := s.boundaryCore_same
  rw [tot, pst]
  unfold State.beforeCorrelator State.applyPending
  rw [store, totals]
  cases commit : s.pst.commitPending with
  | false =>
    rw [if_neg Bool.false_ne_true, store, totals, storeApplied_of_none s commit]
    exact ⟨rfl, rfl⟩
  | true =>
    rw [State.clearsFirst, commit, Bool.true_and] at h
    obtain ⟨commitTot, commitPst⟩ := s.closedWindow.applyCommit_store (by rw [store]; exact s.pending_fs plain commit)
    rw [if_pos rfl, h, if_neg Bool.false_ne_true, commitTot, commitPst, store, totals, storeApplied_of_pending s commit]
    exact ⟨rfl, rfl⟩

/-- A boundary that clears before its commit queues a checkpoint of zeros, and then the profile. -/
theorem State.boundaryCore_cleared (s : State) (plain : s.pst.geometryPending = false) (h : s.clearsFirst = true) :
    s.boundaryCore.tot = s.tot.settled
    ∧ s.boundaryCore.pst = { storeApplied s with nv := s.boundaryCore.pst.nv }
    ∧ s.boundaryCore.pst.nv = (s.pst.nv.queue (.totals (checkpointOf 0 0 0 0 s.tot.rate))).queue
        (.profile (imageOf s.nextProfile))
    ∧ ∀ p, Pends s.boundaryCore p .totalsCleared = true := by
  obtain ⟨store, totals⟩ := s.closedWindow_store
  obtain ⟨tot, pst, posts⟩ := s.boundaryCore_same
  obtain ⟨commit, clear⟩ := s.clearsFirst_pending h
  obtain ⟨_, cleared⟩ := s.closedWindow.applyClear_blocks
  have wiped : s.closedWindow.applyClear.tot = s.tot.settled := by
    rw [cleared, totals, Tot.settled_clear _ clear]
    rfl
  have queued : s.closedWindow.applyClear.pst
      = { s.pst with nv := s.pst.nv.queue (.totals (checkpointOf 0 0 0 0 s.tot.rate)) } := by
    rw [cleared, store, totals, Tot.snapshot_eq]
    rfl
  have applied : s.beforeCorrelator = s.closedWindow.applyClear.applyCommit := by
    rw [State.clearsFirst, commit, Bool.true_and] at h
    rw [State.beforeCorrelator, State.applyPending, store, totals, commit, if_pos rfl, h, if_pos rfl]
  obtain ⟨commitTot, commitPst⟩ := s.closedWindow.applyClear.applyCommit_store
    (by rw [queued]; exact s.pending_fs plain commit)
  rw [tot, pst, applied, commitTot, commitPst, wiped, queued, storeApplied_of_pending s commit, State.nextProfile,
    if_pos commit, ← imageOf_eq]
  refine ⟨rfl, rfl, rfl, fun p => ?_⟩
  rw [posts, applied]
  exact (State.applyCommit_within _).grows p _ (s.closedWindow.applyClear_pends p)

/-! ### The totals and the store around the publication (R120, assumption 9) -/

/-- Whether a boundary applies a pending clear before its publication (assumption 9). -/
def State.clearsBefore (s : State) : Bool := Config.takenFirst .clearBeforePublication s.freeCount

theorem State.beforePublication_store (s : State) :
    let t := s.boundaryCore.beforePublication s.freeCount s.active
    t.tot = (if s.clearsBefore then s.boundaryCore.tot.settled else s.boundaryCore.tot)
    ∧ t.pst = (if s.clearsBefore then s.boundaryCore.pst.settled s.boundaryCore.tot else s.boundaryCore.pst)
    ∧ (s.clearsBefore = true → s.boundaryCore.tot.clearPending = true → ∀ p, Pends t p .totalsCleared = true) := by
  intro t
  have unfolded : t = if s.clearsBefore then
      State.applyClearIfPending (if Config.takenFirst .trackerBeforePublication s.freeCount then
        s.boundaryCore.trackerWork s.active false else s.boundaryCore)
    else if Config.takenFirst .trackerBeforePublication s.freeCount then
        s.boundaryCore.trackerWork s.active false else s.boundaryCore := rfl
  have tracked : (if Config.takenFirst .trackerBeforePublication s.freeCount then
        s.boundaryCore.trackerWork s.active false else s.boundaryCore).tot = s.boundaryCore.tot
      ∧ (if Config.takenFirst .trackerBeforePublication s.freeCount then
        s.boundaryCore.trackerWork s.active false else s.boundaryCore).pst = s.boundaryCore.pst := by
    split
    · obtain ⟨_, _, _, h⟩ := s.boundaryCore.trackerWork_onlyTracks s.active false
      rw [h]
      exact ⟨rfl, rfl⟩
    · exact ⟨rfl, rfl⟩
  generalize (if Config.takenFirst .trackerBeforePublication s.freeCount then
        s.boundaryCore.trackerWork s.active false else s.boundaryCore) = w at unfolded tracked
  rw [unfolded]
  obtain ⟨tot, pst⟩ := tracked
  obtain ⟨settledTot, settledPst⟩ := w.applyClearIfPending_settled
  rw [tot] at settledTot settledPst
  rw [pst] at settledPst
  split
  · exact ⟨settledTot, settledPst, fun _ clear p => w.applyClearIfPending_pends (by rw [tot]; exact clear) p⟩
  · next never => exact ⟨tot, pst, fun first => absurd first never⟩

theorem State.publishing_store (s : State) :
    s.publishing.tot = (if s.clearsBefore then s.boundaryCore.tot.settled else s.boundaryCore.tot)
    ∧ s.publishing.pst = (if s.clearsBefore then s.boundaryCore.pst.settled s.boundaryCore.tot else s.boundaryCore.pst)
    ∧ (s.clearsBefore = true → s.boundaryCore.tot.clearPending = true →
      ∀ p, Pends s.publishing p .totalsCleared = true) := by
  obtain ⟨tot, pst, posts⟩ := s.beforePublication_store
  unfold State.publishing State.earlyNoted
  generalize s.boundaryCore.beforePublication s.freeCount s.active = w at *
  simp only
  have noted := w.takeNotes_within s.freeCount ((w.driftNote :: s.notesAtBoundary).filter (Note.early s.freeCount))
  obtain ⟨_, _, only⟩ := w.takeNotes_onlyReports s.freeCount
    ((w.driftNote :: s.notesAtBoundary).filter (Note.early s.freeCount))
  generalize w.takeNotes s.freeCount ((w.driftNote :: s.notesAtBoundary).filter (Note.early s.freeCount)) = t at *
  refine ⟨?_, ?_, fun first clear p => noted.grows p _ (posts first clear p)⟩
  · rw [only]
    exact tot
  · rw [only]
    exact pst

theorem Tot.integrate_rate (vn mn : Nat) (t : Tot) :
    (t.integrate vn mn).rate = t.rate ∧ (t.integrate vn mn).clearPending = t.clearPending := by
  rw [Tot.integrate]
  exact ⟨rfl, rfl⟩

theorem Tot.afterRecord_rate (p : Profile) (area : Nat) (r : FlowRecord) (t : Tot) :
    (t.afterRecord p area r).rate = t.rate ∧ (t.afterRecord p area r).clearPending = t.clearPending := by
  unfold Tot.afterRecord
  split
  · exact Tot.integrate_rate _ _ t
  · exact ⟨rfl, rfl⟩

/-- A publication leaves the rate of the totals and a clear that is pending (R113, R120). -/
theorem State.completeWithoutPairs_tot (s : State) :
    s.completeWithoutPairs.tot.rate = s.tot.rate
    ∧ s.completeWithoutPairs.tot.clearPending = s.tot.clearPending := by
  have published : s.completeWithoutPairs.tot = _ := State.publish_tot s.xcr.windowNumber (PerSlot.fill none)
    (s.completed none s.xcr.windowNumber (PerSlot.fill none))
  rw [published, State.completed_tot]
  exact Tot.afterRecord_rate _ _ _ s.tot

/-- What a boundary with a completion still does to the totals, the store and the tracker after its publication. -/
theorem State.publicationOn_blocks (n : Nat) (old : Profile) (s : State) :
    let c := s.completeWithoutPairs
    let t := s.publicationOn n old
    t.tot = c.tot.settled ∧ t.pst = c.pst.settled c.tot
    ∧ t.stk = (if Config.takenFirst .trackerBeforePublication n then c else c.trackerWork old false).stk
    ∧ (c.tot.clearPending = true → ∀ p, Pends t p .totalsCleared = true) := by
  intro c t
  have unfolded : t = State.applyClearIfPending (if Config.takenFirst .trackerBeforePublication n then c
      else c.trackerWork old false) := rfl
  have tracked : (if Config.takenFirst .trackerBeforePublication n then c else c.trackerWork old false).tot = c.tot
      ∧ (if Config.takenFirst .trackerBeforePublication n then c else c.trackerWork old false).pst = c.pst := by
    split
    · exact ⟨rfl, rfl⟩
    · obtain ⟨_, _, _, h⟩ := c.trackerWork_onlyTracks old false
      rw [h]
      exact ⟨rfl, rfl⟩
  generalize (if Config.takenFirst .trackerBeforePublication n then c else c.trackerWork old false) = w at *
  rw [unfolded]
  obtain ⟨tot, pst⟩ := tracked
  obtain ⟨settledTot, settledPst⟩ := w.applyClearIfPending_settled
  rw [tot] at settledTot settledPst
  rw [pst] at settledPst
  refine ⟨settledTot, settledPst, ?_, fun clear p => w.applyClearIfPending_pends (by rw [tot]; exact clear) p⟩
  rw [State.applyClearIfPending_eq]

/-- A boundary that gives a completion, from its publication to its end. -/
theorem State.boundary_after (s : State) (completes : s.boundaryCore.completesWithoutPairs = true) :
    let c := s.publishing.completeWithoutPairs
    s.boundary.tot = c.tot.settled ∧ s.boundary.pst = c.pst.settled c.tot
    ∧ s.boundary.stk
      = (if Config.takenFirst .trackerBeforePublication s.freeCount then c else c.trackerWork s.active false).stk
    ∧ (c.tot.clearPending = true → ∀ p, Pends s.boundary p .totalsCleared = true) := by
  intro c
  rcases s.boundary_cases with ⟨none, _⟩ | ⟨_, eq⟩
  · exact absurd (none.symm.trans completes) (by decide)
  · obtain ⟨tot, pst, stk, posts⟩ := s.publishing.publicationOn_blocks s.freeCount s.active
    rw [eq, State.finishWithCompletion_eq]
    rw [State.publishing] at tot pst stk posts
    simp only
    generalize (s.boundaryCore.earlyNoted s.freeCount s.active s.notesAtBoundary).publicationOn s.freeCount s.active = v
      at *
    have noted := v.takeNotes_within s.freeCount
      ((v.driftNote :: s.notesAtBoundary).filter fun x => !Note.early s.freeCount x)
    obtain ⟨_, _, only⟩ := v.takeNotes_onlyReports s.freeCount
      ((v.driftNote :: s.notesAtBoundary).filter fun x => !Note.early s.freeCount x)
    generalize v.takeNotes s.freeCount
      ((v.driftNote :: s.notesAtBoundary).filter fun x => !Note.early s.freeCount x) = t at *
    refine ⟨?_, ?_, ?_, fun clear p => noted.grows p _ (posts clear p)⟩
    · rw [only]
      exact tot
    · rw [only]
      exact pst
    · rw [only]
      exact stk

/-- The totals and the store around the publication of a boundary: a pending clear comes before the commit, before the
publication, or after it (R120, assumption 9). -/
theorem State.boundary_settles (s : State) (plain : s.pst.geometryPending = false)
    (completes : s.boundaryCore.completesWithoutPairs = true) :
    let b := s.publishing
    let c := b.completeWithoutPairs
    let t := s.boundary
    let cleared : Tot := ⟨0, 0, 0, 0, s.tot.rate, 0, false⟩
    let checkpoint : NvJob := .totals (checkpointOf 0 0 0 0 s.tot.rate)
    (s.tot.clearPending = false →
      b.tot = s.tot ∧ t.tot = c.tot ∧ b.pst = storeApplied s ∧ t.pst = c.pst)
    ∧ (s.tot.clearPending = true →
      (∀ p, Pends t p .totalsCleared = true)
      ∧ ((b.tot = cleared ∧ t.tot = c.tot ∧ t.pst = c.pst
          ∧ b.pst = { storeApplied s with nv := b.pst.nv }
          ∧ (b.pst.nv = (storeApplied s).nv.queue checkpoint
            ∨ (s.pst.commitPending = true
              ∧ b.pst.nv = (s.pst.nv.queue checkpoint).queue (.profile (imageOf s.nextProfile)))))
        ∨ (b.tot = s.tot ∧ t.tot = cleared ∧ b.pst = storeApplied s
          ∧ t.pst = { c.pst with nv := c.pst.nv.queue checkpoint }))) := by
  intro b c t cleared checkpoint
  obtain ⟨tot, pst, posted⟩ := s.publishing_store
  obtain ⟨endTot, endPst, _, endPosted⟩ := s.boundary_after completes
  obtain ⟨rate, pending⟩ := s.publishing.completeWithoutPairs_tot
  obtain ⟨_, before, after⟩ := s.boundary_publishes completes
  have publication := s.publishing.completeWithoutPairs_within
  have early (p : Port) (h : Pends b p .totalsCleared = true) : Pends t p .totalsCleared = true :=
    after.posts.grows p _ (publication.grows p _ h)
  have quiet (h : b.tot.clearPending = false) : t.tot = c.tot ∧ t.pst = c.pst := by
    have none : c.tot.clearPending = false := pending.trans h
    exact ⟨endTot.trans (Tot.settled_same _ none), endPst.trans (Pst.settled_same _ _ none)⟩
  cases first : s.clearsFirst with
  | true =>
    obtain ⟨commit, clear⟩ := s.clearsFirst_pending first
    obtain ⟨coreTot, coreStore, coreNv, corePosts⟩ := s.boundaryCore_cleared plain first
    rw [s.tot.settled_clear clear] at coreTot
    have bTot : b.tot = cleared := by
      refine tot.trans ?_
      rw [coreTot]
      split <;> rfl
    have bPst : b.pst = s.boundaryCore.pst := by
      refine pst.trans ?_
      rw [coreTot]
      split
      · exact Pst.settled_same _ _ rfl
      · rfl
    obtain ⟨tTot, tPst⟩ := quiet (by rw [bTot])
    refine ⟨fun none => absurd (none.symm.trans clear) (by decide), fun _ =>
      ⟨fun p => early p (before.posts.grows p _ (corePosts p)), .inl ⟨bTot, tTot, tPst, ?_, .inr ⟨commit, ?_⟩⟩⟩⟩
    · rw [bPst]
      exact coreStore
    · rw [bPst]
      exact coreNv
  | false =>
    obtain ⟨coreTot, corePst⟩ := s.boundaryCore_uncleared plain first
    rw [coreTot, corePst] at pst
    rw [coreTot] at tot posted
    cases clear : s.tot.clearPending with
    | false =>
      rw [s.tot.settled_same clear, ite_self] at tot
      rw [Pst.settled_same _ _ clear, ite_self] at pst
      obtain ⟨tTot, tPst⟩ := quiet (by rw [show b.tot = s.tot from tot, clear])
      exact ⟨fun _ => ⟨tot, tTot, pst, tPst⟩, fun h => by cases h⟩
    | true =>
      refine ⟨fun h => (by cases h), fun _ => ?_⟩
      rw [s.tot.settled_clear clear] at tot
      rw [Pst.settled_clear _ _ clear] at pst
      cases order : s.clearsBefore with
      | true =>
        rw [order, if_pos rfl] at tot pst
        obtain ⟨tTot, tPst⟩ := quiet (by rw [show b.tot = cleared from tot])
        refine ⟨fun p => early p (posted order clear p), .inl ⟨tot, tTot, tPst, ?_, .inl ?_⟩⟩
        · rw [show b.pst = _ from pst]
        · rw [show b.pst = _ from pst]
      | false =>
        rw [order, if_neg Bool.false_ne_true] at tot pst
        have due : c.tot.clearPending = true := by rw [pending, tot, clear]
        rw [tot] at rate
        rw [Tot.settled_clear _ due, rate] at endTot
        rw [Pst.settled_clear _ _ due, rate] at endPst
        exact ⟨endPosted due, .inr ⟨tot, endTot, pst, endPst⟩⟩

end Sys2Proof.Machine
end

section
/-!
PROOFS. CorrelatorAtBoundary, assembled: a completion without pairs at a boundary is a correlation completion over no
pair, and the statement.
-/

namespace Sys2Proof.Machine

open Sys2Proof.Claim

/-! ### The tracker around the publication (R48, R63, assumption 9) -/

/-- The tracker's work at a boundary without a geometry commit. -/
theorem State.trackerWork_plain (old : Profile) (s : State) :
    s.trackerWork old false = s.trackerBoundary (thetaRangeChanged old s.active) := rfl

/-- A frame's samples reach the detectors alike whatever the place of its window (R48). -/
theorem State.framed_stk (fr : Frame) (s : State) (pos : Nat) :
    ({ s with sfe := { s.sfe with windowPos := pos } }.framed fr).stk = (s.framed fr).stk := by
  have alike : Alike (s.storeFrame fr) ({ s with sfe := { s.sfe with windowPos := pos } }.storeFrame fr) :=
    ⟨rfl, rfl, rfl, rfl, rfl⟩
  exact (alike.trackFrame.alike alike).stk

/-- The tracker before and after the publication of a boundary: its work comes in one of the two places. -/
theorem State.boundary_tracks (s : State) (completes : s.boundaryCore.completesWithoutPairs = true) :
    let changed := thetaRangeChanged s.active s.nextProfile
    let c := s.publishing.completeWithoutPairs
    (s.publishing.stk = s.stk ∧ s.boundary.stk = (State.trackerBoundary changed c).stk)
    ∨ (s.publishing.stk = (State.trackerBoundary changed s.boundaryCore).stk ∧ s.boundary.stk = c.stk) := by
  intro changed c
  obtain ⟨_, _, stk, _⟩ := s.boundary_after completes
  have start := s.boundaryCore_start
  have coreActive : s.boundaryCore.active = s.nextProfile := by rw [State.active, start.pst]
  have active : c.active = s.nextProfile := by
    obtain ⟨_, _, _, store, _⟩ := s.publishing.completeWithoutPairs_onlyPublishes
    obtain ⟨_, _, _, _, _, kept⟩ := s.publishing_onlyAside
    rw [State.active, store, kept]
    exact coreActive
  have before : s.publishing.stk = (if Config.takenFirst .trackerBeforePublication s.freeCount then
      s.boundaryCore.trackerWork s.active false else s.boundaryCore).stk := by
    unfold State.publishing State.earlyNoted
    obtain ⟨_, _, only⟩ := (s.boundaryCore.beforePublication s.freeCount s.active).takeNotes_onlyReports s.freeCount
      (((s.boundaryCore.beforePublication s.freeCount s.active).driftNote :: s.notesAtBoundary).filter
        (Note.early s.freeCount))
    simp only
    rw [only]
    unfold State.beforePublication
    simp only
    split
    · rw [State.applyClearIfPending_eq]
    · rfl
  cases order : Config.takenFirst .trackerBeforePublication s.freeCount with
  | true =>
    rw [order, if_pos rfl] at before stk
    rw [State.trackerWork_plain, coreActive] at before
    exact .inr ⟨before, stk⟩
  | false =>
    rw [order, if_neg Bool.false_ne_true] at before stk
    rw [State.trackerWork_plain, active] at stk
    exact .inl ⟨before.trans start.stk, stk⟩

/-! ### The reports around the publication -/

/-- The work of a boundary up to its publication, at the capture unit. -/
theorem State.framed_publishing_cap (fr : Frame) (s : State) (plain : s.pst.geometryPending = false) :
    CapStands s (s.framed fr).publishing
    ∧ Fires [.slugDeparted, .ringFailed, .ringRestored] s (s.framed fr).publishing := by
  have plain' : (s.framed fr).pst.geometryPending = false := by rwa [State.framed_pst]
  have core := (s.framed fr).boundaryCore_cap plain'
  have aside : Aside (s.framed fr).boundaryCore (s.framed fr).publishing :=
    State.earlyNoted_aside _ _ _ _ (s.framed fr).notesAtBoundary_distinct
  have graded : Fires [.ringFailed, .ringRestored] (s.framed fr) (s.framed fr).closedWindow := by
    rw [State.closedWindow_eq, State.postHealth_posts]
    refine ((foldl_post_fires _ _).mono fun k hk => ?_).after rfl
    obtain ⟨r, _, event⟩ := List.mem_filterMap.1 hk
    unfold healthEvent at event
    split at event <;> simp_all
  refine ⟨?_, ?_⟩
  · exact (((s.framed_work fr).cap.trans (s.framed fr).closedWindow_capStands).trans (.of_cap core)).trans aside.stands
  · exact ((((s.framed_fires fr).mono (by simp)).trans (graded.mono (by simp))).trans (.of_cap core)).trans
      (aside.fires.mono (by simp))

/-- A capture that waits for none of the kinds posted stands. -/
theorem Fires.kept {kinds : List EventKind} {s t : State} (h : Fires kinds s t) (g : CapStands s t)
    (none : ∀ k ∈ kinds, s.cap.waitsFor k = false) : t.cap = s.cap := by
  by_cases armed : s.cap.state = .armed
  · exact h.quiet armed none
  · exact g armed

/-- The capture unit around the publication, where it waits for no departure and no ring's failure. -/
theorem State.framed_boundary_cap (fr : Frame) (s : State) (plain : s.pst.geometryPending = false)
    (completes : (s.framed fr).boundaryCore.completesWithoutPairs = true)
    (departed : s.cap.waitsFor .slugDeparted = false) (failed : s.cap.waitsFor .ringFailed = false) :
    (s.framed fr).publishing.cap = s.cap
    ∧ (s.framed fr).boundary.cap = (s.framed fr).publishing.completeWithoutPairs.cap := by
  obtain ⟨stands, fires⟩ := s.framed_publishing_cap fr plain
  obtain ⟨_, _, after⟩ := (s.framed fr).boundary_publishes completes
  have restored : s.cap.waitsFor .ringRestored = false := Cap.waitsFor_none _ _ (by decide)
  have before : (s.framed fr).publishing.cap = s.cap := fires.kept stands (by simp [departed, failed, restored])
  refine ⟨before, after.fires.kept after.stands fun k hk => ?_⟩
  rw [List.mem_singleton.1 hk]
  rcases (s.framed fr).publishing.completeWithoutPairs_fires with same | ⟨_, fired⟩
  · rw [same, before]
    exact departed
  · rw [Bool.eq_false_iff]
    exact fun waits => fired (Cap.armed_of_waitsFor _ _ waits)

/-- The kinds that a publication posts and the rest of a boundary does not (R73, R105, R121). -/
theorem State.framed_boundary_posts (fr : Frame) (s : State)
    (completes : (s.framed fr).boundaryCore.completesWithoutPairs = true) (p : Port) (k : EventKind)
    (hk : k ∈ [EventKind.recordPublished, .velocityLost, .guardWatch, .guardTripped, .guardRecovered, .pulseOverrun]) :
    Pends (s.framed fr).publishing p k = Pends s p k
    ∧ Pends (s.framed fr).boundary p k = Pends (s.framed fr).publishing.completeWithoutPairs p k := by
  obtain ⟨_, before, after⟩ := (s.framed fr).boundary_publishes completes
  have frame := (s.framed_work fr).posts
  have start := (s.framed fr).boundaryCore_start.posts
  have apart (kinds : List EventKind) (h : ∀ j ∈ [EventKind.recordPublished, .velocityLost, .guardWatch, .guardTripped,
      .guardRecovered, .pulseOverrun], j ∉ kinds) : k ∉ kinds := h k hk
  refine ⟨?_, after.posts.same p k (apart _ (by decide))⟩
  rw [before.posts.same p k (apart _ (by decide)), start.same p k (apart _ (by decide)),
    frame.same p k (apart _ (by decide))]

theorem KeepsKey.mem_iff {key : FaultKey} {s t : State} (h : KeepsKey key s t) (e : FaultEntry) (he : e.key = key) :
    e ∈ t.efu.faults ↔ e ∈ s.efu.faults := by
  have entries : e ∈ t.efu.entries key ↔ e ∈ s.efu.entries key := by rw [h]
  simpa only [Efu.mem_entries, he, and_true] using entries

/-- Pulse overruns are recorded by the publication of a boundary alone (R121). -/
theorem State.framed_boundary_overruns (fr : Frame) (s : State)
    (completes : (s.framed fr).boundaryCore.completesWithoutPairs = true) :
    KeepsKey overrunKey s (s.framed fr).publishing
    ∧ KeepsKey overrunKey (s.framed fr).publishing.completeWithoutPairs (s.framed fr).boundary := by
  obtain ⟨_, before, after⟩ := (s.framed fr).boundary_publishes completes
  exact ⟨(s.framed_core_keeps fr overrunKey).trans before.overrun, after.overrun⟩

/-- A boundary that gives a completion counts one, and one record by its status (R45, R73). -/
theorem State.framed_boundary_counted (fr : Frame) (s : State)
    (completes : (s.framed fr).boundaryCore.completesWithoutPairs = true) :
    let t := (s.framed fr).boundary
    t.efu.stats.completed = plus s.efu.stats.completed 1
    ∧ CountsRecord t.fsv.record.status s.efu.stats t.efu.stats := by
  intro t
  obtain ⟨⟨_, _, _, _, _, only⟩, before, after⟩ := (s.framed fr).boundary_publishes completes
  have record : t.fsv = (s.framed fr).publishing.completeWithoutPairs.fsv := by
    rw [show t = _ from only]
  obtain ⟨counted, status⟩ := (s.framed fr).publishing.completeWithoutPairs_stats
  obtain ⟨b0, b1, b2, b3, b4⟩ := (s.framed_core_records fr).trans before.records
  obtain ⟨a0, a1, a2, a3, a4⟩ := after.records
  refine ⟨?_, ?_⟩
  · rw [a0, counted, b0, plus_eq_satAdd]
  · rw [record]
    unfold CountsRecord at status ⊢
    rw [a1, a2, a3, a4, ← b1, ← b2, ← b3, ← b4]
    exact status

/-! ### The blocks around the publication -/

/-- The blocks of a boundary when its publication begins, where it applies no geometry commit. -/
structure PublishingBlocks (s v : State) : Prop where
  power : v.power = s.power
  window : v.xcr.windowNumber = s.xcr.windowNumber + 1
  degraded : v.sfe.degraded = s.sfe.degraded
  fsv : v.fsv = solverApplied s.nextProfile s
  dgd : v.dgd = s.dgd
  pls : v.pls = pulseApplied s.nextProfile s
  active : v.pst.active = s.nextProfile

theorem State.framed_publishing (fr : Frame) (s : State) (plain : s.pst.geometryPending = false) :
    PublishingBlocks s (s.framed fr).publishing := by
  have start := (s.framed fr).boundaryCore_start
  have fsv := s.framed_core_fsv fr plain
  have front := State.boundarySfe_plain (s.framed fr) (by rwa [State.framed_pst])
  obtain ⟨_, _, _, _, _, kept⟩ := (s.framed fr).publishing_onlyAside
  have degraded := (s.framed fr).windowClosed_degraded
  have window := start.window
  have store := congrArg Pst.active start.pst
  have pulse := start.pls
  rw [State.framed_xcr] at window
  rw [State.framed_nextProfile] at store pulse
  rw [State.framed_pst] at pulse
  have same : (s.framed fr).power = s.power ∧ (s.framed fr).dgd = s.dgd ∧ (s.framed fr).pls = s.pls
      ∧ (s.framed fr).sfe.degraded = s.sfe.degraded := by
    rw [State.framed_eq]
    exact ⟨rfl, rfl, rfl, rfl⟩
  obtain ⟨power, guard, pls, mark⟩ := same
  rw [kept]
  refine ⟨start.power.trans power, window, ?_, fsv, start.dgd.trans guard, ?_, store⟩
  · show (s.framed fr).boundaryCore.sfe.degraded = _
    rw [start.sfe, front, degraded, mark]
  · show (s.framed fr).boundaryCore.pls = _
    rw [pulse, pls]
    rfl

/-- A correlation over no pair in flight in the window of a state. -/
def noPairs (s : State) : InFlight := ⟨s.xcr.windowNumber, 0, PerSlot.fill none, 0, 0, 0⟩

/-- The state with a correlation over no pair in flight (R31). -/
def State.overNoPairs (s : State) : State := s.setXcr { s.xcr with state := .running (noPairs s) }

/-- A completion without pairs is CORRELATION_COMPLETION of a correlation over no pair (R31). -/
theorem exec_overNoPairs (s : State) (running : s.power = .running) :
    exec .correlationCompletion s.overNoPairs = .next s.completeWithoutPairs := by
  rw [s.completeWithoutPairs_eq (noPairs s) rfl rfl]
  exact congrArg Host.Outcome.next (State.whenRunning_running _ _ running)

theorem thetaRangeChanged_eq (old new : Profile) :
    thetaRangeChanged old new = decide (old.thetaMin ≠ new.thetaMin ∨ old.thetaMax ≠ new.thetaMax) := by
  rw [thetaRangeChanged, Bool.decide_or]
  simp only [bne, ← decide_not, beq_eq_decide]

theorem storeApplied_congr (s t : State) (h : t.pst = s.pst) : storeApplied t = storeApplied s := by
  rw [storeApplied, storeApplied, h]

/-- The tracker's clause of a publication at a boundary: `u` is the frame's work where it closes no window. -/
theorem State.framed_boundary_tracks (fr : Frame) (s : State) (opened : FrameOpen fr s)
    (completes : (s.framed fr).boundaryCore.completesWithoutPairs = true) (long : s.pst.active.n ≠ 1) :
    let changed := thetaRangeChanged s.pst.active s.nextProfile
    let v := (s.framed fr).publishing
    let c := v.completeWithoutPairs
    ∃ u, exec .replyDeadline { s with sfe := { s.sfe with windowPos := 0 } } = .next u
      ∧ ((v.stk = u.stk ∧ (s.framed fr).boundary.stk = (State.trackerBoundary changed c).stk)
        ∨ (v.stk = (State.trackerBoundary changed { u with sfe := v.sfe, fsv := v.fsv, pst := v.pst }).stk
          ∧ (s.framed fr).boundary.stk = c.stk)) := by
  intro changed v c
  have tracker := s.framed_stk fr 0
  refine ⟨_, exec_replyDeadline_inside fr _ opened (Ne.symm long), ?_⟩
  generalize ({ s with sfe := { s.sfe with windowPos := 0 } } : State).framed fr = u at tracker ⊢
  have tracks := (s.framed fr).boundary_tracks completes
  have sorted : thetaRangeChanged (s.framed fr).active (s.framed fr).nextProfile = changed := by
    rw [State.framed_active, State.framed_nextProfile]
    rfl
  rw [sorted] at tracks
  obtain ⟨_, _, _, _, _, kept⟩ := (s.framed fr).publishing_onlyAside
  have front : v.sfe = (s.framed fr).boundaryCore.sfe := by rw [show v = _ from kept]
  have solver : v.fsv = (s.framed fr).boundaryCore.fsv := by rw [show v = _ from kept]
  have store : v.pst.active = (s.framed fr).boundaryCore.pst.active := by rw [show v = _ from kept]
  have alike : Alike (s.framed fr).boundaryCore { u with sfe := v.sfe, fsv := v.fsv, pst := v.pst } :=
    ⟨tracker.trans (s.framed fr).boundaryCore_start.stk.symm, congrArg Sfe.rings front,
      congrArg Sfe.lastIndex front, congrArg Fsv.record solver, store⟩
  rcases tracks with ⟨before, after⟩ | ⟨before, after⟩
  · exact .inl ⟨before.trans tracker.symm, after⟩
  · exact .inr ⟨before.trans ((alike.trackerBoundary changed).alike alike).stk.symm, after⟩

/-- A correlogram that waits for a completion, over a boundary that gives one without pairs (R173). -/
theorem State.framed_boundary_correlogram (fr : Frame) (s : State) (plain : s.pst.geometryPending = false)
    (completes : (s.framed fr).boundaryCore.completesWithoutPairs = true) (k : Slot) (p : Port)
    (filling : s.cap.state = .filling) (owner : s.cap.owner = some p) (content : s.cap.content = some (.correlogram k)) :
    (s.framed fr).boundary.cap = { s.cap with
        state := .full, buffer := [], count := 0, empty := true
        header := s.cap.header.map fun h => { h with raw := none, corr := none } }
    ∧ Pends (s.framed fr).boundary p .captureDone = true := by
  have plain' : (s.framed fr).pst.geometryPending = false := by rwa [State.framed_pst]
  have core : (s.framed fr).boundaryCore.cap = s.cap :=
    (((s.framed_work fr).cap.trans (s.framed fr).closedWindow_capStands).trans
      (.of_cap ((s.framed fr).boundaryCore_cap plain'))) (by rw [filling]; decide)
  obtain ⟨full, done⟩ := (s.framed fr).boundary_absent k completes (by rw [core]; exact filling)
    (by rw [core]; exact content)
  rw [core] at full done
  exact ⟨full, done p owner⟩

/-- The publication of a completion without pairs at a boundary, in the words of the statements (R31, R73). -/
theorem State.framed_publishesWithoutPairs (fr : Frame) (s : State) (opened : FrameOpen fr s)
    (plain : s.pst.geometryPending = false)
    (completes : (s.framed fr).boundaryCore.completesWithoutPairs = true) :
    let v := (s.framed fr).publishing
    PublishesWithoutPairs s v.overNoPairs v.completeWithoutPairs (s.framed fr).boundary := by
  intro v
  have plain' : (s.framed fr).pst.geometryPending = false := by rwa [State.framed_pst]
  have blocks := s.framed_publishing fr plain
  obtain ⟨⟨_, _, _, _, _, only⟩, _⟩ := (s.framed fr).boundary_publishes completes
  obtain ⟨_, _, front, _⟩ := v.completeWithoutPairs_onlyPublishes
  have settles := (s.framed fr).boundary_settles plain' completes
  have totals : (s.framed fr).tot = s.tot := by rw [State.framed_eq]
  rw [totals, storeApplied_congr s (s.framed fr) (s.framed_pst fr), State.framed_pst, State.framed_nextProfile] at settles
  have active := s.framed_boundary_active fr
  have tracks := s.framed_boundary_tracks fr opened completes
  have caps := s.framed_boundary_cap fr plain completes
  obtain ⟨overrun, overran⟩ := s.framed_boundary_overruns fr completes
  have frontEnd : (s.framed fr).boundary.sfe = v.completeWithoutPairs.sfe := by rw [only]
  have same : ({ (s.framed fr).boundary.sfe with degraded := s.sfe.degraded } : Sfe) = v.sfe := by
    rw [frontEnd, front, ← blocks.degraded]
  unfold PublishesWithoutPairs
  simp only [active, ← thetaRangeChanged_eq]
  refine ⟨⟨noPairs v, ⟨blocks.power.trans opened.1, .inl rfl⟩, blocks.window, fun k => PerSlot.get_fill _ k⟩,
    exec_overNoPairs v (blocks.power.trans opened.1), blocks.window, by rw [only], same.symm, frontEnd, blocks.fsv,
    by rw [only], blocks.dgd, by rw [only], blocks.pls, by rw [only], blocks.active, settles.1, settles.2, tracks,
    fun departed failed => caps ?_ ?_, fun p k hk => s.framed_boundary_posts fr completes p k hk,
    fun e he => ⟨overrun.mem_iff e he, overran.mem_iff e he⟩, (s.framed_boundary_counted fr completes).2,
    s.framed_boundary_correlogram fr plain completes⟩
  · rw [Bool.eq_false_iff, ne_eq, ← armedOn_iff]
    exact departed
  · rw [Bool.eq_false_iff, ne_eq, ← armedOn_iff]
    exact failed

end Sys2Proof.Machine
end

section
/-!
PROOFS. CorrelatorAtBoundary, settled: what becomes of the correlation that a boundary finds, case by case.
-/

namespace Sys2Proof.Machine

open Sys2Proof.Claim

/-- A boundary gives a completion exactly where the history is ready, the table is empty and none is skipped past. -/
theorem State.framed_incomplete_of (fr : Frame) (s : State) (h : ¬ EmptyCompletion s (s.framed fr).boundary) :
    (s.framed fr).boundaryCore.completesWithoutPairs = false :=
  Bool.eq_false_iff.2 fun completes => h (s.framed_completes fr completes).2

theorem State.framed_boundary_table (fr : Frame) (s : State) :
    (s.framed fr).boundary.xcr.table = (s.framed fr).boundaryCore.xcr.table := by
  obtain ⟨table, _⟩ := (s.framed fr).boundary_end.only
  exact table

/-- A boundary marks a running correlation late and begins none (R33). -/
theorem State.framed_boundary_running (fr : Frame) (s : State) (plain : s.pst.geometryPending = false) (f : InFlight)
    (running : s.xcr.state = .running f) :
    let t := (s.framed fr).boundary
    t.xcr.state = .late f ∧ t.xcr.results = s.xcr.results ∧ t.efu.stats.completed = s.efu.stats.completed
    ∧ t.fsv = solverApplied t.pst.active s := by
  intro t
  obtain ⟨block, kept⟩ := s.framed_incomplete fr plain (s.framed_incomplete_of fr fun ⟨_, _, idle⟩ => idle f running)
  have state := (s.framed fr).beforeCorrelator_reads.state (by rwa [State.framed_pst])
  rw [State.framed_xcr] at state
  exact ⟨(congrArg Xcr.state block).trans
    ((s.framed fr).beforeCorrelator.moveCorrelator_moved.late f (state.trans running)), kept⟩

/-- A ready history and a pair begin a correlation of the window just closed (R29). -/
theorem State.framed_boundary_begins (fr : Frame) (s : State) (plain : s.pst.geometryPending = false)
    (idle : ∀ f, s.xcr.state ≠ .running f) (ready : ReadyAt s)
    (pair : ∃ k, (s.framed fr).boundary.xcr.table.get k ≠ none) :
    let t := (s.framed fr).boundary
    t.xcr.state = .running ⟨s.xcr.windowNumber + 1, fr.index, t.xcr.table, s.pst.active.n, s.pst.active.fs,
      t.pst.active.qMin⟩
    ∧ t.xcr.results = s.xcr.results ∧ t.efu.stats.completed = s.efu.stats.completed
    ∧ t.fsv = solverApplied t.pst.active s := by
  intro t
  obtain ⟨k, some⟩ := pair
  obtain ⟨block, kept⟩ := s.framed_incomplete fr plain (s.framed_incomplete_of fr fun ⟨_, empty, _⟩ => some (empty k))
  have table := s.framed_boundary_table fr
  have begun := (s.framed_core_state fr plain idle).1 ready ⟨k, by rwa [← table]⟩
  have same := s.nextProfile_geometry plain
  rw [Bool.eq_false_iff, ne_eq, isGeometry_iff, not_or, not_or, not_not, not_not] at same
  obtain ⟨rate, length, _⟩ := same
  rw [← table, ← rate, ← length, ← s.framed_boundary_active fr] at begun
  exact ⟨(congrArg Xcr.state block).trans begun, kept⟩

/-- A ready history without a pair completes at once (R31). -/
theorem State.framed_boundary_empty (fr : Frame) (s : State) (plain : s.pst.geometryPending = false)
    (completes : (s.framed fr).boundaryCore.completesWithoutPairs = true) :
    let t := (s.framed fr).boundary
    t.xcr.state = .idle ∧ (∀ k, t.xcr.results.get k = none) ∧ t.xcr.resultWindow = s.xcr.windowNumber + 1
    ∧ t.efu.stats.completed = plus s.efu.stats.completed 1 ∧ t.fsv.record.window = s.xcr.windowNumber + 1
    ∧ t.fsv.record.vc = none := by
  intro t
  obtain ⟨⟨_, _, _, _, _, only⟩, _⟩ := (s.framed fr).boundary_publishes completes
  have window := (s.framed_publishing fr plain).window
  have counted := (s.framed_boundary_counted fr completes).1
  have correlator := (s.framed fr).publishing.completeWithoutPairs_xcr
  obtain ⟨absent, record⟩ := (s.framed fr).publishing.completeWithoutPairs_record
  rw [window] at correlator record
  have xcr : t.xcr = (s.framed fr).publishing.completeWithoutPairs.xcr := by rw [show t = _ from only]
  have fsv : t.fsv = (s.framed fr).publishing.completeWithoutPairs.fsv := by rw [show t = _ from only]
  rw [xcr, fsv, correlator]
  exact ⟨rfl, fun k => PerSlot.get_fill _ k, rfl, counted, record, absent⟩

/-- A history that is not ready begins none (R10, R29). -/
theorem State.framed_boundary_unready (fr : Frame) (s : State) (plain : s.pst.geometryPending = false)
    (idle : ∀ f, s.xcr.state ≠ .running f) (unready : ¬ ReadyAt s) :
    let t := (s.framed fr).boundary
    t.xcr.state = .idle ∧ t.xcr.results = s.xcr.results ∧ t.efu.stats.completed = s.efu.stats.completed
    ∧ t.fsv = solverApplied t.pst.active s := by
  intro t
  obtain ⟨block, kept⟩ := s.framed_incomplete fr plain (s.framed_incomplete_of fr fun ⟨ready, _⟩ => unready ready)
  exact ⟨(congrArg Xcr.state block).trans ((s.framed_core_state fr plain idle).2 unready), kept⟩

/-- A boundary that keeps the frame rate, N and the number of rings applies no geometry commit (R143). -/
theorem State.plain_of_kept (s : State) (rate : s.nextProfile.fs = s.pst.active.fs)
    (length : s.nextProfile.n = s.pst.active.n) (rings : s.nextProfile.ringCount = s.pst.active.ringCount) :
    s.pst.geometryPending = false := by
  unfold State.nextProfile at rate length rings
  rw [Pst.geometryPending]
  split at rate
  · next pending =>
    rw [if_pos pending] at length rings
    rw [pending, Bool.true_and, Bool.eq_false_iff, ne_eq, isGeometry_iff, rate, length, rings]
    simp
  · next none => rw [Bool.eq_false_iff.2 none, Bool.false_and]

/-- Settles O20: the table is that of the chain after grading, and a correlation that the boundary finds is marked late,
discarded, or followed by a new one; a completion without pairs publishes what that of a correlation over no pair
does. -/
theorem correlatorAtBoundary : Obligations.CorrelatorAtBoundary := by
  unfold Obligations.CorrelatorAtBoundary
  refine ⟨fun fr s closes => ?_, fun fr s at_boundary => ?_⟩
  · have plain := closes_plain fr s closes
    have counts := s.framed_boundary_late_counts fr plain
    refine ⟨_, exec_replyDeadline_boundary fr s closes.1,
      (s.framed_boundary_active fr).trans (storeApplied_active s).symm, fun f running => ?_, fun f late => ?_,
      fun free => ?_⟩
    · obtain ⟨state, results, completed, solver⟩ := s.framed_boundary_running fr plain f running
      exact ⟨state, results, (counts f).1 running, completed, solver,
        s.framed_boundary_noted fr plain (by rw [running]; exact Correlation.noConfusion)⟩
    · exact ⟨(counts f).2 late, s.framed_boundary_noted fr plain (by rw [late]; exact Correlation.noConfusion)⟩
    · have idle (f : InFlight) : s.xcr.state ≠ .running f := by
        rcases free with h | ⟨g, h⟩ <;> rw [h] <;> exact Correlation.noConfusion
      refine ⟨s.framed_boundary_begins fr plain idle, fun ready empty => ?_, s.framed_boundary_unready fr plain idle⟩
      obtain ⟨state, results, window, completed, record, _⟩ :=
        s.framed_boundary_empty fr plain (s.framed_completes_of fr plain ⟨ready, empty, idle⟩)
      exact ⟨state, results, window, completed, record⟩
  · obtain ⟨table, unformable⟩ := (s.framed fr).boundary_table
    rw [(s.framed_correlator_counts fr).2.2] at unformable
    refine ⟨_, exec_replyDeadline_boundary fr s at_boundary, ⟨table, unformable⟩, fun empty rate length rings => ?_⟩
    rw [State.framed_boundary_active] at rate length rings
    have plain := s.plain_of_kept rate length rings
    have completes := s.framed_completes_of fr plain empty
    obtain ⟨_, _, _, _, _, absent⟩ := s.framed_boundary_empty fr plain completes
    exact ⟨absent, _, _, s.framed_publishesWithoutPairs fr at_boundary.1 plain completes⟩

end Sys2Proof.Machine
end

section
/-!
PROOFS. A run of the density proxy is reported once (R49 to R51): what a detector makes of the samples before,
inside and after a slug.
-/

namespace Sys2Proof.Machine

open Sys2Proof.Claim

/-! ### Samples one after another -/

theorem detect_cons_nothing (p : Profile) (theta : Nat) (i : Index) (d : Int) (l : List Int) (x y : Detector)
    (h : detectorStep p theta i d x = (y, .nothing)) :
    detect p theta i (d :: l) x = detect p theta (i + 1) l y := by
  simp only [detect, h, if_pos]

theorem detect_cons_reported (p : Profile) (theta : Nat) (i : Index) (d : Int) (l : List Int) (x y : Detector)
    (e : SlugEnd) (h : detectorStep p theta i d x = (y, e)) (reported : e ≠ .nothing) :
    detect p theta i (d :: l) x
      = ((detect p theta (i + 1) l y).1, e :: (detect p theta (i + 1) l y).2) := by
  simp only [detect, h, if_neg reported]

/-- Samples that leave a detector as it is, and report nothing, come before the others without a trace. -/
theorem detect_append_still (p : Profile) (theta : Nat) (x : Detector) (l m : List Int) (i : Index)
    (h : ∀ d ∈ l, ∀ j, detectorStep p theta j d x = (x, .nothing)) :
    detect p theta i (l ++ m) x = detect p theta (i + BitVec.ofNat 32 l.length) m x := by
  induction l generalizing i with
  | nil => simp
  | cons d l ih =>
    rw [List.cons_append, detect_cons_nothing _ _ _ _ _ _ _ (h d List.mem_cons_self i),
      ih _ fun e he => h e (List.mem_cons_of_mem d he), List.length_cons, Nat.add_comm l.length, BitVec.ofNat_add,
      ← BitVec.add_assoc]
    rfl

/-! ### HOLDOFF and ARMED (R49, R51) -/

theorem detectorStep_holdoff_high (p : Profile) (theta : Nat) (i : Index) (d : Int) (h : (theta : Int) ≤ 2 * d) :
    detectorStep p theta i d .holdoff = (.holdoff, .nothing) := if_neg (not_lt.2 h)

theorem detectorStep_holdoff_low (p : Profile) (theta : Nat) (i : Index) (d : Int) (h : 2 * d < theta) :
    detectorStep p theta i d .holdoff = (.armed, .nothing) := if_pos h

theorem detectorStep_armed_low (p : Profile) (theta : Nat) (i : Index) (d : Int) (h : d < theta) :
    detectorStep p theta i d .armed = (.armed, .nothing) := if_neg (not_le.2 h)

theorem detectorStep_armed_high (p : Profile) (theta : Nat) (i : Index) (d : Int) (h : (theta : Int) ≤ d) :
    detectorStep p theta i d .armed = (.inSlug i d.toNat, .nothing) := if_pos h

/-- A detector in HOLDOFF stays there, and reports nothing, until the fall (R51). -/
theorem detect_holdoff (p : Profile) (theta : Nat) (l m : List Int) (i : Index) (h : ∀ d ∈ l, (theta : Int) ≤ 2 * d) :
    detect p theta i (l ++ m) .holdoff = detect p theta (i + BitVec.ofNat 32 l.length) m .holdoff :=
  detect_append_still p theta _ l m i fun d hd j => detectorStep_holdoff_high p theta j d (h d hd)

/-! ### IN_SLUG (R49 to R51) -/

/-- The width of a slug at the sample `k` places after its onset. -/
theorem slug_width (onset : Index) (k : Nat) (h : k ≤ 2048) : (onset + BitVec.ofNat 32 k - onset).toNat = k := by
  rw [add_sub_cancel_left, BitVec.toNat_ofNat]
  omega

section
variable (p : Profile) (theta : Nat) (onset : Index) (peak k : Nat) (d : Int)

theorem detectorStep_inSlug_goes_on (short : p.n ≤ 512) (high : (theta : Int) ≤ 2 * d) (hk : k < 4 * p.n) :
    detectorStep p theta (onset + BitVec.ofNat 32 k) d (.inSlug onset peak)
      = (.inSlug onset (max peak d.toNat), .nothing) := by
  simp only [detectorStep, slug_width onset k (by omega), if_neg (not_lt.2 high), if_neg (not_le.2 hk)]

theorem detectorStep_inSlug_long (short : p.n ≤ 512) (high : (theta : Int) ≤ 2 * d) (hk : k = 4 * p.n) :
    detectorStep p theta (onset + BitVec.ofNat 32 k) d (.inSlug onset peak) = (.holdoff, .long) := by
  simp only [detectorStep, slug_width onset k (by omega), if_neg (not_lt.2 high), if_pos hk.ge]

theorem detectorStep_inSlug_ends (low : 2 * d < theta) (hk : k ≤ 2048) :
    detectorStep p theta (onset + BitVec.ofNat 32 k) d (.inSlug onset peak)
      = (.armed, if p.minWidth ≤ k then .detection onset peak k else .runt) := by
  simp only [detectorStep, slug_width onset k hk, if_pos low]

end

/-- A slug goes on through samples not below half of the threshold, its peak the largest of them (R49). -/
theorem detect_inSlug (p : Profile) (theta : Nat) (onset : Index) (l m : List Int) (peak : Int) (k : Nat)
    (short : p.n ≤ 512) (high : ∀ d ∈ l, (theta : Int) ≤ 2 * d) (hk : k + l.length ≤ 4 * p.n) :
    detect p theta (onset + BitVec.ofNat 32 k) (l ++ m) (.inSlug onset peak.toNat)
      = detect p theta (onset + BitVec.ofNat 32 (k + l.length)) m (.inSlug onset (l.foldl max peak).toNat) := by
  induction l generalizing k peak with
  | nil => rfl
  | cons d l ih =>
    rw [List.length_cons] at hk
    have next : onset + BitVec.ofNat 32 k + 1 = onset + BitVec.ofNat 32 (k + 1) := by
      rw [BitVec.ofNat_add, BitVec.add_assoc]
      rfl
    have raised : max peak.toNat d.toNat = (max peak d).toNat := by omega
    rw [List.cons_append, detect_cons_nothing _ _ _ _ _ _ _
        (detectorStep_inSlug_goes_on p theta onset _ k d short (high d List.mem_cons_self) (by omega)),
      next, raised, ih _ _ (fun e he => high e (List.mem_cons_of_mem d he)) (by omega), List.foldl_cons,
      List.length_cons, Nat.add_assoc, Nat.add_comm 1]

/-- The first sample of a slug, from which it goes on (R49). -/
theorem detect_onset (p : Profile) (theta : Nat) (i : Index) (first : Int) (l m : List Int) (short : p.n ≤ 512)
    (reached : (theta : Int) ≤ first) (high : ∀ d ∈ l, (theta : Int) ≤ 2 * d) (hl : l.length < 4 * p.n) :
    detect p theta i (first :: (l ++ m)) .armed
      = detect p theta (i + BitVec.ofNat 32 (l.length + 1)) m (.inSlug i (l.foldl max first).toNat) := by
  rw [detect_cons_nothing _ _ _ _ _ _ _ (detectorStep_armed_high p theta i first reached), Nat.add_comm l.length]
  exact detect_inSlug p theta i l m first 1 short high (by omega)

/-- Settles O24: a slug goes on up to its fall, which reports it, or up to 4N samples after its onset, which
report it as long; ARMED and HOLDOFF stand still. -/
theorem slugRunReportedOnce : Obligations.SlugRunReportedOnce := by
  unfold Obligations.SlugRunReportedOnce
  intro p theta i first last body positive short reached high
  refine ⟨fun within' fall => ?_, fun beyond => ?_, ?_, fun fall => ?_, fun quiet low => ?_⟩
  · have ends := detectorStep_inSlug_ends p theta i (body.foldl max first).toNat (body.length + 1) last fall (by omega)
    rw [List.cons_append, detect_onset p theta i first body [last] short reached high within',
      detect_cons_reported _ _ _ _ _ _ _ _ ends (by split <;> exact SlugEnd.noConfusion)]
    rfl
  · obtain ⟨l, d, m, rfl, hl⟩ : ∃ l d m, body = l ++ d :: m ∧ l.length + 1 = 4 * p.n := by
      have inside : 4 * p.n - 1 < body.length := by omega
      exact ⟨body.take (4 * p.n - 1), _, body.drop (4 * p.n - 1 + 1),
        by rw [← List.drop_eq_getElem_cons inside, List.take_append_drop], by rw [List.length_take]; omega⟩
    simp only [List.mem_append, List.mem_cons] at high
    have long := detectorStep_inSlug_long p theta i (l.foldl max first).toNat (l.length + 1) d short
      (high d (.inr (.inl rfl))) hl
    have after (j : Index) := detect_holdoff p theta m [] j fun e he => high e (.inr (.inr he))
    simp only [List.append_nil] at after
    rw [detect_onset p theta i first l _ short reached (fun e he => high e (.inl he)) (by omega),
      detect_cons_reported _ _ _ _ _ _ _ _ long SlugEnd.noConfusion, after]
    rfl
  · have still := detect_holdoff p theta body [] i high
    rwa [List.append_nil] at still
  · rw [detect_holdoff p theta body [last] i high,
      detect_cons_nothing _ _ _ _ _ _ _ (detectorStep_holdoff_low p theta _ last fall)]
    rfl
  · have still := detect_append_still p theta .armed quiet [] i fun d hd j =>
      detectorStep_armed_low p theta j d (low d hd)
    rwa [List.append_nil] at still

end Sys2Proof.Machine
end

section
/-!
PROOFS. READ_SLUGS and READ_DEPARTED (R70, R71, R193): blocks of one length at their offsets, and the items of a
slug record and of a departed entry.
-/

namespace Sys2Proof.Machine

open Sys2Proof.Claim

/-! ### Blocks of a list -/

theorem flatMap_length_blocks {α : Type} (f : α → List Byte) (n : Nat) (hf : ∀ x, (f x).length = n) (l : List α) :
    (l.flatMap f).length = n * l.length := by
  simp [List.length_flatMap, hf, Nat.mul_comm]

/-- Blocks of one length, read block by block. -/
theorem at_flatMap_getElem {α : Type} (f : α → List Byte) (n : Nat) (hf : ∀ x, (f x).length = n) (l : List α)
    (i : Nat) (x : α) (hx : l[i]? = some x) {o w : Nat} {y : Int} (h : At (f x) o w y) :
    At (l.flatMap f) (n * i + o) w y := by
  obtain ⟨hi, rfl⟩ := List.getElem?_eq_some_iff.1 hx
  have split : l.flatMap f = (l.take i).flatMap f ++ (f l[i] ++ (l.drop (i + 1)).flatMap f) := by
    rw [← List.flatMap_cons, ← List.flatMap_append, ← List.drop_eq_getElem_cons hi, List.take_append_drop]
  have before : ((l.take i).flatMap f).length = n * i := by
    rw [flatMap_length_blocks f n hf, List.length_take, Nat.min_eq_left hi.le]
  rw [split, ← before]
  exact at_append_right _ (at_append_left _ h)

/-! ### A slug record (R193) -/

/-- An arrival's two items, zeros beyond the arrivals. -/
theorem arrivalBytes_eq (l : List Arrival) (j : Nat) :
    arrivalBytes l j = bytesBE 1 ((l[j]?.map fun a => a.ring.num).getD 0)
      ++ bytesBE 4 ((l[j]?.map fun a => a.onset.toNat).getD 0) := by
  unfold arrivalBytes
  cases l[j]? <;> rfl

theorem arrivalBytes_length (l : List Arrival) (j : Nat) : (arrivalBytes l j).length = 5 := by
  simp [arrivalBytes_eq]

/-- What an arrival slot carries. -/
def CarriesArrival (bytes : List Byte) (o : Nat) (a : Option Arrival) : Prop :=
  (∀ x, a = some x → At bytes o 1 (ringCode x.ring) ∧ At bytes (o + 1) 4 x.onset.toNat)
  ∧ (a = none → At bytes o 5 0)

theorem arrivalBytes_carries (l : List Arrival) (j : Nat) : CarriesArrival (arrivalBytes l j) 0 l[j]? := by
  refine ⟨fun x hx => ?_, fun hn => ?_⟩
  · rw [arrivalBytes_eq, hx, ← Ring.num_eq_ringCode]
    refine ⟨at_bytesBE _ _ _, at_behind _ _ le_rfl ?_⟩
    rw [← List.append_nil (bytesBE 4 _)]
    exact at_bytesBE _ _ _
  · rw [arrivalBytes, hn, replicate_zero_eq, ← List.append_nil (bytesBE 5 0)]
    exact at_bytesBE _ _ _

/-- A slug record's items before its arrivals, in the order of their offsets. -/
theorem SlugRecord.bytes_eq (x : SlugRecord) :
    x.bytes = bytesBE 1 x.tag.toNat ++ (bytesBE 1 x.origin.num ++ (bytesBE 1 x.next.num ++ (bytesBE 1 x.basis.code
      ++ (bytesBE 4 x.onset.toNat ++ (bytesBE 4 x.reference.toNat ++ (bytesBE 4 x.eMin.toNat
      ++ (bytesBE 4 x.eMax.toNat ++ (bytesBE 2 x.peak ++ (bytesBE 2 x.width ++ (bytesBE 1 x.arrivals.length
      ++ [0, 1, 2].flatMap (arrivalBytes x.arrivals))))))))))) := by
  simp only [SlugRecord.bytes, u8, u16, u32, List.append_assoc, List.flatMap_cons, List.flatMap_nil, List.append_nil]

theorem SlugRecord.bytes_length (x : SlugRecord) : x.bytes.length = 40 := by
  simp [SlugRecord.bytes_eq, arrivalBytes_length]

/-- An item of an arrival slot stands at the slot's offset. -/
theorem SlugRecord.bytes_arrival (x : SlugRecord) (j : Nat) (hj : j < 3) {o w : Nat} {y : Int}
    (h : At (arrivalBytes x.arrivals j) o w y) : At x.bytes (25 + 5 * j + o) w y := by
  have slot : [0, 1, 2][j]? = some j := by
    match j with
    | 0 | 1 | 2 => rfl
  have block := at_flatMap_getElem (arrivalBytes x.arrivals) 5 (arrivalBytes_length _) _ j j slot h
  rw [SlugRecord.bytes_eq, Nat.add_assoc]
  repeat refine at_behind _ _ (by omega) ?_
  have offset : 25 + (5 * j + o) - 1 - 1 - 1 - 1 - 4 - 4 - 4 - 4 - 2 - 2 - 1 = 5 * j + o := by omega
  rwa [offset]

/-- The items of a slug record before its arrivals. -/
theorem SlugRecord.bytes_at (x : SlugRecord) :
    At x.bytes 0 1 x.tag.toNat ∧ At x.bytes 1 1 (ringCode x.origin) ∧ At x.bytes 2 1 (ringCode x.next)
    ∧ At x.bytes 3 1 x.basis.code ∧ At x.bytes 4 4 x.onset.toNat ∧ At x.bytes 8 4 x.reference.toNat
    ∧ At x.bytes 12 4 x.eMin.toNat ∧ At x.bytes 16 4 x.eMax.toNat ∧ At x.bytes 20 2 x.peak
    ∧ At x.bytes 22 2 x.width ∧ At x.bytes 24 1 x.arrivals.length := by
  simp only [← Ring.num_eq_ringCode, SlugRecord.bytes_eq]
  refine ⟨at_bytesBE _ _ _, ?_, ?_, ?_, ?_, ?_, ?_, ?_, ?_, ?_, ?_⟩
  all_goals
    repeat refine at_behind _ _ (by decide) ?_
    exact at_bytesBE _ _ _

/-! ### A departed entry (R66) -/

theorem Departed.bytes_eq (x : Departed) :
    x.bytes = bytesBE 1 x.tag.toNat ++ (bytesBE 2 x.peak ++ (bytesBE 2 x.width ++ (bytesBE 4 x.departure.toNat
      ++ (bytesBE 2 x.vs ++ (bytesBE 4 x.predicted.toNat ++ []))))) := by
  simp only [Departed.bytes, u8, u16, u32, List.append_assoc, List.append_nil]

theorem Departed.bytes_length (x : Departed) : x.bytes.length = 15 := by
  simp [Departed.bytes_eq]

theorem Departed.bytes_at (x : Departed) :
    At x.bytes 0 1 x.tag.toNat ∧ At x.bytes 1 2 x.peak ∧ At x.bytes 3 2 x.width ∧ At x.bytes 5 4 x.departure.toNat
    ∧ At x.bytes 9 2 x.vs ∧ At x.bytes 11 4 x.predicted.toNat := by
  simp only [Departed.bytes_eq]
  refine ⟨at_bytesBE _ _ _, ?_, ?_, ?_, ?_, ?_⟩
  all_goals
    repeat refine at_behind _ _ (by decide) ?_
    exact at_bytesBE _ _ _

/-! ### The two payloads -/

/-- The payload of a READ_SLUGS that is answered OK (R70). -/
def slugsPayload (start : Byte) (s : State) : List Byte :=
  bytesBE 1 s.stk.table.length ++ (bytesBE 1 s.stk.tagCounter.toNat ++ (bytesBE 1 start.toNat
    ++ ((s.stk.table.drop start.toNat).take 8).flatMap SlugRecord.bytes))

theorem State.answerSlugs_ok (start : Byte) (s : State) (h : start.toNat ≤ 15) :
    s.answerSlugs start = ⟨.ok, slugsPayload start s, s⟩ := by
  have byte : [start] = bytesBE 1 start.toNat := by simp [bytesBE]
  rw [State.answerSlugs, if_neg (not_lt.2 h), byte, slugsPayload]
  simp only [u8, List.append_assoc]

theorem slugsPayload_length (start : Byte) (s : State) :
    (slugsPayload start s).length = 3 + 40 * min 8 (s.stk.table.length - start.toNat) := by
  simp only [slugsPayload, List.length_append, bytesBE_length,
    flatMap_length_blocks _ 40 SlugRecord.bytes_length, List.length_take, List.length_drop]
  omega

/-- An item of a listed record stands at the offset of its block. -/
theorem slugsPayload_record (start : Byte) (s : State) (i : Nat) (x : SlugRecord) (hi : i < 8)
    (hx : s.stk.table[start.toNat + i]? = some x) {o w : Nat} {y : Int} (h : At x.bytes o w y) :
    At (slugsPayload start s) (3 + 40 * i + o) w y := by
  have listed : ((s.stk.table.drop start.toNat).take 8)[i]? = some x := by
    rw [List.getElem?_take_of_lt hi, List.getElem?_drop, hx]
  have block := at_flatMap_getElem SlugRecord.bytes 40 SlugRecord.bytes_length _ i x listed h
  rw [slugsPayload, Nat.add_assoc]
  repeat refine at_behind _ _ (by omega) ?_
  have offset : 3 + (40 * i + o) - 1 - 1 - 1 = 40 * i + o := by omega
  rwa [offset]

theorem departedPayload_eq (s : State) :
    departedPayload s = bytesBE 1 s.stk.departed.length ++ (bytesBE 4 s.sfe.lastIndex.toNat
      ++ s.stk.departed.flatMap Departed.bytes) := by
  simp only [departedPayload, u8, u32, List.append_assoc]

/-- An item of a departed entry stands at the offset of its block. -/
theorem departedPayload_entry (s : State) (i : Nat) (x : Departed) (hx : s.stk.departed[i]? = some x)
    {o w : Nat} {y : Int} (h : At x.bytes o w y) : At (departedPayload s) (5 + 15 * i + o) w y := by
  have block := at_flatMap_getElem Departed.bytes 15 Departed.bytes_length _ i x hx h
  rw [departedPayload_eq, Nat.add_assoc]
  repeat refine at_behind _ _ (by omega) ?_
  have offset : 5 + (15 * i + o) - 1 - 4 = 15 * i + o := by omega
  rwa [offset]

/-! ### The two requests -/

/-- A request that leaves the blocks alone changes the ports alone. -/
theorem State.answer_onlyPorts (p : Port) (echo : Byte) (h : State → Answer) (s : State) (same : (h s).state = s) :
    OnlyChanges [.mpt] s (s.answer p echo h) := by
  intro b
  cases b <;> simp [Block.Same, State.answer, same]

theorem State.answer_answered (p : Port) (echo : Byte) (h : State → Answer) (s : State) (same : (h s).state = s) :
    Answered p echo (h s).status (h s).payload s (s.answer p echo h) := by
  simp only [Answered, State.answer, same]
  rfl

theorem State.answerSlugs_state (start : Byte) (s : State) : (s.answerSlugs start).state = s := by
  unfold State.answerSlugs
  split <;> rfl

theorem exec_readSlugs (p : Port) (start : Byte) (s : State) (h : Free p s) :
    exec (.readSlugs p start) s = .next (s.answer p 0x12 (State.answerSlugs start)) := by
  show Host.Outcome.next (s.request p 0x12 (State.answerSlugs start)) = _
  rw [State.request_free _ _ _ _ h.1 h.2]

theorem exec_readDeparted (p : Port) (s : State) (h : Free p s) :
    exec (.readDeparted p) s = .next (s.answer p 0x13 (State.report departedPayload)) := by
  show Host.Outcome.next (s.request p 0x13 (State.report departedPayload)) = _
  rw [State.request_free _ _ _ _ h.1 h.2]

/-- Settles O28: the items before the blocks stand in the order of each payload, and those of a record or an entry
at the offset of its block. -/
theorem readSlugsAndDeparted : Obligations.ReadSlugsAndDeparted := by
  unfold Obligations.ReadSlugsAndDeparted
  intro p start s free
  have kept := s.answerSlugs_state start
  have answered := State.answer_answered p 0x12 (State.answerSlugs start) s kept
  refine ⟨fun beyond => ⟨_, exec_readSlugs p start s free, State.answer_onlyPorts _ _ _ s kept, ?_⟩,
    fun within' => ?_, ?_⟩
  · have refused : s.answerSlugs start = ⟨.range, [], s⟩ := if_pos beyond
    rwa [refused] at answered
  · rw [s.answerSlugs_ok start within'] at answered
    refine ⟨_, slugsPayload start s, exec_readSlugs p start s free, State.answer_onlyPorts _ _ _ s kept, answered,
      slugsPayload_length start s, at_bytesBE _ _ _, at_behind _ _ le_rfl (at_bytesBE _ _ _),
      at_behind _ _ (by decide) (at_behind _ _ le_rfl (at_bytesBE _ _ _)), fun i x hi hx => ?_⟩
    have item {o w : Nat} {y : Int} (h : At x.bytes o w y) := slugsPayload_record start s i x hi hx h
    obtain ⟨tag, origin, next, basis, onset, reference, eMin, eMax, peak, width, count⟩ := x.bytes_at
    refine ⟨item tag, item origin, item next, at_congr (item basis) (by cases x.basis <;> rfl), item onset,
      item reference, item eMin, item eMax, item peak, item width, item count, fun j hj => ?_⟩
    obtain ⟨present, absent⟩ := arrivalBytes_carries x.arrivals j
    have slot {o w : Nat} {y : Int} (h : At (arrivalBytes x.arrivals j) o w y) := item (x.bytes_arrival j hj h)
    simp only [← Nat.add_assoc] at slot
    refine ⟨fun a ha => ?_, fun none => slot (absent none)⟩
    obtain ⟨ring, onset⟩ := present a ha
    refine ⟨slot ring, ?_⟩
    have place : 3 + 40 * i + 26 + 5 * j = 3 + 40 * i + 25 + 5 * j + 1 := by omega
    rw [place]
    exact slot onset
  · refine ⟨_, departedPayload s, exec_readDeparted p s free, State.answer_onlyPorts _ _ _ s rfl,
      State.answer_answered _ _ _ s rfl, ?_, ?_, ?_, fun i x hx => ?_⟩
    · simp only [departedPayload_eq, List.length_append, bytesBE_length,
        flatMap_length_blocks _ 15 Departed.bytes_length]
      omega
    · rw [departedPayload_eq]
      exact at_bytesBE _ _ _
    · rw [departedPayload_eq]
      exact at_behind _ _ le_rfl (at_bytesBE _ _ _)
    · have item {o w : Nat} {y : Int} (h : At x.bytes o w y) := departedPayload_entry s i x hx h
      obtain ⟨tag, peak, width, departure, vs, predicted⟩ := x.bytes_at
      exact ⟨item tag, item peak, item width, item departure, item vs, item predicted⟩

end Sys2Proof.Machine
end

section
/-!
PROOFS. What a detection does (R56 to R62, R66, R67): the words of the statements for the chain, for intervals and
for a completion, and then an arrival, a new record and an unmatched detection.
-/

namespace Sys2Proof.Machine

open Sys2Proof.Claim

/-! ### The chain and the intervals in the words of the statements -/

theorem State.nextLive_eq_nextOf (s : State) (r : Ring) : s.nextLive r = nextOf s r := by
  rw [State.nextLive, State.chain, List.find?_filter, nextOf]
  simp only [isLive_eq_live, Bool.decide_and, Bool.decide_eq_true]

theorem State.chain_head?_eq_originOf (s : State) : s.chain.head? = originOf s := by
  rw [State.chain, List.head?_filter, originOf]
  simp only [isLive_eq_live]

theorem SlugRecord.expects_eq (x : SlugRecord) (onset : Index) : x.expects onset = Claim.expects x onset := by
  rw [Bool.eq_iff_iff]
  simp [SlugRecord.expects, Claim.expects, indexAfter, indexBefore, indexDiff]

theorem matchesAt_iff (r : Ring) (onset : Index) (x : SlugRecord) : matchesAt r onset x = true ↔ Matches r onset x := by
  rw [matchesAt, Bool.and_eq_true, decide_eq_true_iff, SlugRecord.expects_eq, Matches]

theorem State.usableVelocity_eq (s : State) : s.usableVelocity = usable s := by
  unfold State.usableVelocity usable State.active
  cases status : s.fsv.record.status <;> simp [status]

/-- The interval of a record aimed at a ring (R59, R60). -/
theorem State.aim_eq_aimed (s : State) (x : SlugRecord) (reference next : Ring) :
    s.aim x reference next = aimed s x reference next := by
  unfold State.aim aimed
  simp only [State.usableVelocity_eq, spacing_eq_gapsBetween]
  cases usable s <;> rfl

/-! ### A completion (R62, R66, R67) -/

theorem OnlyTracks.onlyChanges {s t : State} (h : OnlyTracks s t) : OnlyChanges [.stk, .efu, .cap] s t := by
  obtain ⟨_, _, _, rfl⟩ := h
  intro b
  cases b <;> simp [Block.Same]

/-- The sums and counters of a completion with a positive transit, a departure beside. -/
theorem State.completeSlug_eq (x : SlugRecord) (s : State) (a : Arrival) (last : x.arrivals.getLast? = some a) :
    s.completeSlug x
      = let dist := spacing s.active x.origin a.ring
        let transit := indexDiff a.onset x.onset
        let vs := slugVelocity dist s.active.fs transit.toNat
        if 0 < transit then
          if 0 < vs ∧ 0 < s.active.stationDistance then (s.timeSlug dist transit.toNat).depart x a.onset vs
          else s.timeSlug dist transit.toNat
        else s.count fun c => { c with slugsCompleted := satAdd c.slugsCompleted 1 } := by
  rw [State.completeSlug, last]
  rfl

/-- The list, the counter, the event and the capture of a departure (R66, R67, R171). -/
theorem State.depart_does (x : SlugRecord) (last : Index) (vs : Nat) (s : State) :
    let full := decide (Config.departedCapacity ≤ s.stk.departed.length)
    let t := s.depart x last vs
    t.stk = { s.stk with departed := (if full then s.stk.departed.drop 1 else s.stk.departed)
      ++ [⟨x.tag, x.peak, x.width, last, vs, indexAdd last (departOffset s.active vs)⟩] }
    ∧ t.efu.stats = { s.efu.stats with
        departedDropped := satAdd s.efu.stats.departedDropped (if full then 1 else 0) }
    ∧ Posted [.slugDeparted] s t
    ∧ (s.cap.waitsFor .slugDeparted = true → Triggered s t)
    ∧ (s.cap.waitsFor .slugDeparted = false → t.cap = s.cap) := by
  refine ⟨State.post_stk _ _, State.post_stats _ _, ?_, fun waits => ?_, fun waits => ?_⟩
  · exact State.post_posted .slugDeparted _
  · refine triggered_of_cap (State.post_triggered .slugDeparted _ ?_).1 rfl
    exact waits
  · exact State.post_cap .slugDeparted _ waits

/-- A record with an arrival completes as R62, R66 and R67 say. -/
theorem State.completeSlug_completes (x : SlugRecord) (s : State) : Completes x s (s.completeSlug x) := by
  have work := s.completeSlug_work x
  refine ⟨work.blocks.onlyChanges, work.faults, work.full, fun a last => ?_⟩
  have eq := s.completeSlug_eq x a last
  simp only [spacing_eq_gapsBetween, slugVelocity, roundDiv_eq_round, State.active, indexDiff] at eq
  generalize s.completeSlug x = t at eq
  intro p dist transit vs departs timed counted
  simp only [plus_eq_satAdd, armedOn_iff] at counted ⊢
  by_cases positive : 0 < transit
  · rw [if_pos positive] at eq
    by_cases leaves : 0 < vs ∧ 0 < p.stationDistance
    · rw [if_pos leaves] at eq
      have departing : departs := ⟨positive, leaves⟩
      obtain ⟨stk, stats, posted, triggers, stands⟩ := (s.timeSlug dist transit.toNat).depart_does x a.onset vs
      rw [← show t = _ from eq] at stk stats posted triggers stands
      refine ⟨fun h => absurd positive (not_lt.2 h), fun _ h => absurd departing h, fun _ => ⟨?_, ?_, posted, ?_⟩,
        fun h => absurd departing h, fun h => ?_⟩
      · rw [stk]
        simp only [departOffset, roundDiv_eq_round, decide_eq_true_eq]
        rfl
      · rw [stats]
        simp only [decide_eq_true_eq]
        rfl
      · exact triggers
      · exact stands (Bool.eq_false_iff.2 fun waits => h ⟨departing, waits⟩)
    · rw [if_neg leaves] at eq
      have stays : ¬ departs := fun h => leaves h.2
      subst eq
      exact ⟨fun h => absurd positive (not_lt.2 h), fun _ _ => ⟨rfl, rfl⟩, fun h => absurd h stays, fun _ => rfl,
        fun _ => rfl⟩
  · rw [if_neg positive] at eq
    have stays : ¬ departs := fun h => positive h.1
    subst eq
    exact ⟨fun _ => ⟨rfl, rfl⟩, fun h => absurd h positive, fun h => absurd h stays, fun _ => rfl, fun _ => rfl⟩

/-! ### An arrival (R56, R61) -/

theorem find?_first {α : Type} (q : α → Bool) (before after : List α) (x : α) (hx : q x = true)
    (first : ∀ y ∈ before, q y = false) : (before ++ x :: after).find? q = some x := by
  rw [List.find?_append, List.find?_eq_none.2 fun y hy => by simp [first y hy], Option.none_or,
    List.find?_cons_of_pos hx]

theorem updateFirst_first (q : SlugRecord → Bool) (f : SlugRecord → List SlugRecord) (before after : List SlugRecord)
    (x : SlugRecord) (hx : q x = true) (first : ∀ y ∈ before, q y = false) :
    updateFirst q f (before ++ x :: after) = before ++ (f x ++ after) := by
  induction before with
  | nil => simp [updateFirst, hx]
  | cons y l ih =>
    rw [List.cons_append, updateFirst, if_neg (by simp [first y List.mem_cons_self]),
      ih fun z hz => first z (List.mem_cons_of_mem y hz)]
    rfl

/-! ### A new record (R57, R58) -/

/-- A record is placed behind every record whose onset is not after its own (R58). -/
theorem insertRecord_splits (x : SlugRecord) (l : List SlugRecord) :
    ∃ before after, insertRecord x l = before ++ x :: after ∧ before ++ after = l
      ∧ (∀ y ∈ before, (y.onset - x.onset).toInt ≤ 0)
      ∧ ∀ y, after.head? = some y → 0 < (y.onset - x.onset).toInt := by
  induction l with
  | nil => exact ⟨[], [], rfl, rfl, by simp, by simp⟩
  | cons y l ih =>
    by_cases later : indexAfter y.onset x.onset = true
    · refine ⟨[], y :: l, by rw [insertRecord, if_pos later]; rfl, rfl, by simp, fun z hz => ?_⟩
      obtain rfl : y = z := by simpa using hz
      simpa [indexAfter, indexDiff] using later
    · obtain ⟨before, after, inserted, rest, sorted, next⟩ := ih
      refine ⟨y :: before, after, by rw [insertRecord, if_neg later, inserted]; rfl, by rw [← rest]; rfl,
        fun z hz => ?_, next⟩
      rcases List.mem_cons.1 hz with rfl | hz
      · simpa [indexAfter, indexDiff] using later
      · exact sorted z hz

/-- The free tag of a table that is not full, and the held ones below it (R58). -/
theorem freeTag_first (l : List SlugRecord) (tag : BitVec 8) (short : l.length < 256) :
    (∀ y ∈ l, y.tag ≠ freeTag l 256 tag)
    ∧ ∀ k, k < (freeTag l 256 tag - tag).toNat → ∃ y ∈ l, y.tag = tag + BitVec.ofNat 8 k := by
  have free := freeTag_not_mem l tag short
  obtain ⟨m, hm, found, held, _⟩ := freeTag_spec l 256 tag
  refine ⟨fun y hy same => free (same ▸ List.mem_map_of_mem hy), fun k hk => ?_⟩
  rw [found, add_sub_cancel_left, BitVec.toNat_ofNat] at hk
  have below : k < m := hk.trans_le (Nat.mod_le _ _)
  exact List.mem_map.1 (held k below)

/-! ### The cases of a detection (R56) -/

/-- The first record that a test takes moves on, or leaves the table and completes (R61). -/
theorem State.arrive_first (q : SlugRecord → Bool) (x : SlugRecord) (r : Ring) (onset : Index) (s : State)
    (before after : List SlugRecord) (table : s.stk.table = before ++ x :: after) (hx : q x = true)
    (first : ∀ y ∈ before, q y = false) :
    let x' := { x with arrivals := x.arrivals ++ [⟨r, onset⟩], reference := onset }
    (∀ next, s.nextLive r = some next → s.arrive q x r onset
      = s.setStk { s.stk with table := before ++ s.aim x' r next :: after })
    ∧ (s.nextLive r = none → s.arrive q x r onset
      = (s.setStk { s.stk with table := before ++ after }).completeSlug x') := by
  have updated (f : SlugRecord → List SlugRecord) : updateFirst q f s.stk.table = before ++ (f x ++ after) := by
    rw [table, updateFirst_first q f before after x hx first]
  unfold State.arrive
  simp only [updated]
  refine ⟨fun next live => ?_, fun live => ?_⟩ <;> rw [live] <;> rfl

/-- A detection that a record expects (R56, R61). -/
theorem State.detection_matched (r : Ring) (onset : Index) (peak width : Nat) (s : State)
    (before after : List SlugRecord) (x : SlugRecord) (table : s.stk.table = before ++ x :: after)
    (hx : Matches r onset x) (first : ∀ y ∈ before, ¬ Matches r onset y) :
    let seen := s.mapTrack r fun x => { x with detected := true }
    let x' := { x with arrivals := x.arrivals ++ [⟨r, onset⟩], reference := onset }
    (∀ next, s.nextLive r = some next → s.detection r onset peak width
      = seen.setStk { seen.stk with table := before ++ s.aim x' r next :: after })
    ∧ (s.nextLive r = none → s.detection r onset peak width
      = (seen.setStk { seen.stk with table := before ++ after }).completeSlug x') := by
  have here := (matchesAt_iff r onset x).2 hx
  have earlier (y : SlugRecord) (hy : y ∈ before) : matchesAt r onset y = false :=
    Bool.eq_false_iff.2 fun h => first y hy ((matchesAt_iff r onset y).1 h)
  rcases s.detection_cases r onset peak width with ⟨y, found, eq⟩ | ⟨none, _⟩
  · rw [table, find?_first _ _ _ x here earlier] at found
    obtain rfl : x = y := Option.some.inj found
    rw [eq]
    exact State.arrive_first (matchesAt r onset) x r onset (s.mapTrack r _) before after table here earlier
  · rw [table, find?_first _ _ _ x here earlier] at none
    exact absurd none (by simp)

/-- A detection that no record expects (R56, R58). -/
theorem State.detection_unmatched (r : Ring) (onset : Index) (peak width : Nat) (s : State)
    (none : ∀ x ∈ s.stk.table, ¬ Matches r onset x) :
    let seen := s.mapTrack r fun x => { x with detected := true }
    (originOf s = some r → s.nextLive r = Option.none → s.detection r onset peak width = seen)
    ∧ (originOf s ≠ some r → s.detection r onset peak width
        = (seen.count fun c => { c with unmatched := satAdd c.unmatched 1 }).charge r)
    ∧ ∀ next, originOf s = some r → s.nextLive r = some next →
        s.detection r onset peak width = seen.createRecord r next onset peak width := by
  have missed : s.stk.table.find? (matchesAt r onset) = Option.none :=
    List.find?_eq_none.2 fun x hx h => none x hx ((matchesAt_iff r onset x).1 h)
  intro seen
  simp only [← State.chain_head?_eq_originOf]
  rcases s.detection_cases r onset peak width with
    ⟨x, found, _⟩ | ⟨_, ⟨head, ⟨next, live, eq⟩ | ⟨dead, eq⟩⟩ | ⟨other, eq⟩⟩
  · exact absurd (missed.symm.trans found) (by simp)
  · refine ⟨fun _ dead => absurd (dead.symm.trans live) (by simp), fun h => absurd head h, fun n _ hn => ?_⟩
    obtain rfl : next = n := Option.some.inj (live.symm.trans hn)
    exact eq
  · exact ⟨fun _ _ => eq, fun h => absurd head h, fun n _ hn => absurd (dead.symm.trans hn) (by simp)⟩
  · exact ⟨fun h => absurd h other, fun _ => eq, fun n h => absurd h other⟩

/-- A record that is made: its place in the table and its tag (R57, R58). -/
theorem State.createRecord_places (r next : Ring) (onset : Index) (peak width : Nat) (s : State)
    (short : s.stk.table.length ≤ 16) :
    let full := decide (16 ≤ s.stk.table.length)
    let kept := if full then s.stk.table.drop 1 else s.stk.table
    ∃ tag before after,
      s.createRecord r next onset peak width
        = (s.setStk { s.stk with
            table := before ++ s.aim ⟨tag, r, onset, peak, width, next, onset, .range, onset, onset, []⟩ r next :: after
            tagCounter := tag }).count (fun c => { c with
              evicted := satAdd c.evicted (if full then 1 else 0), slugsCreated := satAdd c.slugsCreated 1 })
      ∧ before ++ after = kept
      ∧ (∀ y ∈ before, (y.onset - onset).toInt ≤ 0)
      ∧ (∀ y, after.head? = some y → 0 < (y.onset - onset).toInt)
      ∧ (∀ y ∈ kept, y.tag ≠ tag)
      ∧ ∀ k, k < (tag - (s.stk.tagCounter + 1)).toNat →
        ∃ y ∈ kept, y.tag = s.stk.tagCounter + 1 + BitVec.ofNat 8 k := by
  intro full kept
  have length : kept.length ≤ 16 := by
    show (if full then s.stk.table.drop 1 else s.stk.table).length ≤ 16
    split
    · rw [List.length_drop]
      omega
    · exact short
  obtain ⟨fresh, lower⟩ := freeTag_first kept (s.stk.tagCounter + 1) (by omega)
  generalize tagged : freeTag kept 256 (s.stk.tagCounter + 1) = tag at fresh lower
  obtain ⟨before, after, inserted, rest, sorted, behind⟩ := insertRecord_splits
    (s.aim ⟨tag, r, onset, peak, width, next, onset, .range, onset, onset, []⟩ r next) kept
  have placed : (s.aim ⟨tag, r, onset, peak, width, next, onset, .range, onset, onset, []⟩ r next).onset = onset := by
    unfold State.aim
    simp only
    split <;> rfl
  rw [placed] at sorted behind
  refine ⟨tag, before, after, ?_, rest, sorted, behind, fresh, lower⟩
  subst tagged
  rw [← inserted]
  rfl

/-- Settles O26: the first record that expects a detection takes it; one that no record expects makes a record,
is let pass, or is charged. -/
theorem detectionHandled : Obligations.DetectionHandled := by
  unfold Obligations.DetectionHandled
  intro r onset peak width s t seen
  have marked : s.mapTrack r (fun x => { x with detected := true }) = seen := rfl
  refine ⟨fun before x after table hx first => ?_, fun none => ?_⟩
  · intro x'
    obtain ⟨aims, completes⟩ := s.detection_matched r onset peak width before after x table hx first
    refine ⟨fun next live => ?_, fun live => ?_⟩
    · rw [← State.nextLive_eq_nextOf] at live
      exact (aims next live).trans (by rw [State.aim_eq_aimed]; rfl)
    · rw [← State.nextLive_eq_nextOf] at live
      rw [show t = _ from completes live]
      exact State.completeSlug_completes x' _
  · obtain ⟨passes, charges, creates⟩ := s.detection_unmatched r onset peak width none
    rw [marked] at passes charges creates
    simp only [← State.nextLive_eq_nextOf, plus_eq_satAdd]
    refine ⟨passes, fun other => ?_, fun next origin live fits => ?_⟩
    · have charged : t.stk.rings = s.stk.rings.set r { s.stk.rings.get r with
          detected := true, charges := min ((s.stk.rings.get r).charges + 1) 65535 } := by
        rw [show t = _ from charges other]
        simp [State.charge, State.mapTrack, seen]
      rw [← charged, show t = _ from charges other]
      exact ⟨rfl, rfl⟩
    · obtain ⟨tag, before, after, eq, places⟩ := seen.createRecord_places r next onset peak width fits.1
      refine ⟨tag, before, after, ?_, ?_⟩
      · rw [show t = _ from creates next origin live, eq]
        simp only [State.aim_eq_aimed, decide_eq_true_eq]
        rfl
      · simpa only [decide_eq_true_eq] using places

end Sys2Proof.Machine
end

section
/-!
SUPPORT. The tracker's boundary work in one equation (R52, R63, R64): the records that complete do so on the state
as it was, since what the stale sweep changes - the table, the charges, the armed detectors and the count of stale
records - is nothing that a completion reads.
-/

namespace Sys2Proof.Machine

open Sys2Proof.Claim

/-! ### Charges and the count of stale records (R54, R63) -/

/-- A ring is charged once (R54). -/
def chargeRing (r : Ring) (q : PerRing RingTrack) : PerRing RingTrack :=
  q.set r { q.get r with charges := min ((q.get r).charges + 1) 65535 }

/-- Every record of a list is charged to its origin. -/
def chargeAll (d : List SlugRecord) (q : PerRing RingTrack) : PerRing RingTrack :=
  d.foldl (fun q x => chargeRing x.origin q) q

/-- A ring's charges after `k` more. -/
def charged (k c : Nat) : Nat := if k = 0 then c else min (c + k) 65535

theorem charged_succ (k c : Nat) : charged k (min (c + 1) 65535) = charged (k + 1) c := by
  unfold charged
  rw [if_neg k.succ_ne_zero]
  split <;> omega

theorem chargeAll_get (d : List SlugRecord) (q : PerRing RingTrack) (r : Ring) :
    (chargeAll d q).get r
      = { q.get r with charges := charged (d.countP fun z => decide (z.origin = r)) (q.get r).charges } := by
  induction d generalizing q with
  | nil => rfl
  | cons x d ih =>
    have first : (chargeAll (x :: d) q) = chargeAll d (chargeRing x.origin q) := rfl
    rw [first, ih, chargeRing, PerRing.get_set]
    by_cases here : x.origin = r
    · subst here
      simp [charged_succ]
    · simp [here, Ne.symm here]

theorem satAdd_bump (k c : Nat) : satAdd (bump k c) 1 = bump (k + 1) c := by
  simp only [bump, plus_eq_satAdd, satAdd, Config.counterMax]
  rw [if_neg k.succ_ne_zero]
  split <;> omega

/-! ### A state swept -/

/-- The state with the detectors of the FAILED rings ARMED, another table, and the records `d` counted stale and
charged (R52, R63). -/
def State.swept (health : Ring → Health) (table d : List SlugRecord) (u : State) : State :=
  (u.setStk { u.stk with
    rings := chargeAll d (u.stk.rings.map fun r x => if health r = .failed then { x with detector := .armed } else x)
    table := table }).count fun c => { c with stale := bump d.length c.stale }

section
variable (health : Ring → Health) (table d : List SlugRecord) (u : State)

theorem State.dropStale_swept (x : SlugRecord) :
    (u.swept health table d).dropStale x = u.swept health table (d ++ [x]) := by
  have once : bump (d ++ [x]).length u.efu.stats.stale = satAdd (bump d.length u.efu.stats.stale) 1 := by
    rw [List.length_append, satAdd_bump]
    rfl
  have twice (q : PerRing RingTrack) : chargeAll (d ++ [x]) q = chargeRing x.origin (chargeAll d q) := by
    rw [chargeAll, List.foldl_append]
    rfl
  unfold State.swept
  rw [twice]
  simp only [State.count, State.setStk, State.setEfu, once]
  rfl

theorem State.foldl_dropStale_swept (l : List SlugRecord) :
    l.foldl (fun s x => s.dropStale x) (u.swept health table d) = u.swept health table (d ++ l) := by
  induction l generalizing d with
  | nil => rw [List.append_nil]; rfl
  | cons x l ih => rw [List.foldl_cons, State.dropStale_swept, ih, List.append_assoc]; rfl

/-! ### A completion passes a sweep -/

theorem State.postCaptureDone_swept :
    (u.swept health table d).postCaptureDone = u.postCaptureDone.swept health table d := by
  have owner : (u.swept health table d).cap.owner = u.cap.owner := rfl
  unfold State.postCaptureDone
  rw [owner]
  cases u.cap.owner <;> rfl

theorem State.completeEmpty_swept :
    (u.swept health table d).completeEmpty = u.completeEmpty.swept health table d :=
  State.postCaptureDone_swept health table d (u.setCap _)

theorem State.triggerCapture_swept :
    (u.swept health table d).triggerCapture = u.triggerCapture.swept health table d := by
  have content : (u.swept health table d).cap.content = u.cap.content := rfl
  have active : (u.swept health table d).active = u.active := rfl
  unfold State.triggerCapture
  rw [content, active]
  rcases u.cap.content with _ | r | k
  · rfl
  · simp only
    split
    · rfl
    · exact State.completeEmpty_swept health table d (u.setCap _)
  · rfl

theorem State.post_swept (k : EventKind) :
    (u.swept health table d).post k = (u.post k).swept health table d := by
  have waits : (u.swept health table d).cap.waitsFor k = u.cap.waitsFor k := rfl
  rw [State.post_eq, State.post_eq, waits]
  split
  · exact State.triggerCapture_swept health table d (u.addKind k)
  · rfl

theorem State.depart_swept (x : SlugRecord) (last : Index) (vs : Nat) :
    (u.swept health table d).depart x last vs = (u.depart x last vs).swept health table d := by
  unfold State.depart
  simp only
  rw [← State.post_swept]
  rfl

/-- What a completion reads, a sweep leaves (R62, R66). -/
theorem State.completeSlug_swept (x : SlugRecord) :
    (u.swept health table d).completeSlug x = (u.completeSlug x).swept health table d := by
  cases last : x.arrivals.getLast? with
  | none => simp only [State.completeSlug, last]
  | some a =>
    have active : (u.swept health table d).active = u.active := rfl
    rw [State.completeSlug_eq x _ a last, State.completeSlug_eq x _ a last, active]
    simp only
    split
    · split
      · exact State.depart_swept health table d (u.timeSlug _ _) x _ _
      · rfl
    · rfl

end

/-! ### The re-aiming in table order (R64) -/

/-- A record leaves the table at a boundary: stale without an arrival, complete with one (R64). -/
def State.remove (x : SlugRecord) (u : State) : State :=
  if x.arrivals.isEmpty then u.dropStale x else u.completeSlug x

/-- A record after the re-aiming, where it stays (R64). -/
def State.reAimed (s : State) (x : SlugRecord) : Option SlugRecord :=
  if s.health x.next = .failed then (s.nextLive x.next).map (s.aim x x.refRing) else some x

/-- A record aimed at a FAILED ring with no live one past it (R64). -/
def State.isCut (s : State) (x : SlugRecord) : Bool :=
  decide (s.health x.next = .failed) && (s.nextLive x.next).isNone

theorem State.remove_onlyTracks (x : SlugRecord) (u : State) : OnlyTracks u (u.remove x) := by
  unfold State.remove
  split
  · exact State.dropStale_onlyTracks x u
  · exact State.completeSlug_onlyTracks x u

/-- The tracker's work changes nothing that the re-aiming goes by. -/
theorem reAimList_eq (s : State) (l : List SlugRecord) (u : State) (h : OnlyTracks s u) :
    reAimList l u = (l.filterMap s.reAimed, (l.filter s.isCut).foldl (fun u x => u.remove x) u) := by
  induction l generalizing u with
  | nil => rfl
  | cons x l ih =>
    have rest (v : State) (hv : OnlyTracks u v) := ih v (h.trans hv)
    have here := rest u (.refl u)
    obtain ⟨health, next, aim⟩ : u.health = s.health ∧ u.nextLive = s.nextLive ∧ u.aim = s.aim := by
      obtain ⟨_, _, _, rfl⟩ := h
      exact ⟨rfl, rfl, rfl⟩
    unfold reAimList
    rw [health, next, aim]
    by_cases failed : s.health x.next = .failed
    · rw [if_pos failed]
      cases live : s.nextLive x.next with
      | some n =>
        have kept : s.isCut x = false := by simp [State.isCut, live]
        have aimed : s.reAimed x = some (s.aim x x.refRing n) := by rw [State.reAimed, if_pos failed, live]; rfl
        simp only [here, List.filterMap_cons_some aimed, List.filter_cons_of_neg (ne_true_of_eq_false kept)]
      | none =>
        have cut : s.isCut x = true := by simp [State.isCut, failed, live]
        have gone : s.reAimed x = none := by rw [State.reAimed, if_pos failed, live]; rfl
        have removed := rest (u.remove x) (u.remove_onlyTracks x)
        simp only [List.filterMap_cons_none gone, List.filter_cons_of_pos cut, List.foldl_cons]
        rw [← removed, State.remove]
        split <;> rfl
    · have kept : s.isCut x = false := by simp [State.isCut, failed]
      have stays : s.reAimed x = some x := if_neg failed
      simp only [if_neg failed, here, List.filterMap_cons_some stays,
        List.filter_cons_of_neg (ne_true_of_eq_false kept)]

/-- Records leave a swept state: those with an arrival complete, the others are swept too. -/
theorem State.foldl_remove_swept (health : Ring → Health) (table d l : List SlugRecord) (u : State) :
    l.foldl (fun u x => u.remove x) (u.swept health table d)
      = ((l.filter fun x => !x.arrivals.isEmpty).foldl (fun u x => u.completeSlug x) u).swept health table
        (d ++ l.filter fun x => x.arrivals.isEmpty) := by
  induction l generalizing d u with
  | nil => rw [List.filter_nil, List.append_nil]; rfl
  | cons x l ih =>
    rw [List.foldl_cons, State.remove]
    simp only [List.filter_cons]
    cases x.arrivals.isEmpty with
    | true =>
      rw [if_pos rfl, State.dropStale_swept, ih, List.append_assoc]
      rfl
    | false =>
      rw [if_neg Bool.false_ne_true, State.completeSlug_swept, ih]
      rfl

/-! ### The boundary -/

/-- A record is stale at a boundary, the detectors of FAILED rings ARMED before (R52, R63). -/
def State.staleAtBoundary (s : State) (x : SlugRecord) : Bool := s.armFailed.isStale s.sfe.lastIndex x

/-- The records that the stale sweep leaves (R63). -/
def State.leftRecords (s : State) : List SlugRecord := s.stk.table.filter fun x => !s.staleAtBoundary x

/-- Those of them that leave the table since no live ring is past theirs (R64). -/
def State.cutRecords (s : State) : List SlugRecord := s.leftRecords.filter s.isCut

/-- The records that are counted stale (R63, R64). -/
def State.droppedRecords (s : State) : List SlugRecord :=
  s.stk.table.filter s.staleAtBoundary ++ s.cutRecords.filter fun x => x.arrivals.isEmpty

/-- The records that complete, completed one after another (R62, R64). -/
def State.cutCompleted (s : State) : State :=
  (s.cutRecords.filter fun x => !x.arrivals.isEmpty).foldl (fun u x => u.completeSlug x) s

/-- The tracker's work at a boundary: the completions on the state as it was, the sweep over them, and then the
thresholds, the departed entries of the past and the occupancy (R55, R63, R68). -/
theorem State.trackerBoundary_eq_swept (changed : Bool) (s : State) :
    s.trackerBoundary changed
      = (((s.cutCompleted.swept s.health (s.leftRecords.filterMap s.reAimed) s.droppedRecords).adjustThresholds
          changed).expireDeparted s.sfe.lastIndex).addOccupancy := by
  have swept : s.armFailed.staleSweep s.sfe.lastIndex
      = s.swept s.health s.leftRecords (s.stk.table.filter s.staleAtBoundary) :=
    State.foldl_dropStale_swept s.health s.leftRecords [] s (s.stk.table.filter s.staleAtBoundary)
  have reaimed : (s.armFailed.staleSweep s.sfe.lastIndex).reAim
      = s.cutCompleted.swept s.health (s.leftRecords.filterMap s.reAimed) s.droppedRecords := by
    have list := reAimList_eq s s.leftRecords (s.swept s.health s.leftRecords (s.stk.table.filter s.staleAtBoundary))
      ⟨_, _, s.cap, rfl⟩
    rw [State.foldl_remove_swept] at list
    have table : (s.swept s.health s.leftRecords (s.stk.table.filter s.staleAtBoundary)).stk.table
      = s.leftRecords := rfl
    rw [swept, State.reAim]
    simp only [table, list]
    rfl
  rw [State.trackerBoundary, reaimed]

end Sys2Proof.Machine
end

section
/-!
SUPPORT. The tracker's boundary work read off, item by item (R52, R54, R55, R63, R64, R68).
-/

namespace Sys2Proof.Machine

open Sys2Proof.Claim

/-! ### What completions leave -/

/-- The counters of what a frame's samples bring: runts, long slugs, unmatched detections, evictions and records. -/
def Stats.made (c : Stats) : List Nat := [c.runts, c.long, c.unmatched, c.evicted, c.slugsCreated]

/-- A change that completions of slugs may make. -/
structure Completing (s u : State) : Prop where
  work : SlugWork s u
  rings : u.stk.rings = s.stk.rings
  tagCounter : u.stk.tagCounter = s.stk.tagCounter
  stale : u.efu.stats.stale = s.efu.stats.stale
  occupancy : u.efu.stats.occupancy = s.efu.stats.occupancy
  made : u.efu.stats.made = s.efu.stats.made

theorem Completing.refl (s : State) : Completing s s := ⟨.refl s, rfl, rfl, rfl, rfl, rfl⟩

theorem Completing.trans {s t u : State} (h : Completing s t) (g : Completing t u) : Completing s u :=
  ⟨h.work.trans g.work, g.rings.trans h.rings, g.tagCounter.trans h.tagCounter, g.stale.trans h.stale,
    g.occupancy.trans h.occupancy, g.made.trans h.made⟩

theorem State.completeSlug_completing (x : SlugRecord) (s : State) : Completing s (s.completeSlug x) := by
  refine ⟨s.completeSlug_work x, s.completeSlug_rings x, ?_, ?_, ?_, ?_⟩ <;>
    rcases s.completeSlug_cases x with h | h | ⟨_, _, h | ⟨_, _, h⟩⟩ <;> rw [h] <;>
      simp [State.depart, State.timeSlug, Stats.made]

theorem State.cutCompleted_completing (s : State) : Completing s s.cutCompleted :=
  foldl_keeps Completing.refl Completing.trans (fun s x => s.completeSlug_completing x) _ s

/-! ### The boundary, item by item -/

/-- A ring's items after the sweep: its detector ARMED where it is FAILED, and charged for the records dropped. -/
def State.sweptTrack (s : State) (r : Ring) : RingTrack :=
  { s.stk.rings.get r with
    detector := if s.health r = .failed then .armed else (s.stk.rings.get r).detector
    charges := charged (s.droppedRecords.countP fun z => decide (z.origin = r)) (s.stk.rings.get r).charges }

/-- What the tracker's work at a boundary leaves, beside the completions. -/
structure TrackerWorked (changed : Bool) (s t : State) : Prop where
  tagCounter : t.stk.tagCounter = s.stk.tagCounter
  table : t.stk.table = s.leftRecords.filterMap s.reAimed
  sumDistance : t.stk.sumDistance = s.cutCompleted.stk.sumDistance
  sumTransit : t.stk.sumTransit = s.cutCompleted.stk.sumTransit
  sumCount : t.stk.sumCount = s.cutCompleted.stk.sumCount
  departed : t.stk.departed = s.cutCompleted.stk.departed.filter fun e => !indexBefore e.predicted s.sfe.lastIndex
  cap : t.cap = s.cutCompleted.cap
  ports : t.efu.ports = s.cutCompleted.efu.ports
  faults : t.efu.faults = s.efu.faults
  full : t.efu.full = s.efu.full
  stats : t.efu.stats = { s.cutCompleted.efu.stats with
    stale := bump s.droppedRecords.length s.efu.stats.stale
    occupancy := satAdd s.efu.stats.occupancy t.stk.table.length }
  ring : ∀ r, t.stk.rings.get r = if isConfigured s.active r then
    (s.sweptTrack r).boundary s.active (s.health r == .failed) changed else s.sweptTrack r

theorem State.trackerBoundary_worked (changed : Bool) (s : State) :
    TrackerWorked changed s (s.trackerBoundary changed) := by
  obtain ⟨work, rings, tag, stale, occupancy, _⟩ := s.cutCompleted_completing
  rw [State.trackerBoundary_eq_swept]
  constructor
  case tagCounter => exact tag
  case faults => exact work.faults
  case full => exact work.full
  case stats =>
    rw [← stale, ← occupancy]
    rfl
  case ring =>
    intro r
    obtain ⟨_, _, _, only⟩ := work.blocks
    have active : s.cutCompleted.active = s.active := by rw [only]; rfl
    have health : s.cutCompleted.health r = s.health r := by rw [only]; rfl
    have swept : ((s.cutCompleted.swept s.health (s.leftRecords.filterMap s.reAimed)
        s.droppedRecords).stk.rings.get r) = s.sweptTrack r := by
      show (chargeAll s.droppedRecords (s.cutCompleted.stk.rings.map _)).get r = _
      rw [chargeAll_get, PerRing.get_map, rings, State.sweptTrack]
      split <;> rfl
    rw [← active, ← health, ← swept]
    exact PerRing.get_map _ _ r
  all_goals rfl

/-! ### A ring at a boundary (R54, R55) -/

/-- The moved threshold of a ring, before it is clamped (R55). -/
def movedTheta (p : Profile) (charges quiet theta : Nat) : Int :=
  if 2 ≤ charges then theta + p.thetaStep else if quiet = 4 then theta - p.thetaStep else theta

theorem adjustTheta_eq (p : Profile) (charges quiet theta : Nat) :
    (adjustTheta p charges quiet theta : Int)
      = max (p.thetaMin : Int) (min (p.thetaMax : Int) (movedTheta p charges quiet theta)) := by
  unfold adjustTheta movedTheta
  simp only
  split_ifs <;> omega

/-- The saturation of the charges is beyond what the threshold goes by (R54, R55). -/
theorem two_le_charged (k c : Nat) : 2 ≤ charged k c ↔ 2 ≤ c + k := by
  unfold charged
  split <;> omega

/-- A ring's items after the tracker's boundary work (R52, R54, R55). -/
theorem TrackerWorked.ring_moves {changed : Bool} {s t : State} (h : TrackerWorked changed s t) (r : Ring) :
    let p := s.active
    let x := s.stk.rings.get r
    let y := t.stk.rings.get r
    let charges := x.charges + s.droppedRecords.countP fun z => decide (z.origin = r)
    let quiet := if x.detected then 0 else min (x.quiet + 1) 4
    y.detector = (if s.health r = .failed then .armed else x.detector)
    ∧ (isConfigured p r = true → y.charges = 0 ∧ y.detected = false)
    ∧ (isConfigured p r = true → s.health r ≠ .failed → y.quiet = quiet
      ∧ (y.theta : Int) = max (p.thetaMin : Int) (min (p.thetaMax : Int) (movedTheta p charges quiet x.theta)))
    ∧ (isConfigured p r = true → s.health r = .failed → y.quiet = x.quiet
      ∧ y.theta = if changed then max p.thetaMin (min p.thetaMax x.theta) else x.theta)
    ∧ (isConfigured p r = false → y.quiet = x.quiet ∧ y.theta = x.theta) := by
  intro p x y charges quiet
  have ring : y = _ := h.ring r
  by_cases on : isConfigured s.active r = true
  · rw [if_pos on, RingTrack.boundary] at ring
    have absent {P : Prop} : isConfigured p r = false → P := fun off => absurd (off.symm.trans on) (by decide)
    by_cases failed : s.health r = .failed
    · rw [if_pos (beq_iff_eq.2 failed)] at ring
      rw [ring]
      exact ⟨rfl, fun _ => ⟨rfl, rfl⟩, fun _ sound => absurd failed sound, fun _ _ => ⟨rfl, rfl⟩, absent⟩
    · rw [if_neg (mt beq_iff_eq.1 failed)] at ring
      rw [ring]
      refine ⟨rfl, fun _ => ⟨rfl, rfl⟩, fun _ _ => ⟨rfl, ?_⟩, fun _ is => absurd is failed, absent⟩
      refine (adjustTheta_eq _ _ _ _).trans ?_
      unfold movedTheta
      simp only [State.sweptTrack, two_le_charged]
      rfl
  · rw [if_neg on] at ring
    rw [ring]
    exact ⟨rfl, fun is => absurd is on, fun is => absurd is on, fun is => absurd is on, fun _ => ⟨rfl, rfl⟩⟩

/-! ### The records in the words of the statements -/

theorem State.armFailed_detector (s : State) (r : Ring) :
    (s.armFailed.stk.rings.get r).detector
      = if s.health r = .failed then .armed else (s.stk.rings.get r).detector := by
  simp only [State.armFailed, State.setStk_stk, PerRing.get_map]
  split <;> rfl

/-- A slug is arriving at the ring a record is aimed at (R63). -/
theorem State.arriving_eq (s : State) (x : SlugRecord) :
    s.arriving x = match (s.stk.rings.get x.next).detector with
      | .inSlug onset _ => Claim.expects x onset
      | _ => false := by
  unfold State.arriving
  cases (s.stk.rings.get x.next).detector with
  | inSlug onset peak => exact x.expects_eq onset
  | armed => rfl
  | holdoff => rfl

theorem State.isCut_eq (s : State) (x : SlugRecord) :
    s.isCut x = (decide (s.health x.next = .failed) && (nextOf s x.next).isNone) := by
  rw [State.isCut, State.nextLive_eq_nextOf]

theorem SlugRecord.refRing_eq (x : SlugRecord) :
    x.refRing = (x.arrivals.getLast?.map Arrival.ring).getD x.origin := by
  unfold SlugRecord.refRing
  cases x.arrivals.getLast? <;> rfl

theorem State.reAimed_eq (s : State) (x : SlugRecord) :
    s.reAimed x = if s.health x.next = .failed then
        (nextOf s x.next).map fun next => aimed s x ((x.arrivals.getLast?.map Arrival.ring).getD x.origin) next
      else some x := by
  simp only [State.reAimed, State.nextLive_eq_nextOf, ← SlugRecord.refRing_eq, ← State.aim_eq_aimed]

end Sys2Proof.Machine
end

section
/-!
SUPPORT. The counters of slugs in lock step: two states alike to the tracker whose counters agree but for those of
windows and correlations count alike through a frame and a boundary (R48, R63, R164).
-/

namespace Sys2Proof.Machine

open Sys2Proof.Claim

/-! ### Counters beside those of windows and correlations -/

/-- The counters with those of windows and correlations taken out (R164). -/
def Stats.slugs (c : Stats) : Stats := { c with windowsClosed := 0, skipped := 0, discardedLate := 0, unformable := 0 }

/-- Counters that agree in all but those of windows and correlations. -/
theorem Stats.eq_of_slugs {c d : Stats} (h : d.slugs = c.slugs) : d = { c with
    windowsClosed := d.windowsClosed, skipped := d.skipped, discardedLate := d.discardedLate
    unformable := d.unformable } := by
  cases c
  cases d
  simp only [Stats.slugs, Stats.mk.injEq] at h ⊢
  simp only [h, and_self]

theorem Stats.made_of_slugs {c d : Stats} (h : d.slugs = c.slugs) : d.made = c.made := by
  show d.slugs.made = c.slugs.made
  rw [h]

/-- Two states alike to the tracker whose counters of slugs agree. -/
structure CountAlike (s t : State) : Prop where
  alike : Alike s t
  slugs : t.efu.stats.slugs = s.efu.stats.slugs

/-- What counts slugs counts the same in both. -/
theorem Stats.slugs_congr {c d : Stats} (h : d.slugs = c.slugs) (f : Stats → Stats)
    (hf : ∀ c : Stats, (f c).slugs = f c.slugs) : (f d).slugs = (f c).slugs := by
  rw [hf, hf, h]

section
variable {s t : State} (a : CountAlike s t)
include a

theorem CountAlike.setStk (k : Stk) : CountAlike (s.setStk k) (t.setStk k) :=
  ⟨⟨rfl, a.alike.rings, a.alike.last, a.alike.record, a.alike.active⟩, a.slugs⟩

theorem CountAlike.count (f : Stats → Stats) (hf : ∀ c : Stats, (f c).slugs = f c.slugs) :
    CountAlike (s.count f) (t.count f) :=
  ⟨⟨a.alike.stk, a.alike.rings, a.alike.last, a.alike.record, a.alike.active⟩, Stats.slugs_congr a.slugs f hf⟩

theorem CountAlike.departure : CountAlike (s.post .slugDeparted) (t.post .slugDeparted) :=
  ⟨(LockStep.start.departure).alike a.alike, by rw [State.post_stats, State.post_stats, a.slugs]⟩

theorem CountAlike.mapTrack (r : Ring) (f : RingTrack → RingTrack) : CountAlike (s.mapTrack r f) (t.mapTrack r f) := by
  unfold State.mapTrack
  rw [a.alike.stk]
  exact a.setStk _

/-! ### A completion (R62, R66) -/

theorem CountAlike.timeSlug (dist transit : Nat) : CountAlike (s.timeSlug dist transit) (t.timeSlug dist transit) := by
  unfold State.timeSlug
  rw [a.alike.stk]
  exact (a.setStk _).count _ fun _ => rfl

theorem CountAlike.depart (x : SlugRecord) (last : Index) (vs : Nat) :
    CountAlike (s.depart x last vs) (t.depart x last vs) := by
  unfold State.depart
  simp only [a.alike.stk, a.alike.active_eq]
  refine CountAlike.departure ?_
  exact (a.setStk _).count _ fun _ => rfl

theorem CountAlike.completeSlug (x : SlugRecord) : CountAlike (s.completeSlug x) (t.completeSlug x) := by
  cases last : x.arrivals.getLast? with
  | none =>
    simp only [State.completeSlug, last]
    exact a
  | some y =>
    rw [State.completeSlug_eq x _ y last, State.completeSlug_eq x _ y last, a.alike.active_eq]
    simp only
    split
    · split
      · exact (a.timeSlug _ _).depart x _ _
      · exact a.timeSlug _ _
    · exact a.count _ fun _ => rfl

theorem CountAlike.foldl_completeSlug (l : List SlugRecord) :
    CountAlike (l.foldl (fun u x => u.completeSlug x) s) (l.foldl (fun u x => u.completeSlug x) t) := by
  induction l generalizing s t with
  | nil => exact a
  | cons x l ih => exact ih (a.completeSlug x)

/-! ### A frame (R48 to R61) -/

theorem CountAlike.arrive (q : SlugRecord → Bool) (x : SlugRecord) (r : Ring) (onset : Index) :
    CountAlike (s.arrive q x r onset) (t.arrive q x r onset) := by
  unfold State.arrive
  simp only [a.alike.stk, a.alike.nextLive_eq, a.alike.aim_eq]
  split
  · exact a.setStk _
  · exact (a.setStk _).completeSlug _

theorem CountAlike.createRecord (r next : Ring) (onset : Index) (peak width : Nat) :
    CountAlike (s.createRecord r next onset peak width) (t.createRecord r next onset peak width) := by
  unfold State.createRecord
  simp only [a.alike.stk, a.alike.aim_eq]
  exact (a.setStk _).count _ fun _ => rfl

theorem CountAlike.detection (r : Ring) (onset : Index) (peak width : Nat) :
    CountAlike (s.detection r onset peak width) (t.detection r onset peak width) := by
  have seen := a.mapTrack r fun x => { x with detected := true }
  unfold State.detection
  simp only [seen.alike.stk, seen.alike.chain_eq, seen.alike.nextLive_eq]
  split
  · exact seen.arrive _ _ _ _
  · split
    · split
      · exact seen.createRecord _ _ _ _ _
      · exact seen
    · refine CountAlike.mapTrack ?_ r _
      exact seen.count _ fun _ => rfl

theorem CountAlike.trackRing (i : Index) (r : Ring) : CountAlike (s.trackRing i r) (t.trackRing i r) := by
  unfold State.trackRing
  simp only [a.alike.stk, a.alike.rings, a.alike.isLive_eq, a.alike.active_eq]
  split
  · have moved := a.mapTrack r fun x => { x with
      detector := (detectorStep s.active (s.stk.rings.get r).theta i (-((s.sfe.rings.get r).hist.headD 0))
        (s.stk.rings.get r).detector).1 }
    split
    · exact moved
    · exact moved.count _ fun _ => rfl
    · exact moved.count _ fun _ => rfl
    · exact moved.detection _ _ _ _
  · exact a

theorem CountAlike.trackFrame : CountAlike s.trackFrame t.trackFrame := by
  have rings (l : List Ring) : ∀ u v : State, CountAlike u v →
      CountAlike (l.foldl (fun s r => s.trackRing s.sfe.lastIndex r) u)
        (l.foldl (fun s r => s.trackRing s.sfe.lastIndex r) v) := by
    induction l with
    | nil => exact fun u v b => b
    | cons r l ih =>
      intro u v b
      rw [List.foldl_cons, List.foldl_cons, b.alike.last]
      exact ih _ _ (b.trackRing u.sfe.lastIndex r)
  exact rings Ring.all s t a

/-! ### A boundary (R63) -/

theorem CountAlike.leftRecords_eq : t.leftRecords = s.leftRecords ∧ t.staleAtBoundary = s.staleAtBoundary := by
  have armed : Alike s.armFailed t.armFailed :=
    LockStep.alike (lockStep_tables (by rw [a.alike.stk, a.alike.health_eq])) a.alike
  have stale : t.staleAtBoundary = s.staleAtBoundary := funext fun x => by
    rw [State.staleAtBoundary, armed.isStale_eq, a.alike.last]
    rfl
  exact ⟨by rw [State.leftRecords, stale, a.alike.stk]; rfl, stale⟩

theorem CountAlike.trackerBoundary (changed : Bool) :
    CountAlike (s.trackerBoundary changed) (t.trackerBoundary changed) := by
  have step := a.alike.trackerBoundary changed
  refine ⟨step.alike a.alike, ?_⟩
  obtain ⟨left, stale⟩ := a.leftRecords_eq
  have isCut : t.isCut = s.isCut := funext fun x => by
    simp only [State.isCut, a.alike.health_eq, a.alike.nextLive_eq]
  have cut : t.cutRecords = s.cutRecords := by rw [State.cutRecords, left, isCut]; rfl
  have dropped : t.droppedRecords = s.droppedRecords := by
    rw [State.droppedRecords, cut, stale, a.alike.stk]
    rfl
  have completed := (a.foldl_completeSlug (s.cutRecords.filter fun x => !x.arrivals.isEmpty)).slugs
  have here := (s.trackerBoundary_worked changed).stats
  have there := (t.trackerBoundary_worked changed).stats
  have stales : t.efu.stats.stale = s.efu.stats.stale := (congrArg Stats.stale a.slugs :)
  have occupancies : t.efu.stats.occupancy = s.efu.stats.occupancy := (congrArg Stats.occupancy a.slugs :)
  rw [dropped, stales, occupancies, (step.alike a.alike).stk, State.cutCompleted, cut] at there
  rw [here, there]
  exact Stats.slugs_congr completed (fun c => { c with
    stale := bump s.droppedRecords.length s.efu.stats.stale
    occupancy := satAdd s.efu.stats.occupancy (s.trackerBoundary changed).stk.table.length }) fun _ => rfl

end

end Sys2Proof.Machine
end

section
/-!
SUPPORT. What a boundary leaves of the counters of slugs: its start counts windows and correlations alone, and none of
its parts counts a runt, a long slug, an unmatched detection, an eviction or a record (R48 to R61, R164).
-/

namespace Sys2Proof.Machine

open Sys2Proof.Claim

/-! ### The counters that a frame's samples alone move -/

/-- A change that keeps the counters of what a frame's samples bring. -/
def KeepsMade (s t : State) : Prop := t.efu.stats.made = s.efu.stats.made

theorem KeepsMade.trans {s t u : State} (h : KeepsMade s t) (g : KeepsMade t u) : KeepsMade s u := Eq.trans g h

theorem KeepsMade.of_stats {s t : State} (h : t.efu.stats = s.efu.stats) : KeepsMade s t := congrArg Stats.made h

theorem Stats.countRecord_made (st : VelStatus) (c : Stats) : (c.countRecord st).made = c.made := by
  cases st <;> rfl

theorem State.completeWithoutPairs_made (s : State) : KeepsMade s s.completeWithoutPairs := by
  have stats : s.completeWithoutPairs.efu.stats = _ := State.publish_stats s.xcr.windowNumber (PerSlot.fill none)
    (s.completed none s.xcr.windowNumber (PerSlot.fill none))
  rw [State.completed_stats] at stats
  exact (congrArg Stats.made stats).trans (Stats.countRecord_made _ _)

theorem State.trackerBoundary_made (changed : Bool) (s : State) : KeepsMade s (s.trackerBoundary changed) :=
  (congrArg Stats.made (s.trackerBoundary_worked changed).stats).trans s.cutCompleted_completing.made

theorem State.trackerWork_made (old : Profile) (geometry : Bool) (s : State) :
    KeepsMade s (s.trackerWork old geometry) := by
  unfold State.trackerWork
  simp only
  split
  · exact (s.trackerBoundary_made _).trans (.of_stats rfl)
  · exact s.trackerBoundary_made _

theorem State.applyClearIfPending_made (s : State) : KeepsMade s s.applyClearIfPending := by
  obtain ⟨_, _, stats⟩ := s.applyClearIfPending_blocks
  exact .of_stats stats

theorem State.finishBoundary_made (n : Nat) (old : Profile) (geometry : Bool) (notes : List Note) (s : State) :
    KeepsMade s (s.finishBoundary n old geometry notes) :=
  ((s.trackerWork_made old geometry).trans (State.applyClearIfPending_made _)).trans
    (.of_stats (State.takeNotes_stats _ _ _))

theorem State.beforePublication_made (n : Nat) (old : Profile) (s : State) :
    KeepsMade s (s.beforePublication n old) := by
  have tracked : KeepsMade s
      (if Config.takenFirst .trackerBeforePublication n then s.trackerWork old false else s) := by
    split
    · exact s.trackerWork_made old false
    · exact rfl
  unfold State.beforePublication
  simp only
  split
  · exact tracked.trans (State.applyClearIfPending_made _)
  · exact tracked

theorem State.publicationOn_made (n : Nat) (old : Profile) (s : State) : KeepsMade s (s.publicationOn n old) := by
  unfold State.publicationOn
  refine KeepsMade.trans ?_ (State.applyClearIfPending_made _)
  split
  · exact s.completeWithoutPairs_made
  · exact s.completeWithoutPairs_made.trans (State.trackerWork_made old false _)

theorem State.finishWithCompletion_made (n : Nat) (old : Profile) (notes : List Note) (s : State) :
    KeepsMade s (s.finishWithCompletion n old notes) := by
  have early : KeepsMade s (s.earlyNoted n old notes) :=
    (s.beforePublication_made n old).trans (.of_stats (State.takeNotes_stats _ _ _))
  rw [State.finishWithCompletion_eq]
  exact (early.trans (State.publicationOn_made n old _)).trans (.of_stats (State.takeNotes_stats _ _ _))

/-! ### The start of a boundary -/

/-- The start of a boundary counts windows and correlations alone (R26, R33, R34). -/
theorem State.boundaryCore_slugs (s : State) : s.boundaryCore.efu.stats.slugs = s.efu.stats.slugs := by
  obtain ⟨_, _, counts, moved⟩ := s.beforeCorrelator.moveCorrelator_moved.blocks
  rw [State.boundaryCore_eq, moved]
  exact (congrArg Stats.slugs s.beforeCorrelator_reads.stats :)

theorem State.boundary_made (s : State) : KeepsMade s s.boundary := by
  have core : KeepsMade s s.boundaryCore := Stats.made_of_slugs s.boundaryCore_slugs
  rcases s.boundary_cases with ⟨_, h⟩ | ⟨_, h⟩ <;> rw [h]
  · exact core.trans (State.finishBoundary_made _ _ _ _ _)
  · exact core.trans (State.finishWithCompletion_made _ _ _ _)

/-! ### A frame that closes the window and the same frame inside one -/

/-- A frame's samples are counted alike whatever the place of its window (R48). -/
theorem State.framed_countAlike (fr : Frame) (s : State) (pos : Nat) :
    CountAlike (s.framed fr) ({ s with sfe := { s.sfe with windowPos := pos } }.framed fr) := by
  have stored : CountAlike (s.storeFrame fr) ({ s with sfe := { s.sfe with windowPos := pos } }.storeFrame fr) :=
    ⟨⟨rfl, rfl, rfl, rfl, rfl⟩, rfl⟩
  exact stored.trackFrame

/-- A boundary without a geometry commit and without a completion leaves the tracker and the counters of slugs as the
tracker's work does after the frame's own, on the front end, the solver and the profile of that boundary (R63). -/
theorem State.boundary_tracker_work (s b : State) (plain : s.pst.geometryPending = false)
    (incomplete : s.boundaryCore.completesWithoutPairs = false) (same : CountAlike s b) :
    let t := s.boundary
    let u := State.trackerBoundary (thetaRangeChanged s.active t.active)
      { b with sfe := t.sfe, fsv := t.fsv, pst := t.pst }
    u.stk = t.stk ∧ u.efu.stats.slugs = t.efu.stats.slugs := by
  intro t u
  have done := s.boundary_plain incomplete
  rw [plain, State.trackerWork_plain] at done
  obtain ⟨_, _, front, store, _⟩ := s.boundary_end.only
  have active : t.active = s.boundaryCore.active := by rw [State.active, store]; rfl
  have core : CountAlike s.boundaryCore { b with sfe := t.sfe, fsv := t.fsv, pst := t.pst } :=
    ⟨⟨same.alike.stk.trans s.boundaryCore_start.stk.symm, (congrArg Sfe.rings front :),
      (congrArg Sfe.lastIndex front :), congrArg Fsv.record done.fsv, active⟩,
      same.slugs.trans s.boundaryCore_slugs.symm⟩
  have worked := core.trackerBoundary (thetaRangeChanged s.active s.boundaryCore.active)
  rw [← active] at worked done
  exact ⟨worked.alike.stk.trans done.stk.symm, worked.slugs.trans (congrArg Stats.slugs done.stats).symm⟩

end Sys2Proof.Machine
end

section
/-!
PROOFS. TrackerBoundaryWork, settled: the tracker's work at a boundary (R52, R54, R55, R62 to R64, R66 to R68), and the
frame that does it.
-/

namespace Sys2Proof.Machine

open Sys2Proof.Claim

/-- Settles O27: the boundary's work is that of `State.trackerBoundary_worked`, read in the words of the statements; a
frame that closes the window does it after the work of the same frame inside a window. -/
theorem trackerBoundaryWork : Obligations.TrackerBoundaryWork := by
  unfold Obligations.TrackerBoundaryWork
  refine ⟨fun changed s => ?_, fun x s _ => s.completeSlug_completes x, fun fr s closes long => ?_⟩
  · intro t p i failed detector arriving stale left cut dropped u
    have detector_eq (r : Ring) : detector r = (s.armFailed.stk.rings.get r).detector := by
      rw [State.armFailed_detector]
      simp only [detector, failed, decide_eq_true_eq]
      rfl
    have arriving_eq : arriving = s.armFailed.arriving := funext fun x => by
      have same := s.armFailed.arriving_eq x
      rw [← detector_eq] at same
      exact same.symm
    have stale_eq : stale = s.staleAtBoundary := by
      simp only [stale, arriving_eq]
      rfl
    have left_eq : left = s.leftRecords := by
      simp only [left, stale_eq]
      rfl
    have cut_eq : cut = s.cutRecords := by
      simp only [cut, left_eq]
      exact List.filter_congr fun x _ => (s.isCut_eq x).symm
    have dropped_eq : dropped = s.droppedRecords := by
      simp only [dropped, stale_eq, cut_eq]
      rfl
    have u_eq : u = s.cutCompleted := by
      simp only [u, cut_eq]
      rfl
    have worked := s.trackerBoundary_worked changed
    rw [left_eq, dropped_eq, u_eq]
    refine ⟨(s.trackerBoundary_onlyTracks changed).onlyChanges, worked.tagCounter, ?_, worked.sumDistance,
      worked.sumTransit, worked.sumCount, ?_, worked.cap, worked.ports, worked.faults, worked.full, ?_, fun r => ?_⟩
    · rw [worked.table]
      refine List.filterMap_congr fun x _ => (s.reAimed_eq x).trans ?_
      simp only [failed, decide_eq_true_eq]
      rfl
    · rw [worked.departed]
      refine List.filter_congr fun e _ => ?_
      rw [Bool.eq_iff_iff]
      simp [indexBefore, indexDiff, i]
    · rw [plus_eq_satAdd]
      exact worked.stats
    · obtain ⟨detector', cleared, sound, failing, off⟩ := worked.ring_moves r
      simp only [configured_iff, Bool.not_eq_true]
      refine ⟨detector'.trans ?_, cleared, sound, failing, off⟩
      rw [detector_eq, State.armFailed_detector]
  · have same := s.framed_countAlike fr 0
    refine ⟨_, _, exec_replyDeadline_inside fr _ closes.1 (Ne.symm long), exec_replyDeadline_boundary fr s closes,
      fun rate length rings incomplete => ?_, ?_⟩
    · rw [State.framed_boundary_active] at rate length rings
      have plain : (s.framed fr).pst.geometryPending = false := by
        rw [State.framed_pst]
        exact s.plain_of_kept rate length rings
      obtain ⟨tracker, counters⟩ :=
        (s.framed fr).boundary_tracker_work _ plain (s.framed_incomplete_of fr incomplete) same
      intro changed u
      have range : thetaRangeChanged (s.framed fr).active (s.framed fr).boundary.active = changed := by
        rw [State.framed_active, thetaRangeChanged_eq]
        rfl
      rw [range] at tracker counters
      exact ⟨tracker.symm, Stats.eq_of_slugs counters.symm⟩
    · have made := Eq.trans (s.framed fr).boundary_made (Stats.made_of_slugs same.slugs).symm
      simpa only [Stats.made, List.cons.injEq, and_true] using made

end Sys2Proof.Machine
end

section
/-!
SUPPORT. The deposition table of an acceptable profile (R91, R130, R140): its points ascend and lie in their ranges, and
the deposition velocity at φ is held at its ends and interpolated between two neighbours.
-/

namespace Sys2Proof.Machine

open Sys2Proof.Claim

/-! ### The table of an acceptable profile (R130, R140) -/

/-- Check 4 of an acceptable profile (R140). -/
theorem Profile.accepted_table (p : Profile) (h : p.accepted = true) :
    1 ≤ p.depCount ∧ ascending p.depTable = true := by
  obtain ⟨_, none⟩ := Bool.and_eq_true_iff.1 h
  unfold Profile.firstFailure at none
  split at none
  · cases none
  · split at none
    · cases none
    · split at none
      · cases none
      · split at none
        · cases none
        · next passed =>
          obtain ⟨count, _, order⟩ := not_not.1 passed
          exact ⟨count, order⟩

/-- The table starts with point 1 (R130). -/
theorem Profile.depTable_eq (p : Profile) (h : p.accepted = true) : ∃ l, p.depTable = p.dep1 :: l := by
  obtain ⟨k, hk⟩ := Nat.exists_eq_add_of_le' (p.accepted_table h).1
  rw [Profile.depTable, hk]
  exact ⟨_, rfl⟩

/-- Every point of the table lies in the ranges of R130. -/
theorem Profile.depTable_inRange (p : Profile) (h : p.accepted = true) (x : DepPoint) (hx : x ∈ p.depTable) :
    x.phi ≤ 6000 ∧ x.vc ≤ 10000 := by
  have point (k : Nat) (hk : isPointField k = true) (hf : isField k = true) : pointInRange (p.point k) = true := by
    have range := p.accepted_field k h hf
    rwa [Profile.fieldInRange, if_pos hk] at range
  have named : ∃ k, isPointField k = true ∧ isField k = true ∧ p.point k = x := by
    have member : x ∈ [17, 18, 19, 20, 21, 22, 23, 24].map p.point := List.mem_of_mem_take hx
    obtain ⟨k, hk, rfl⟩ := List.mem_map.1 member
    have all : ∀ j ∈ [17, 18, 19, 20, 21, 22, 23, 24], isPointField j = true ∧ isField j = true := by decide
    exact ⟨k, (all k hk).1, (all k hk).2, rfl⟩
  obtain ⟨k, hk, hf, rfl⟩ := named
  simpa [pointInRange] using point k hk hf

theorem ascending_cons (x y : DepPoint) (l : List DepPoint) :
    ascending (x :: y :: l) = true ↔ x.phi < y.phi ∧ ascending (y :: l) = true := by
  simp [ascending]

/-- The first point of an ascending table has the least φ. -/
theorem ascending_first (x : DepPoint) (l : List DepPoint) (h : ascending (x :: l) = true) :
    ∀ y ∈ x :: l, x.phi ≤ y.phi := by
  induction l generalizing x with
  | nil => simp
  | cons z l ih =>
    obtain ⟨step, rest⟩ := (ascending_cons x z l).1 h
    intro y hy
    rcases List.mem_cons.1 hy with rfl | hy
    · exact le_rfl
    · exact step.le.trans (ih z rest y hy)

/-! ### Between two points (R91) -/

/-- A share of a difference lies between nothing and the whole of it. -/
theorem ediv_share (a k w : Int) (ha : 0 ≤ a) (haw : a ≤ w) (hw : 0 < w) :
    min 0 k ≤ a * k / w ∧ a * k / w ≤ max 0 k := by
  refine ⟨(Int.le_ediv_iff_mul_le hw).2 ?_, Int.ediv_le_of_le_mul hw ?_⟩
  · rcases le_total 0 k with hk | hk
    · rw [min_eq_left hk]
      nlinarith
    · rw [min_eq_right hk]
      nlinarith
  · rcases le_total 0 k with hk | hk
    · rw [max_eq_right hk]
      nlinarith
    · rw [max_eq_left hk]
      nlinarith

/-- The deposition velocity between two points is the interpolated one, and lies between theirs. -/
theorem interpolate_eq (x y : DepPoint) (phi : Nat) (low : x.phi ≤ phi) (high : phi < y.phi) :
    (interpolate x y phi : Int)
        = x.vc + ((phi : Int) - x.phi) * ((y.vc : Int) - x.vc) / ((y.phi : Int) - x.phi)
    ∧ interpolate x y phi ≤ max x.vc y.vc := by
  obtain ⟨least, most⟩ := ediv_share ((phi : Int) - x.phi) ((y.vc : Int) - x.vc) ((y.phi : Int) - x.phi)
    (by omega) (by omega) (by omega)
  unfold interpolate
  omega

/-! ### The deposition velocity of a table (R91) -/

/-- At or past the last point the velocity is that point's. -/
theorem depFrom_last (x : DepPoint) (phi : Nat) (l : List DepPoint) (u : DepPoint) (order : ascending (x :: l) = true)
    (last : (x :: l).getLast? = some u) (past : u.phi ≤ phi) : depFrom x phi l = u.vc := by
  induction l generalizing x with
  | nil =>
    cases last
    rfl
  | cons y l ih =>
    have rest := ((ascending_cons x y l).1 order).2
    rw [List.getLast?_cons_cons] at last
    have first := ascending_first y l rest u (List.mem_of_getLast? last)
    rw [depFrom, if_neg (by omega)]
    exact ih y rest last

/-- Between two neighbours the velocity is interpolated. -/
theorem depFrom_between (x : DepPoint) (phi : Nat) (l : List DepPoint) (i : Nat) (u v : DepPoint)
    (order : ascending (x :: l) = true) (hu : (x :: l)[i]? = some u) (hv : (x :: l)[i + 1]? = some v)
    (low : u.phi ≤ phi) (high : phi < v.phi) : depFrom x phi l = interpolate u v phi := by
  induction l generalizing x i with
  | nil => simp at hv
  | cons y l ih =>
    have rest := ((ascending_cons x y l).1 order).2
    cases i with
    | zero =>
      cases hu
      cases hv
      exact if_pos high
    | succ i =>
      have first := ascending_first y l rest u (List.mem_of_getElem? hu)
      rw [depFrom, if_neg (by omega)]
      exact ih y i rest hu hv

/-- No velocity of a table exceeds a bound of its points. -/
theorem depFrom_le (x : DepPoint) (phi : Nat) (l : List DepPoint) (b : Nat) (low : x.phi ≤ phi)
    (bound : ∀ y ∈ x :: l, y.vc ≤ b) : depFrom x phi l ≤ b := by
  induction l generalizing x with
  | nil => exact bound x List.mem_cons_self
  | cons y l ih =>
    obtain ⟨hx, hl⟩ := List.forall_mem_cons.1 bound
    rw [depFrom]
    split
    · next high => exact (interpolate_eq x y phi low high).2.trans (max_le hx (hl y List.mem_cons_self))
    · next high => exact ih y (not_lt.1 high) hl

section
variable (p : Profile) (accepted : p.accepted = true) (phi : Nat)
include accepted

theorem depositionVelocity_first (below : phi < p.dep1.phi) : depositionVelocity phi p.depTable = p.dep1.vc := by
  obtain ⟨l, table⟩ := p.depTable_eq accepted
  rw [table, depositionVelocity, if_pos below]

/-- From the first point onward the velocity is read off the table. -/
theorem depositionVelocity_from (x : DepPoint) (l : List DepPoint) (table : p.depTable = x :: l)
    (u : DepPoint) (hu : u ∈ p.depTable) (low : u.phi ≤ phi) :
    depositionVelocity phi p.depTable = depFrom x phi l ∧ ascending (x :: l) = true := by
  have order := (p.accepted_table accepted).2
  rw [table] at order hu ⊢
  have first := ascending_first x l order u hu
  exact ⟨if_neg (by omega), order⟩

theorem depositionVelocity_last (u : DepPoint) (last : p.depTable.getLast? = some u) (past : u.phi ≤ phi) :
    depositionVelocity phi p.depTable = u.vc := by
  obtain ⟨l, table⟩ := p.depTable_eq accepted
  obtain ⟨eq, order⟩ := depositionVelocity_from p accepted phi _ l table u (List.mem_of_getLast? last) past
  rw [table] at last
  rw [eq]
  exact depFrom_last _ phi l u order last past

theorem depositionVelocity_between (i : Nat) (u v : DepPoint) (hu : p.depTable[i]? = some u)
    (hv : p.depTable[i + 1]? = some v) (low : u.phi ≤ phi) (high : phi < v.phi) :
    (depositionVelocity phi p.depTable : Int)
      = u.vc + ((phi : Int) - u.phi) * ((v.vc : Int) - u.vc) / ((v.phi : Int) - u.phi) := by
  obtain ⟨l, table⟩ := p.depTable_eq accepted
  obtain ⟨eq, order⟩ := depositionVelocity_from p accepted phi _ l table u (List.mem_of_getElem? hu) low
  rw [table] at hu hv
  rw [eq, depFrom_between _ phi l i u v order hu hv low high]
  exact (interpolate_eq u v phi low high).1

/-- The deposition velocity lies in the range of the points' (R91, R130). -/
theorem depositionVelocity_le : depositionVelocity phi p.depTable ≤ 10000 := by
  obtain ⟨l, table⟩ := p.depTable_eq accepted
  have bound (y : DepPoint) (hy : y ∈ p.dep1 :: l) : y.vc ≤ 10000 :=
    (p.depTable_inRange accepted y (by rwa [table])).2
  rw [table, depositionVelocity]
  split
  · exact bound _ List.mem_cons_self
  · next low => exact depFrom_le _ phi l _ (not_lt.1 low) bound

/-- At φ 0 the deposition velocity is that of point 1 (R86, R97). -/
theorem depositionVelocity_zero : depositionVelocity 0 p.depTable = p.dep1.vc := by
  obtain ⟨l, table⟩ := p.depTable_eq accepted
  have order := (p.accepted_table accepted).2
  rw [table] at order ⊢
  rw [depositionVelocity]
  split
  · rfl
  · next low =>
    have zero : p.dep1.phi = 0 := by omega
    cases l with
    | nil => rfl
    | cons y l =>
      have step := ((ascending_cons _ y l).1 order).1
      rw [depFrom, if_pos (by omega), interpolate, zero]
      simp

end

end Sys2Proof.Machine
end

section
/-!
SUPPORT. A record's velocity (R76 to R78): the mean of the valid pair velocities lies among them, every velocity of the
chain lies in its range, and which status the chain chooses.
-/

namespace Sys2Proof.Machine

open Sys2Proof.Claim

/-! ### Weighted means (R76) -/

section
variable {α : Type} (weight value : α → Nat) (l : List α) (b : Nat)

theorem sum_weighted_le (h : ∀ x ∈ l, value x ≤ b) : (l.map fun x => weight x * value x).sum ≤ (l.map weight).sum * b :=
  calc (l.map fun x => weight x * value x).sum
    _ ≤ (l.map fun x => weight x * b).sum := List.sum_le_sum fun x hx => Nat.mul_le_mul_left _ (h x hx)
    _ = (l.map weight).sum * b := List.sum_map_mul_right _ _ _

theorem le_sum_weighted (h : ∀ x ∈ l, b ≤ value x) : (l.map weight).sum * b ≤ (l.map fun x => weight x * value x).sum :=
  calc (l.map weight).sum * b
    _ = (l.map fun x => weight x * b).sum := (List.sum_map_mul_right _ _ _).symm
    _ ≤ (l.map fun x => weight x * value x).sum := List.sum_le_sum fun x hx => Nat.mul_le_mul_left _ (h x hx)

end

theorem round_le (x y b : Nat) (hy : 0 < y) (h : x ≤ y * b) : round x y ≤ b := by
  rw [Claim.round, ← Nat.lt_succ_iff, Nat.div_lt_iff_lt_mul hy, Nat.succ_mul, Nat.mul_comm b]
  omega

theorem le_round (x y b : Nat) (hy : 0 < y) (h : y * b ≤ x) : b ≤ round x y := by
  rw [Claim.round, Nat.le_div_iff_mul_le hy, Nat.mul_comm]
  omega

/-- A weighted mean lies among the values it is taken of. -/
theorem mean_among {α : Type} (weight value : α → Nat) (l : List α) (pos : 0 < (l.map weight).sum) :
    let v := round (l.map fun x => weight x * value x).sum (l.map weight).sum
    (∃ x ∈ l, value x ≤ v) ∧ ∃ x ∈ l, v ≤ value x := by
  intro v
  constructor
  · by_contra! above
    have := le_round _ _ (v + 1) pos (le_sum_weighted weight value l (v + 1) above)
    exact absurd this (Nat.not_succ_le_self v)
  · by_contra! below
    obtain ⟨x, hx, _⟩ : ∃ x ∈ l, 0 < weight x := by
      by_contra! none
      refine absurd pos (Nat.not_lt.2 (List.sum_eq_zero fun w hw => ?_).le)
      obtain ⟨x, hx, rfl⟩ := List.mem_map.1 hw
      exact Nat.le_zero.1 (none x hx)
    have room := below x hx
    have := round_le _ _ (v - 1) pos (sum_weighted_le weight value l (v - 1) fun y hy => by have := below y hy; omega)
    change v ≤ v - 1 at this
    omega

/-! ### The correlation velocity (R76) -/

theorem corrVelocity_none (rs : PerSlot (Option PairResult)) : corrVelocity rs = none ↔ validResults rs = [] := by
  unfold corrVelocity
  split
  · next empty => simp [empty]
  · next some =>
    refine iff_of_false ?_ some
    simp only
    split <;> exact nofun

/-- The correlation velocity is a mean of the valid pair velocities, and lies among them. -/
theorem corrVelocity_some (rs : PerSlot (Option PairResult)) (v : Nat) (h : corrVelocity rs = some v) :
    let l := validResults rs
    let weight := (l.map (·.1)).sum
    v = (if weight = 0 then round (l.map (·.2)).sum l.length else round (l.map fun x => x.1 * x.2).sum weight)
    ∧ (∃ x ∈ l, x.2 ≤ v) ∧ ∃ x ∈ l, v ≤ x.2 := by
  unfold corrVelocity at h
  split at h
  · cases h
  · next some =>
    intro l weight
    change (if weight = 0 then Option.some (roundDiv (l.map (·.2)).sum l.length)
      else Option.some (roundDiv (l.map fun x => x.1 * x.2).sum weight)) = Option.some v at h
    rw [roundDiv_eq_round, roundDiv_eq_round] at h
    split at h
    · next zero =>
      cases h
      have plain := mean_among (fun _ => 1) (·.2) l (by simpa using List.length_pos_iff.2 some)
      simp only [Nat.one_mul, List.map_const', List.sum_replicate, smul_eq_mul, Nat.mul_one] at plain
      exact ⟨(if_pos zero).symm, plain⟩
    · next pos =>
      cases h
      exact ⟨(if_neg pos).symm, mean_among (·.1) (·.2) l (Nat.pos_of_ne_zero pos)⟩

theorem mem_validResults (rs : PerSlot (Option PairResult)) (x : Nat × Nat) (h : x ∈ validResults rs) :
    ∃ k r, rs.get k = some r ∧ r.verdict = .valid x.2 := by
  obtain ⟨o, ho, hx⟩ := List.mem_filterMap.1 h
  obtain ⟨r, rfl, hr⟩ := Option.bind_eq_some_iff.1 hx
  obtain ⟨v, hv, rfl⟩ := Option.map_eq_some_iff.1 hr
  have slot : ∃ k, rs.get k = some r := by
    simp only [PerSlot.toList, List.mem_cons, List.not_mem_nil, or_false] at ho
    rcases ho with ho | ho | ho
    · exact ⟨.s0, ho.symm⟩
    · exact ⟨.s1, ho.symm⟩
    · exact ⟨.s2, ho.symm⟩
  obtain ⟨k, hk⟩ := slot
  refine ⟨k, r, hk, ?_⟩
  unfold PairResult.vp? at hv
  split at hv
  · next verdict =>
    cases hv
    exact verdict
  · cases hv

/-- A result is valid with the velocity of its transit or not at all (R42, R43). -/
theorem verdict_valid {a b c : Prop} [Decidable a] [Decidable b] [Decidable c] {x y z : Reason} {u v : Nat}
    (h : (if a then .invalid x else if b then .invalid y else if c then .invalid z else .valid u) = Verdict.valid v) :
    u = v := by
  split_ifs at h
  cases h
  rfl

/-- A pair velocity lies in its range (R43). -/
theorem Sfe.pairResult_velocity (f : Sfe) (c : InFlight) (e : PairEntry) (v : Nat)
    (h : (f.pairResult c e).verdict = .valid v) : v ≤ 20000 := by
  rw [← verdict_valid h]
  exact min_le_left _ _

/-- A set whose pair velocities lie in their range (R43). -/
def VelocitiesInRange (rs : PerSlot (Option PairResult)) : Prop :=
  ∀ k r v, rs.get k = some r → r.verdict = .valid v → v ≤ 20000

theorem Sfe.resultSet_inRange (f : Sfe) (c : InFlight) : VelocitiesInRange (f.resultSet c) := by
  intro k r v hr hv
  rw [Sfe.resultSet, PerSlot.get_map] at hr
  obtain ⟨e, _, rfl⟩ := Option.map_eq_some_iff.1 hr
  exact f.pairResult_velocity c e v hv

theorem noResults_inRange : VelocitiesInRange (PerSlot.fill none) := by
  intro k r v hr
  rw [PerSlot.get_fill] at hr
  cases hr

theorem corrVelocity_le (rs : PerSlot (Option PairResult)) (h : VelocitiesInRange rs) (v : Nat)
    (hv : corrVelocity rs = some v) : v ≤ 20000 := by
  obtain ⟨_, _, x, hx, le⟩ := corrVelocity_some rs v hv
  obtain ⟨k, r, hr, valid⟩ := mem_validResults rs x hx
  exact le.trans (h k r x.2 hr valid)

/-! ### The chain (R77, R78) -/

theorem State.windowSlugVelocity_le (s : State) (v : Nat) (h : s.windowSlugVelocity = some v) : v ≤ 20000 := by
  unfold State.windowSlugVelocity at h
  split at h
  · cases h
    exact min_le_left _ _
  · cases h

/-- The rows of the chain (R77). -/
theorem velocityChain_cases (vc vs lastV : Option Nat) (hold windows : Nat) :
    (∃ v, vc = some v ∧ velocityChain vc vs lastV hold windows = (.correlated, v))
    ∨ (∃ v, vc = none ∧ vs = some v ∧ velocityChain vc vs lastV hold windows = (.slug, v))
    ∨ (∃ v, vc = none ∧ vs = none ∧ lastV = some v ∧ hold < windows
      ∧ velocityChain vc vs lastV hold windows = (.held, v))
    ∨ (vc = none ∧ vs = none ∧ (lastV = none ∨ windows ≤ hold)
      ∧ velocityChain vc vs lastV hold windows = (.lost, 0)) := by
  rcases vc with _ | v
  · rcases vs with _ | v
    · rcases lastV with _ | v
      · exact .inr (.inr (.inr ⟨rfl, rfl, .inl rfl, rfl⟩))
      · rcases Nat.lt_or_ge hold windows with held | lost
        · exact .inr (.inr (.inl ⟨v, rfl, rfl, rfl, held, if_pos held⟩))
        · exact .inr (.inr (.inr ⟨rfl, rfl, .inr lost, if_neg (Nat.not_lt.2 lost)⟩))
    · exact .inr (.inl ⟨v, rfl, rfl, rfl⟩)
  · exact .inl ⟨v, rfl, rfl⟩

/-- A bound of the velocities that the chain chooses from bounds its choice. -/
theorem velocityChain_le (vc vs lastV : Option Nat) (hold windows b : Nat) (hc : ∀ v, vc = some v → v ≤ b)
    (hs : ∀ v, vs = some v → v ≤ b) (hl : ∀ v, lastV = some v → v ≤ b) :
    (velocityChain vc vs lastV hold windows).2 ≤ b := by
  rcases velocityChain_cases vc vs lastV hold windows with ⟨v, h, eq⟩ | ⟨v, _, h, eq⟩ | ⟨v, _, _, h, _, eq⟩
    | ⟨_, _, _, eq⟩ <;> rw [eq]
  · exact hc v h
  · exact hs v h
  · exact hl v h
  · exact Nat.zero_le b

/-- Without a measurement the chain gives 0 (R77). -/
theorem velocityChain_lost (vc vs lastV : Option Nat) (hold windows : Nat)
    (h : (velocityChain vc vs lastV hold windows).1 = .lost) : (velocityChain vc vs lastV hold windows).2 = 0 := by
  rcases velocityChain_cases vc vs lastV hold windows with ⟨v, _, eq⟩ | ⟨v, _, _, eq⟩ | ⟨v, _, _, _, _, eq⟩
    | ⟨_, _, _, eq⟩ <;> rw [eq] at h ⊢
  all_goals cases h

theorem lastAfter_le (st : VelStatus) (v : Nat) (lastV : Option Nat) (b : Nat) (hv : v ≤ b)
    (hl : ∀ w, lastV = some w → w ≤ b) (w : Nat) (hw : lastAfter st v lastV = some w) : w ≤ b := by
  cases st with
  | correlated | slug =>
    cases hw
    exact hv
  | held | lost | filling => exact hl w hw

/-- The margin of a record that has one (R92). -/
theorem marginOf_measured (st : VelStatus) (v vDep : Nat) (lost : st ≠ .lost) (filling : st ≠ .filling) :
    marginOf st v vDep = some ((v : Int) - vDep) := by
  cases st with
  | correlated | slug | held => rfl
  | lost => exact absurd rfl lost
  | filling => exact absurd rfl filling

theorem phiOfRatio_le (r : Nat) : phiOfRatio r ≤ 6000 := by
  unfold phiOfRatio
  split
  · exact Nat.zero_le _
  · exact min_le_left _ _

/-- A published solids fraction lies in its range where the standing one does (R82, R83). -/
theorem phiChoice_le (flush : Bool) (mbar : Option Nat) (sigma standing : Nat) (h : standing ≤ 6000) :
    (phiChoice flush mbar sigma standing).1 ≤ 6000 := by
  unfold phiChoice
  split
  · exact Nat.zero_le _
  · split
    · exact h
    · exact phiOfRatio_le _

end Sys2Proof.Machine
end

section
/-!
SUPPORT. What a step can do to the flow solver and the guard, said once: every command leaves both alone, with an edit of
the profile store at most, or is made of a start, a RESTART, a reset held, a loss of power, a boundary, a completion, a
release of the guard, and the two flush requests.
-/

namespace Sys2Proof.Machine

open Sys2Proof.Claim

/-! ### Work that leaves the solver and the guard -/

/-- The power state, the flow solver and the guard stand. -/
structure FlowStands (s t : State) : Prop where
  power : t.power = s.power
  fsv : t.fsv = s.fsv
  dgd : t.dgd = s.dgd

theorem FlowStands.refl (s : State) : FlowStands s s := ⟨rfl, rfl, rfl⟩

theorem FlowStands.trans {s t u : State} (h : FlowStands s t) (g : FlowStands t u) : FlowStands s u :=
  ⟨g.power.trans h.power, g.fsv.trans h.fsv, g.dgd.trans h.dgd⟩

theorem OnlyReports.flow {s t : State} (h : OnlyReports s t) : FlowStands s t := by
  obtain ⟨_, _, rfl⟩ := h
  exact ⟨rfl, rfl, rfl⟩

theorem OnlyEvents.flow {s t : State} (h : OnlyEvents s t) : FlowStands s t := h.onlyReports.flow

theorem OnlyTracks.flow {s t : State} (h : OnlyTracks s t) : FlowStands s t := by
  obtain ⟨_, _, _, rfl⟩ := h
  exact ⟨rfl, rfl, rfl⟩

theorem OnlyAside.flow {s t : State} (h : OnlyAside s t) : FlowStands s t := by
  obtain ⟨_, _, _, _, _, rfl⟩ := h
  exact ⟨rfl, rfl, rfl⟩

theorem State.expireClaim_flow (s : State) : FlowStands s s.expireClaim := by
  unfold State.expireClaim
  split
  · exact FlowStands.trans (t := s.setPst s.pst.endClaim) ⟨rfl, rfl, rfl⟩ (State.post_only _ _).flow
  · exact .refl s

theorem State.reachExpiry_flow (s : State) : FlowStands s s.reachExpiry := by
  unfold State.reachExpiry
  split
  · split <;> exact ⟨rfl, rfl, rfl⟩
  · exact .refl s

theorem State.nvComplete_flow (agrees : Bool) (s : State) : FlowStands s (s.nvComplete agrees) := by
  unfold State.nvComplete
  split
  · exact .refl s
  · split
    · exact ⟨rfl, rfl, rfl⟩
    · exact ⟨by simp, by simp, by simp⟩

theorem State.copyEnds_flow (s : State) : FlowStands s s.copyEnds := by
  unfold State.copyEnds
  split
  · exact (s.completeCapture_only _).flow
  · exact .refl s

theorem State.crystalFails_flow (s : State) : FlowStands s s.crystalFails := by
  unfold State.crystalFails
  split
  · exact ⟨by simp, by simp, by simp⟩
  · exact ⟨rfl, rfl, rfl⟩

theorem State.strobeFrame_flow (s : State) : FlowStands s s.strobeFrame := by
  unfold State.strobeFrame
  split <;> exact ⟨rfl, rfl, rfl⟩

theorem State.byteTimeout_flow (p : Port) (s : State) : FlowStands s (s.byteTimeout p) := by
  unfold State.byteTimeout
  split <;> exact ⟨rfl, rfl, rfl⟩

theorem State.startResponse_flow (p : Port) (s : State) : FlowStands s (s.startResponse p) := by
  unfold State.startResponse
  simp only
  split
  · split <;> exact ⟨rfl, rfl, rfl⟩
  · exact .refl s

theorem State.tick_flow (s : State) : FlowStands s s.tick := by
  by_cases h : s.power = .running
  · obtain ⟨m, c, ticked, _⟩ := s.tick_blocks h
    rw [ticked]
    exact ⟨rfl, rfl, rfl⟩
  · rw [State.tick, State.whenRunning_not _ _ h]
    exact .refl s

theorem State.framed_flow (fr : Frame) (s : State) : FlowStands s (s.framed fr) := by
  rw [State.framed_eq]
  exact ⟨rfl, rfl, rfl⟩

/-! ### The answers that leave both (R134 to R176) -/

theorem State.afterTimeLeft_flow (s : State) : FlowStands s s.afterTimeLeft := by
  unfold State.afterTimeLeft
  split <;> exact ⟨rfl, rfl, rfl⟩

theorem State.answerAttention_flow (p : Port) (e : EventSet) (th : Byte) (s : State) :
    FlowStands s (s.answerAttention p e th).state := by
  unfold State.answerAttention
  split <;> exact ⟨rfl, rfl, rfl⟩

theorem State.answerOpen_flow (p : Port) (s : State) : FlowStands s (s.answerOpen p).state := by
  unfold State.answerOpen
  split
  · exact ⟨rfl, rfl, rfl⟩
  · split
    · exact ⟨rfl, rfl, rfl⟩
    · exact s.afterTimeLeft_flow

theorem State.fieldAnswer_flow (st : Status) (field : Byte) (s : State) :
    FlowStands s (s.fieldAnswer st field).state := by
  unfold State.fieldAnswer
  simp only
  split <;> exact ⟨rfl, rfl, rfl⟩

theorem State.answerWrite_flow (p : Port) (field : Byte) (value : BitVec 32) (s : State) :
    FlowStands s (s.answerWrite p field value).state := by
  unfold State.answerWrite
  split
  · exact s.fieldAnswer_flow _ _
  · split
    · exact s.fieldAnswer_flow _ _
    · split
      · exact s.fieldAnswer_flow _ _
      · next x _ =>
        exact FlowStands.trans (t := (s.setPst { s.pst with staging := x }).refreshClaim p) ⟨rfl, rfl, rfl⟩
          (State.fieldAnswer_flow _ _ _)

theorem State.answerRead_flow (field slot : Byte) (s : State) : FlowStands s (s.answerRead field slot).state := by
  unfold State.answerRead
  split
  · exact .refl s
  · split
    · exact s.afterTimeLeft_flow
    · split
      · exact s.afterTimeLeft_flow
      · exact .refl s

theorem State.answerCommit_flow (p : Port) (s : State) : FlowStands s (s.answerCommit p).state := by
  unfold State.answerCommit
  split
  · exact .refl s
  · split
    · exact .refl s
    · split
      · exact .refl s
      · split <;> exact ⟨rfl, rfl, rfl⟩

theorem State.answerDrop_flow (p : Port) (s : State) : FlowStands s (s.answerDrop p).state := by
  unfold State.answerDrop
  split
  · exact .refl s
  · split <;> exact ⟨rfl, rfl, rfl⟩

theorem State.answerClearTotals_flow (p : Port) (s : State) : FlowStands s (s.answerClearTotals p).state := by
  unfold State.answerClearTotals
  simp only
  split <;> exact ⟨rfl, rfl, rfl⟩

theorem State.answerArm_flow (p : Port) (content which trigger : Byte) (s : State) :
    FlowStands s (s.answerArm p content which trigger).state := by
  unfold State.answerArm
  split
  · exact .refl s
  · split
    · exact .refl s
    · next c t _ =>
      have armed : FlowStands s (s.setCap ⟨some p, .armed, some c, some t, none, [], 0, false⟩) := ⟨rfl, rfl, rfl⟩
      simp only [State.arm]
      split
      · exact armed.trans (State.triggerCapture_only _).flow
      · exact armed

theorem State.answerReadCapture_state (p : Port) (offset : BitVec 16) (s : State) :
    (s.answerReadCapture p offset).state = s := by
  unfold State.answerReadCapture
  simp only
  split
  · rfl
  · split
    · rfl
    · split <;> rfl

theorem State.answerReleaseCapture_flow (p : Port) (s : State) : FlowStands s (s.answerReleaseCapture p).state := by
  unfold State.answerReleaseCapture
  split
  · exact .refl s
  · split <;> exact ⟨rfl, rfl, rfl⟩

/-! ### The moves of the solver and the guard -/

/-- What steps are made of, to the solver and the guard. -/
inductive FlowMoves : State → State → Prop
  /-- Both stand, and the profile store is edited at most. -/
  | stands {s t : State} (store : StoreEdited s.pst t.pst) (flow : FlowStands s t) : FlowMoves s t
  /-- R97, R111, R118. -/
  | powerOn (straps : PerPort StrapPair) (s : State) : FlowMoves s (s.powerOn straps)
  /-- R97, R111, R148. -/
  | endReset (straps : PerPort StrapPair) (s : State) : FlowMoves s (s.endReset straps)
  /-- R98, R111. -/
  | holdReset (s : State) : FlowMoves s s.holdReset
  /-- R98, R195. -/
  | losePower (s : State) : FlowMoves s s.losePower
  /-- R97, R191. -/
  | restart (s : State) : FlowMoves s s.restartBlocks
  /-- R8, R31, R96. -/
  | boundary (s : State) : FlowMoves s s.boundary
  /-- R44, R73. -/
  | complete (f : InFlight) (s : State) : FlowMoves s (s.complete (some f) f.window (s.sfe.resultSet f))
  /-- R106, R107. -/
  | release (s : State) : FlowMoves s s.releaseGuard
  /-- R86. -/
  | beginFlush (s : State) : FlowMoves s (s.setFsv (s.fsv.beginFlush s.active))
  /-- R88. -/
  | endFlush (s : State) : FlowMoves s (s.setFsv s.fsv.endFlush)
  /-- One after the other. -/
  | trans {s t u : State} (h : FlowMoves s t) (g : FlowMoves t u) : FlowMoves s u

theorem Stands.moves {s t : State} (h : Stands s t) (flow : FlowStands s t) : FlowMoves s t := .stands h.store flow

theorem FlowMoves.refl (s : State) : FlowMoves s s := (Stands.refl s).moves (.refl s)

/-- A change of blocks that are neither the store, the solver nor the guard. -/
theorem FlowMoves.of_blocks {s t : State} (hp : t.pst = s.pst) (flow : FlowStands s t) : FlowMoves s t :=
  .stands (hp ▸ .refl _) flow

theorem State.whenRunning_moves {f : State → State} {s : State} (h : FlowMoves s (f s)) :
    FlowMoves s (s.whenRunning f) := by
  unfold State.whenRunning
  split
  · exact h
  · exact .refl s

/-! ### Frames and completions -/

theorem State.closeFrame_moves (fr : Frame) (s : State) : FlowMoves s (s.closeFrame fr) := by
  have framed : FlowMoves s (s.framed fr) := .of_blocks (s.framed_pst fr) (s.framed_flow fr)
  show FlowMoves s (if (s.framed fr).sfe.windowPos = (s.framed fr).active.n then (s.framed fr).boundary
    else s.framed fr)
  split
  · exact framed.trans (.boundary _)
  · exact framed

theorem State.takeReply_moves (r : Ring) (x : Reply) (s : State) : FlowMoves s (s.takeReply r x) := by
  unfold State.takeReply
  split
  · exact .refl s
  · split
    · simp only
      split
      · exact s.closeFrame_moves _
      · exact .of_blocks rfl ⟨rfl, rfl, rfl⟩
    · exact .refl s

theorem State.takeDeadline_moves (s : State) : FlowMoves s s.takeDeadline := by
  unfold State.takeDeadline
  split
  · exact .refl s
  · exact s.closeFrame_moves _

theorem State.completeCorrelation_moves (s : State) : FlowMoves s s.completeCorrelation := by
  unfold State.completeCorrelation
  split
  · exact .refl s
  · exact .complete _ s

/-! ### The requests (R183, R189) -/

theorem State.answerRelease_moves (s : State) : FlowMoves s s.answerRelease.state := by
  unfold State.answerRelease
  simp only
  split
  · exact .release s
  · exact .refl s

theorem State.answerFlushBegin_moves (s : State) : FlowMoves s s.answerFlushBegin.state := by
  unfold State.answerFlushBegin
  split
  · exact .refl s
  · exact .beginFlush s

theorem State.answerFlushEnd_moves (s : State) : FlowMoves s s.answerFlushEnd.state := by
  unfold State.answerFlushEnd
  split
  · simp only
    split
    · exact .endFlush s
    · have noted (u : State) : OnlyReports u (u.recordFault flushKey) := u.noteFault_onlyReports _ _
      exact (FlowMoves.endFlush s).trans ((noted _).stands.moves (noted _).flow)
  · exact .refl s

theorem State.dispatch_moves (p : Port) (code : Nat) (payload : List Byte) (s : State) :
    FlowMoves s (s.dispatch p code payload).state := by
  unfold State.dispatch
  split
  · exact .refl s
  · exact .refl s
  · exact .refl s
  · rw [State.answerSlugs_state]; exact .refl s
  · exact .refl s
  · exact .refl s
  · exact .refl s
  · exact .refl s
  · exact .refl s
  · exact .of_blocks rfl ⟨rfl, rfl, rfl⟩
  · exact (s.answerAttention_stands _ _ _).moves (s.answerAttention_flow _ _ _)
  · exact (s.answerOpen_stands _).moves (s.answerOpen_flow _)
  · exact (s.answerWrite_stands _ _ _).moves (s.answerWrite_flow _ _ _)
  · exact (s.answerRead_stands _ _).moves (s.answerRead_flow _ _)
  · exact (s.answerCommit_stands _).moves (s.answerCommit_flow _)
  · exact (s.answerDrop_stands _).moves (s.answerDrop_flow _)
  · exact (s.answerClearTotals_stands _).moves (s.answerClearTotals_flow _)
  · exact s.answerRelease_moves
  · exact s.answerFlushBegin_moves
  · exact s.answerFlushEnd_moves
  · exact .restart s
  · exact (s.answerArm_stands _ _ _ _).moves (s.answerArm_flow _ _ _ _)
  · rw [State.answerReadCapture_state]; exact .refl s
  · exact (s.answerReleaseCapture_stands _).moves (s.answerReleaseCapture_flow _)
  · exact .of_blocks rfl ⟨rfl, rfl, rfl⟩
  · exact .of_blocks rfl ⟨rfl, rfl, rfl⟩
  · exact .refl s

theorem State.handle_moves (p : Port) (code : Byte) (payload : List Byte) (s : State) :
    FlowMoves s (s.handle p code payload).state := by
  unfold State.handle
  split
  · exact .refl s
  · split
    · exact s.dispatch_moves _ _ _
    · exact .refl s

theorem State.answer_moves (p : Port) (echo : Byte) (h : State → Answer) (s : State) (hk : FlowMoves s (h s).state) :
    FlowMoves s (s.answer p echo h) := hk.trans (.of_blocks rfl ⟨rfl, rfl, rfl⟩)

theorem State.request_moves (p : Port) (echo : Byte) (h : State → Answer) (s : State) (hk : FlowMoves s (h s).state) :
    FlowMoves s (s.request p echo h) := by
  unfold State.request
  split
  · split
    · exact s.answer_moves p echo h hk
    · exact .of_blocks rfl ⟨rfl, rfl, rfl⟩
    · exact .refl s
  · exact .refl s

theorem State.frameEnds_moves (p : Port) (buf : List Byte) (s : State) : FlowMoves s (s.frameEnds p buf) := by
  unfold State.frameEnds
  split
  · exact .of_blocks rfl ⟨rfl, rfl, rfl⟩
  · split
    · split
      · exact s.answer_moves _ _ _ (s.handle_moves _ _ _)
      · exact .of_blocks rfl ⟨rfl, rfl, rfl⟩
    · exact .of_blocks rfl ⟨rfl, rfl, rfl⟩

theorem State.receive_moves (p : Port) (x : Byte) (framingError : Bool) (s : State) :
    FlowMoves s (s.receive p x framingError) := by
  unfold State.receive
  simp only
  split
  · exact .refl s
  · split
    · exact .of_blocks rfl ⟨rfl, rfl, rfl⟩
    · split <;> exact .of_blocks rfl ⟨rfl, rfl, rfl⟩
    · split
      · exact .of_blocks rfl ⟨rfl, rfl, rfl⟩
      · split
        · exact .of_blocks rfl ⟨rfl, rfl, rfl⟩
        · split
          · exact s.frameEnds_moves _ _
          · exact .of_blocks rfl ⟨rfl, rfl, rfl⟩

/-! ### The commands -/

theorem exec_moves (i : Instr) (s t : State) (h : exec i s = .next t) : FlowMoves s t := by
  cases i with
  | powerOnReset straps => cases h; exact .powerOn straps s
  | nrstAsserted =>
    cases h
    split
    · exact .refl s
    · exact .holdReset s
    · exact .holdReset s
  | nrstReleased straps =>
    cases h
    split
    · exact .endReset straps s
    · exact .refl s
    · exact .refl s
  | powerLoss => cases h; exact .losePower s
  | frameStrobe => cases h; exact State.whenRunning_moves (s.strobeFrame_stands.moves s.strobeFrame_flow)
  | ringReply r code parity => cases h; exact State.whenRunning_moves (s.takeReply_moves _ _)
  | replyDeadline => cases h; exact State.whenRunning_moves s.takeDeadline_moves
  | correlationCompletion => cases h; exact State.whenRunning_moves s.completeCorrelation_moves
  | pulseWidthElapsed | gapElapsed | stableTimeReached | idleGapElapsed p | responseEnd p =>
    cases h
    exact State.whenRunning_moves (.of_blocks rfl ⟨rfl, rfl, rfl⟩)
  | crystalFailure => cases h; exact State.whenRunning_moves (s.crystalFails_stands.moves s.crystalFails_flow)
  | claimExpiry =>
    cases h
    exact State.whenRunning_moves ((s.reachExpiry_stands.trans (State.expireClaim_stands _)).moves
      (s.reachExpiry_flow.trans (State.expireClaim_flow _)))
  | nvWriteCompletion agrees =>
    cases h
    exact State.whenRunning_moves ((s.nvComplete_stands agrees).moves (s.nvComplete_flow agrees))
  | captureCopyCompletion => cases h; exact State.whenRunning_moves (s.copyEnds_stands.moves s.copyEnds_flow)
  | byteReceived p x framingError => cases h; exact State.whenRunning_moves (s.receive_moves p x framingError)
  | interByteTimeout p =>
    cases h
    exact State.whenRunning_moves ((s.byteTimeout_stands p).moves (s.byteTimeout_flow p))
  | unknownCommand p code =>
    cases h
    split
    · exact .refl s
    · exact s.request_moves _ _ _ (.refl s)
  | responseStart p =>
    cases h
    exact State.whenRunning_moves ((s.startResponse_stands p).moves (s.startResponse_flow p))
  | identify p => cases h; exact s.request_moves _ _ _ (s.dispatch_moves p 0x01 [])
  | readFlow p => cases h; exact s.request_moves _ _ _ (s.dispatch_moves p 0x10 [])
  | readPairs p => cases h; exact s.request_moves _ _ _ (s.dispatch_moves p 0x11 [])
  | readSlugs p start => cases h; exact s.request_moves _ _ _ (s.dispatch_moves p 0x12 [start])
  | readDeparted p => cases h; exact s.request_moves _ _ _ (s.dispatch_moves p 0x13 [])
  | readHealth p => cases h; exact s.request_moves _ _ _ (s.dispatch_moves p 0x14 [])
  | readTotals p => cases h; exact s.request_moves _ _ _ (s.dispatch_moves p 0x15 [])
  | readStats p => cases h; exact s.request_moves _ _ _ (s.dispatch_moves p 0x16 [])
  | readFaults p => cases h; exact s.request_moves _ _ _ (s.dispatch_moves p 0x17 [])
  | takeEvents p remove => cases h; exact s.request_moves _ _ _ (.of_blocks rfl ⟨rfl, rfl, rfl⟩)
  | setAttention p enable threshold =>
    cases h
    exact s.request_moves _ _ _ ((s.answerAttention_stands _ _ _).moves (s.answerAttention_flow _ _ _))
  | openEdit p => cases h; exact s.request_moves _ _ _ (s.dispatch_moves p 0x30 [])
  | writeField p field value =>
    cases h
    exact s.request_moves _ _ _ ((s.answerWrite_stands _ _ _).moves (s.answerWrite_flow _ _ _))
  | readField p field slot => cases h; exact s.request_moves _ _ _ (s.dispatch_moves p 0x32 [field, slot])
  | commitEdit p => cases h; exact s.request_moves _ _ _ (s.dispatch_moves p 0x33 [])
  | dropEdit p => cases h; exact s.request_moves _ _ _ (s.dispatch_moves p 0x34 [])
  | clearTotals p => cases h; exact s.request_moves _ _ _ (s.dispatch_moves p 0x35 [])
  | guardRelease p => cases h; exact s.request_moves _ _ _ (s.dispatch_moves p 0x40 [])
  | flushBegin p => cases h; exact s.request_moves _ _ _ (s.dispatch_moves p 0x41 [])
  | flushEnd p => cases h; exact s.request_moves _ _ _ (s.dispatch_moves p 0x42 [])
  | restart p => cases h; exact s.request_moves _ _ _ (s.dispatch_moves p 0x43 [])
  | armCapture p content which trigger =>
    cases h
    exact s.request_moves _ _ _ (s.dispatch_moves p 0x50 [content, which, trigger])
  | readCapture p offset =>
    cases h
    refine s.request_moves _ _ _ ?_
    rw [State.answerReadCapture_state]
    exact .refl s
  | releaseCapture p => cases h; exact s.request_moves _ _ _ (s.dispatch_moves p 0x52 [])
  | clearFaults p => cases h; exact s.request_moves _ _ _ (s.dispatch_moves p 0x60 [])
  | clearStats p => cases h; exact s.request_moves _ _ _ (s.dispatch_moves p 0x61 [])

/-- What a step can do to the solver and the guard. -/
theorem step_moves (s t : State) (h : step s = .next t) : FlowMoves s t := by
  unfold step at h
  split at h
  · cases h
    exact s.tick_stands.moves s.tick_flow
  · next c rest _ =>
    have taken : FlowMoves s (s.setPending rest) := .of_blocks rfl ⟨rfl, rfl, rfl⟩
    exact taken.trans (exec_moves c _ t h)

end Sys2Proof.Machine
end

section
/-!
PROOFS. RecordAgreesKept: the solver's ranges, its margin and its φ in a flush, through every move of the solver
(R77, R82, R83, R86, R91, R92, R96, R97).
-/

namespace Sys2Proof.Machine

open Sys2Proof.Claim

/-! ### What is kept, of the solver alone -/

/-- The standing record and the last measured velocity in their ranges, with the margin and the φ that the record's
status and the flush give. -/
structure Fsv.Agrees (f : Fsv) : Prop where
  v : f.record.v ≤ 20000
  phi : f.record.phi ≤ 6000
  vDep : f.record.vDep ≤ 10000
  lastV : ∀ v, f.lastV = some v → v ≤ 20000
  unmeasured : f.record.status = .lost ∨ f.record.status = .filling → f.record.v = 0 ∧ f.record.margin = none
  margin : f.record.status ≠ .lost → f.record.status ≠ .filling →
    f.record.margin = some ((f.record.v : Int) - f.record.vDep)
  flush : f.flush = true → f.record.phi = 0 ∧ f.record.phiSource = .flush

theorem recordAgrees_iff (s : State) : RecordAgrees s ↔ s.fsv.Agrees :=
  ⟨fun ⟨v, phi, vDep, lastV, unmeasured, margin, flush⟩ => ⟨v, phi, vDep, lastV, unmeasured, margin, flush⟩,
    fun ⟨v, phi, vDep, lastV, unmeasured, margin, flush⟩ => ⟨v, phi, vDep, lastV, unmeasured, margin, flush⟩⟩

/-- A solver agrees where another one with its record, last measured velocity and flush does. -/
theorem Fsv.Agrees.congr {f x : Fsv} (h : f.Agrees) (record : x.record = f.record) (lastV : x.lastV = f.lastV)
    (flush : x.flush = f.flush) : x.Agrees := by
  obtain ⟨v, phi, vDep, last, unmeasured, margin, flushed⟩ := h
  rw [← record] at v phi vDep unmeasured margin flushed
  rw [← lastV] at last
  rw [← flush] at flushed
  exact ⟨v, phi, vDep, last, unmeasured, margin, flushed⟩

/-- A solver without a measurement agrees where φ, its source and Vc do (R96, R97). -/
theorem Fsv.Agrees.of_filling {f : Fsv} (status : f.record.status = .filling)
    (unmeasured : f.record.v = 0 ∧ f.record.margin = none) (lastV : f.lastV = none) (phi : f.record.phi ≤ 6000)
    (vDep : f.record.vDep ≤ 10000) (flush : f.flush = true → f.record.phi = 0 ∧ f.record.phiSource = .flush) :
    f.Agrees where
  v := unmeasured.1.le.trans (Nat.zero_le _)
  phi := phi
  vDep := vDep
  lastV v hv := by
    rw [lastV] at hv
    cases hv
  unmeasured _ := unmeasured
  margin _ filling := absurd status filling
  flush := flush

theorem Fsv.start_agrees (p : Profile) (accepted : p.accepted = true) : (Fsv.start p).Agrees :=
  .of_filling rfl ⟨rfl, rfl⟩ rfl (Nat.zero_le _) (depositionVelocity_le p accepted 0) nofun

theorem Fsv.restart_agrees (p : Profile) (degraded : Bool) (g : GuardState) (f : Fsv) (accepted : p.accepted = true) :
    (f.restart p degraded g).Agrees :=
  .of_filling rfl ⟨rfl, rfl⟩ rfl (Nat.zero_le _) (depositionVelocity_le p accepted 0) fun h => ⟨rfl, if_pos h⟩

/-- FLUSH_BEGIN amends the margin with the deposition velocity (R86). -/
theorem Fsv.Agrees.beginFlush {f : Fsv} (h : f.Agrees) (p : Profile) (accepted : p.accepted = true) :
    (f.beginFlush p).Agrees where
  v := h.v
  phi := Nat.zero_le _
  vDep := depositionVelocity_le p accepted 0
  lastV := h.lastV
  unmeasured none := ⟨(h.unmeasured none).1, congrArg (Option.map _) (h.unmeasured none).2⟩
  margin lost filling := congrArg (Option.map _) (h.margin lost filling)
  flush _ := ⟨rfl, rfl⟩

theorem Fsv.Agrees.endFlush {f : Fsv} (h : f.Agrees) : f.endFlush.Agrees := by
  unfold Fsv.endFlush
  split <;> exact ⟨h.v, h.phi, h.vDep, h.lastV, h.unmeasured, h.margin, nofun⟩

theorem Fsv.Agrees.writeGuard {f : Fsv} (h : f.Agrees) (g : GuardState) : (f.writeGuard g).Agrees :=
  ⟨h.v, h.phi, h.vDep, h.lastV, h.unmeasured, h.margin, h.flush⟩

/-- A geometry commit sets a FILLING record that keeps φ and Vc, and another commit keeps the record (R96). -/
theorem Fsv.Agrees.applyCommit {f : Fsv} (h : f.Agrees) (old new : Profile) (w : Index) (degraded : Bool)
    (g : GuardState) : (f.applyCommit old new w degraded g).Agrees := by
  have flush : (f.applyCommit old new w degraded g).flush = f.flush := by
    obtain ⟨_, _, _, _, flush, _⟩ := f.applyCommit_fields old new w degraded g
    exact flush
  cases geometry : isGeometry old new with
  | true =>
    obtain ⟨record, _, lastV, _⟩ := f.applyCommit_geometry old new w degraded g geometry
    refine .of_filling ?_ ?_ lastV ?_ ?_ ?_ <;> rw [record]
    · rfl
    · exact ⟨rfl, rfl⟩
    · exact h.phi
    · exact h.vDep
    · rw [flush]
      exact h.flush
  | false =>
    have kept : (f.applyCommit old new w degraded g).record = f.record
        ∧ (f.applyCommit old new w degraded g).lastV = f.lastV := by
      simp only [Fsv.applyCommit, geometry, Bool.false_eq_true, if_false]
      split_ifs <;> exact ⟨rfl, rfl⟩
    exact h.congr kept.1 kept.2 flush

/-! ### A publication (R73) -/

/-- A record computed under an acceptable profile from pair velocities in their range agrees. -/
theorem State.solverAfter_agrees (w : Index) (rs : PerSlot (Option PairResult)) (s : State)
    (accepted : s.active.accepted = true) (range : VelocitiesInRange rs) (h : s.fsv.Agrees) :
    (s.solverAfter (s.computeRecord w rs)).Agrees := by
  have velocity : (s.computeRecord w rs).v ≤ 20000 :=
    velocityChain_le _ _ _ _ _ _ (corrVelocity_le rs range) s.windowSlugVelocity_le h.lastV
  refine ⟨velocity, phiChoice_le _ _ _ _ h.phi, depositionVelocity_le _ accepted _,
    lastAfter_le _ _ _ _ velocity h.lastV, fun none => ?_, marginOf_measured _ _ _, fun flush => ?_⟩
  · have lost : (s.computeRecord w rs).status = .lost := none.resolve_right (s.computeRecord_status_ne w rs)
    refine ⟨velocityChain_lost _ _ _ _ _ lost, ?_⟩
    show marginOf (s.computeRecord w rs).status _ _ = .none
    rw [lost]
    rfl
  · have chosen : phiChoice s.fsv.flush s.meanOfRings s.fsv.sigma s.fsv.record.phi = (0, .flush) := if_pos flush
    exact ⟨congrArg Prod.fst chosen, congrArg Prod.snd chosen⟩

theorem State.complete_agrees (c : Option InFlight) (w : Index) (rs : PerSlot (Option PairResult)) (s : State)
    (accepted : s.active.accepted = true) (range : VelocitiesInRange rs) (h : s.fsv.Agrees) :
    (s.complete c w rs).fsv.Agrees := by
  rw [State.complete_eq, State.publish_fsv]
  refine (State.solverAfter_agrees w rs _ ?_ range ?_).writeGuard _
  · rwa [State.active, State.completed_pst]
  · rwa [State.completed_fsv]

/-- A boundary applies its commit to the solver and may publish a record without pairs under the profile then active
(R31, R96). -/
theorem State.boundary_agrees (s : State) (wf : s.pst.Wf) (h : s.fsv.Agrees) : s.boundary.fsv.Agrees := by
  have start := s.boundaryCore_start
  have core : s.boundaryCore.fsv.Agrees := by
    rw [start.fsv]
    exact h.applyCommit _ _ _ _ _
  cases completes : s.boundaryCore.completesWithoutPairs with
  | false =>
    rw [(s.boundary_plain completes).fsv]
    exact core
  | true =>
    obtain ⟨after, _, _⟩ := s.boundary_publishes completes
    obtain ⟨_, _, _, _, _, before⟩ := s.publishing_onlyAside
    have accepted : s.publishing.active.accepted = true := by
      have next := (s.boundary_wf wf).1
      rw [State.boundary_active] at next
      rw [before, State.active, start.pst]
      exact next
    rw [after.flow.fsv]
    refine State.complete_agrees _ _ _ _ accepted noResults_inRange ?_
    rw [before]
    exact core

/-! ### Every step -/

/-- From `s` to `t` the store stays well-formed and the solver agrees on. -/
structure KeepsRecord (s t : State) : Prop where
  wf : s.pst.Wf → t.pst.Wf
  agrees : s.pst.Wf → s.fsv.Agrees → t.fsv.Agrees

theorem KeepsRecord.trans {s t u : State} (h : KeepsRecord s t) (g : KeepsRecord t u) : KeepsRecord s u :=
  ⟨g.wf ∘ h.wf, fun wf agrees => g.agrees (h.wf wf) (h.agrees wf agrees)⟩

/-- The solver of a POR and an NRST's end starts under the profile that the store has loaded (R97, R148). -/
theorem State.startBlocks_fsv (straps : PerPort StrapPair) (s : State) :
    (s.startBlocks straps).fsv = Fsv.start (s.startBlocks straps).pst.active := by
  unfold State.startBlocks
  simp only
  split <;> simp [State.recordFault, Pst.start]

theorem State.powerOn_fsv (straps : PerPort StrapPair) (s : State) :
    (s.powerOn straps).fsv = (s.startBlocks straps).fsv := by
  unfold State.powerOn
  simp only
  split <;> simp

theorem State.startBlocks_agrees (straps : PerPort StrapPair) (s : State) : (s.startBlocks straps).fsv.Agrees := by
  rw [State.startBlocks_fsv]
  exact Fsv.start_agrees _ (s.startBlocks_wf straps).1

theorem FlowMoves.keepsRecord {s t : State} (h : FlowMoves s t) : KeepsRecord s t := by
  induction h with
  | stands store flow => exact ⟨store.wf, fun _ agrees => by rwa [flow.fsv]⟩
  | powerOn straps s =>
    refine ⟨fun _ => ?_, fun _ _ => ?_⟩
    · rw [State.powerOn_pst]
      exact s.startBlocks_wf straps
    · rw [State.powerOn_fsv]
      exact s.startBlocks_agrees straps
  | endReset straps s => exact ⟨fun _ => s.startBlocks_wf straps, fun _ _ => s.startBlocks_agrees straps⟩
  | holdReset s => exact ⟨s.holdReset_stands.store.wf, fun _ => id⟩
  | losePower s => exact ⟨s.losePower_stands.store.wf, fun _ => id⟩
  | restart s => exact ⟨id, fun wf _ => s.fsv.restart_agrees _ _ _ wf.1⟩
  | boundary s => exact ⟨s.boundary_wf, s.boundary_agrees⟩
  | complete f s =>
    exact ⟨(s.complete_stands _ _ _).store.wf,
      fun wf => s.complete_agrees _ _ _ wf.1 (s.sfe.resultSet_inRange f)⟩
  | release s => exact ⟨id, fun _ agrees => agrees.writeGuard _⟩
  | beginFlush s => exact ⟨id, fun wf agrees => agrees.beginFlush _ wf.1⟩
  | endFlush s => exact ⟨id, fun _ agrees => agrees.endFlush⟩
  | trans _ _ first second => exact first.trans second

/-- Settles O31: the solver agrees through every move that a step is made of. -/
theorem recordAgreesKept : Obligations.RecordAgreesKept := by
  unfold Obligations.RecordAgreesKept
  rintro s t ⟨wf, record⟩ h
  have kept := (step_moves s t h).keepsRecord
  exact ⟨kept.wf wf, (recordAgrees_iff t).2 (kept.agrees wf ((recordAgrees_iff s).1 record))⟩

end Sys2Proof.Machine
end

section
/-!
PROOFS. SolverAndGuardAfterReset: the solver and the guard after each start (R89, R97, R111).
-/

namespace Sys2Proof.Machine

open Sys2Proof.Claim

/-! ### The starts -/

theorem pipeArea_eq (bore : Nat) : pipeArea bore = round (bore ^ 2 * 51472) 65536 := roundDiv_eq_round _ _

theorem State.startBlocks_dgd (straps : PerPort StrapPair) (s : State) : (s.startBlocks straps).dgd = Dgd.reset := by
  unfold State.startBlocks
  simp only
  split <;> simp [State.recordFault]

theorem State.powerOn_dgd (straps : PerPort StrapPair) (s : State) :
    (s.powerOn straps).dgd = (s.startBlocks straps).dgd := by
  unfold State.powerOn
  simp only
  split <;> simp

/-- A running part whose front end, solver and guard have just started under an acceptable profile. -/
structure FlowStarted (t : State) : Prop where
  power : t.power = .running
  sfe : t.sfe = Sfe.reset
  fsv : t.fsv = Fsv.start t.pst.active
  dgd : t.dgd = Dgd.reset
  accepted : t.pst.active.accepted = true

theorem FlowStarted.of_startBlocks {straps : PerPort StrapPair} {s t : State} (h : Started (s.startBlocks straps) t)
    (fsv : t.fsv = (s.startBlocks straps).fsv) (dgd : t.dgd = (s.startBlocks straps).dgd) : FlowStarted t := by
  obtain ⟨running, front, _⟩ := s.startBlocks_measurement straps
  obtain ⟨power, sfe, _, _, active⟩ := h
  refine ⟨power.trans running, sfe.trans front, ?_, dgd.trans (s.startBlocks_dgd straps), ?_⟩
  · rw [fsv, State.startBlocks_fsv, active]
  · rw [active]
    exact (s.startBlocks_wf straps).1

theorem afterStart_of_flow (straps : PerPort StrapPair) (s : State) (post : State → Prop)
    (h : ∀ t, FlowStarted t → post t) : AfterStart s straps post := by
  have power := FlowStarted.of_startBlocks (s.powerOn_started straps) (s.powerOn_fsv straps) (s.powerOn_dgd straps)
  have ended : FlowStarted (s.endReset straps) := .of_startBlocks (s.endReset_started straps) rfl rfl
  refine ⟨⟨_, rfl, power.power, h _ power⟩, fun held => ⟨s.endReset straps, ?_, ended.power, h _ ended⟩⟩
  show Host.Outcome.next (match s.power with | .held => s.endReset straps | .off | .running => s) = _
  rw [held]

/-! ### The statement -/

/-- Settles O9: a POR and an NRST's end start the solver under the profile they load, and a RESTART sets the FILLING
record alone. -/
theorem solverAndGuardAfterReset : Obligations.SolverAndGuardAfterReset := by
  unfold Obligations.SolverAndGuardAfterReset
  intro straps p s filling
  refine ⟨afterStart_of_flow straps s _ fun t ⟨_, sfe, fsv, dgd, accepted⟩ => ?_,
    fun accepted => afterRestart_of p s _ ?_⟩
  · simp only [filling, fsv, dgd, sfe]
    exact ⟨⟨rfl, rfl, rfl, rfl, rfl, rfl, rfl, rfl, rfl, rfl, rfl, rfl, rfl, rfl, rfl, rfl, rfl, rfl, rfl, rfl⟩, rfl,
      depositionVelocity_zero _ accepted, rfl, rfl, rfl, rfl, pipeArea_eq _, rfl⟩
  · exact ⟨⟨rfl, rfl, rfl, rfl, rfl, rfl, rfl, rfl, rfl, rfl, rfl, rfl, rfl, rfl, rfl, rfl, rfl, rfl, rfl, rfl⟩, rfl,
      depositionVelocity_zero _ accepted, rfl, rfl, rfl, rfl, rfl, rfl⟩

end Sys2Proof.Machine
end

section
/-!
PROOFS. VelocityChain and LineStateMoves: the velocity, the hold state, the flows, the margin and the line state of the
record that a completion publishes (R76 to R79, R90, R92, R93).
-/

namespace Sys2Proof.Machine

open Sys2Proof.Claim

/-! ### The record of a completion (R73) -/

theorem State.publish_solver (w : Index) (rs : PerSlot (Option PairResult)) (s : State) :
    (s.publish w rs).fsv
      = (s.solverAfter (s.computeRecord w rs)).writeGuard (s.dgd.step s.active (s.computeRecord w rs)).state := by
  rw [State.publish_fsv]
  rfl

/-- What the solver computes at a completion rests on nothing that the completion has changed before (R44, R73). -/
theorem State.completed_solver (c : Option InFlight) (w : Index) (rs : PerSlot (Option PairResult)) (s : State) :
    (s.completed c w rs).solverAfter ((s.completed c w rs).computeRecord w rs) = s.solverAfter (s.computeRecord w rs) := by
  rw [State.completed_eq]
  rfl

/-- The results and the solver after a completion, from the state as the completion found it; `g` is the guard's. -/
theorem exec_completion_solver (f : InFlight) (s : State) (h : InFlightNow f s) :
    ∃ t g, exec .correlationCompletion s = .next t ∧ t.xcr.results = s.sfe.resultSet f
      ∧ t.fsv = (s.solverAfter (s.computeRecord f.window (s.sfe.resultSet f))).writeGuard g := by
  have published := State.publish_solver f.window (s.sfe.resultSet f) (s.completed (some f) f.window (s.sfe.resultSet f))
  rw [State.completed_solver] at published
  refine ⟨_, _, exec_correlationCompletion f s h, ?_, published⟩
  rw [State.publish_xcr, State.completed_xcr]

/-! ### The velocity chain (R76 to R79) -/

/-- The valid results in the words of the statements. -/
theorem validResults_eq (rs : PerSlot (Option PairResult)) : validResults rs = [Slot.s0, .s1, .s2].filterMap fun k =>
    (rs.get k).bind fun x => match x.verdict with
      | .valid vp => some (x.q, vp)
      | .invalid _ => none := by
  have slots : rs.toList = [Slot.s0, .s1, .s2].map rs.get := rfl
  rw [validResults, slots, List.filterMap_map]
  refine List.filterMap_congr fun k _ => Option.bind_congr fun x _ => ?_
  unfold PairResult.vp?
  cases x.verdict <;> rfl

theorem validResults_nil (rs : PerSlot (Option PairResult)) :
    validResults rs = [] ↔ ∀ k x v, rs.get k = some x → x.verdict ≠ .valid v := by
  rw [List.eq_nil_iff_forall_not_mem]
  constructor
  · intro none k x v hx hv
    refine none (x.q, v) ?_
    rw [validResults_eq, List.mem_filterMap]
    refine ⟨k, by cases k <;> simp, ?_⟩
    rw [hx, Option.bind_some, hv]
  · intro none x hx
    obtain ⟨k, r, hr, hv⟩ := mem_validResults rs x hx
    exact none k r x.2 hr hv

theorem State.windowSlugVelocity_eq (s : State) : s.windowSlugVelocity = if 1 ≤ s.stk.sumCount then
    some (min 20000 (round (s.stk.sumDistance * s.pst.active.fs) s.stk.sumTransit)) else none := by
  rw [State.windowSlugVelocity, slugVelocity, roundDiv_eq_round]
  rfl

theorem disagrees_iff (vc vs : Option Nat) : disagrees vc vs = true ↔ ∃ c v, vc = some c ∧ vs = some v
    ∧ 15 * (c : Int) < |(c : Int) - v| * 100 := by
  rcases vc with _ | c
  · simp [disagrees]
  · rcases vs with _ | v <;> simp [disagrees]

/-- The hold counter and the last measured velocity after a record, row by row (R78). -/
theorem hold_moves (st : VelStatus) (v hold : Nat) (lastV : Option Nat) :
    (st = .correlated ∨ st = .slug → holdAfter st hold = 0 ∧ lastAfter st v lastV = some v)
    ∧ (st = .held → holdAfter st hold = hold + 1 ∧ lastAfter st v lastV = lastV)
    ∧ (st = .lost → holdAfter st hold = hold ∧ lastAfter st v lastV = lastV) := by
  refine ⟨?_, ?_, ?_⟩
  · rintro (rfl | rfl) <;> exact ⟨rfl, rfl⟩
  · rintro rfl
    exact ⟨rfl, rfl⟩
  · rintro rfl
    exact ⟨rfl, rfl⟩

theorem marginOf_lost (st : VelStatus) (v vDep : Nat) (lost : st = .lost) : marginOf st v vDep = none := by
  rw [lost]
  rfl

/-- The order of preference of the chain (R77). -/
theorem velocityChain_prefers (vc vs lastV : Option Nat) (hold windows : Nat) :
    let r := velocityChain vc vs lastV hold windows
    (∀ v, vc = some v → r.1 = .correlated ∧ r.2 = v)
    ∧ (∀ v, vc = none → vs = some v → r.1 = .slug ∧ r.2 = v)
    ∧ (∀ v, vc = none → vs = none → lastV = some v → hold < windows → r.1 = .held ∧ r.2 = v)
    ∧ (vc = none → vs = none → lastV = none ∨ windows ≤ hold → r.1 = .lost ∧ r.2 = 0) := by
  intro r
  refine ⟨?_, ?_, ?_, ?_⟩
  · rintro v rfl
    exact ⟨rfl, rfl⟩
  · rintro v rfl rfl
    exact ⟨rfl, rfl⟩
  · rintro v rfl rfl rfl held
    have row : r = (.held, v) := if_pos held
    exact ⟨congrArg Prod.fst row, congrArg Prod.snd row⟩
  · rintro rfl rfl lost
    rcases lastV with _ | v
    · exact ⟨rfl, rfl⟩
    · have row : r = (.lost, 0) := if_neg (Nat.not_lt.2 (lost.resolve_left (by simp)))
      exact ⟨congrArg Prod.fst row, congrArg Prod.snd row⟩

/-- Settles O29: each item of the record is the model's formula for it, over the results and the solver as the
completion found them. -/
theorem velocityChainOfCompletion : Obligations.VelocityChain := by
  unfold Obligations.VelocityChain
  intro f s h
  obtain ⟨t, g, ran, results, solver⟩ := exec_completion_solver f s h
  refine ⟨t, ran, ?_⟩
  rw [results, solver]
  intro r
  have chain := velocityChain_prefers (corrVelocity (s.sfe.resultSet f)) s.windowSlugVelocity s.fsv.lastV s.fsv.hold
    s.active.holdWindows
  obtain ⟨correlated, slug, held, lost⟩ := chain
  obtain ⟨measured, holds, stands⟩ := hold_moves r.status r.v s.fsv.hold s.fsv.lastV
  have mean (v : Nat) (hv : corrVelocity (s.sfe.resultSet f) = some v) := corrVelocity_some _ v hv
  simp only [validResults_eq] at mean
  exact ⟨s.windowSlugVelocity_eq, (corrVelocity_none _).trans (validResults_nil _), mean, correlated, slug, held, lost, measured,
    holds, stands, disagrees_iff _ _, roundDiv_eq_round _ _, roundDiv_eq_round _ _,
    marginOf_lost _ _ _, fun measured => marginOf_measured _ _ _ measured (s.computeRecord_status_ne f.window (s.sfe.resultSet f)),
    rfl, rfl, rfl, rfl⟩

/-! ### The line state (R93) -/

/-- A LOST record moves neither the line nor its arm count. -/
theorem lineStep_lost (p : Profile) (v : Nat) (line : LineState) (arm : Nat) : lineStep p .lost v line arm = (line, arm) :=
  if_pos rfl

theorem lineStep_below (p : Profile) (st : VelStatus) (v : Nat) (line : LineState) (arm : Nat) (measured : st ≠ .lost)
    (below : v < p.stopVel) : lineStep p st v line arm = (.stopped, 0) :=
  (if_neg measured).trans (if_pos below)

section
variable (p : Profile) (st : VelStatus) (v arm : Nat) (measured : st ≠ .lost) (moving : p.stopVel ≤ v)
include measured moving

theorem lineStep_stopped : lineStep p st v .stopped arm = if p.armWindows ≤ 1 then (.running, 1) else (.starting, 1) :=
  (if_neg measured).trans (if_neg (Nat.not_lt.2 moving))

theorem lineStep_starting : lineStep p st v .starting arm
    = if p.armWindows ≤ arm + 1 then (.running, p.armWindows) else (.starting, arm + 1) :=
  (if_neg measured).trans (if_neg (Nat.not_lt.2 moving))

theorem lineStep_running : lineStep p st v .running arm = (.running, arm) :=
  (if_neg measured).trans (if_neg (Nat.not_lt.2 moving))

end

/-- Settles O32: the four situations of the line table, each by the equation for it. -/
theorem lineStateMoves : Obligations.LineStateMoves := by
  unfold Obligations.LineStateMoves
  intro f s h
  obtain ⟨t, g, ran, _, solver⟩ := exec_completion_solver f s h
  refine ⟨t, ran, ?_⟩
  intro r p
  have line : (t.fsv.line, t.fsv.armCount) = lineStep p r.status r.v s.fsv.line s.fsv.armCount := by
    simp only [r, p, solver]
    rfl
  have agrees : r.line = t.fsv.line := by
    simp only [r, solver]
    rfl
  refine ⟨agrees, ?_, ?_, ?_, ?_, ?_⟩
  · intro lost
    rw [lost, lineStep_lost] at line
    exact Prod.mk.inj line
  · intro measured below
    rw [lineStep_below p _ _ _ _ measured below] at line
    obtain ⟨stopped, arm⟩ := Prod.mk.inj line
    exact ⟨stopped, fun _ => arm⟩
  · intro measured moving was some
    rw [was, lineStep_stopped p _ _ _ measured moving] at line
    by_cases one : p.armWindows = 1
    · obtain ⟨running, arm⟩ := Prod.mk.inj (line.trans (if_pos one.le))
      exact ⟨arm, running.trans (if_pos one).symm⟩
    · obtain ⟨starting, arm⟩ := Prod.mk.inj (line.trans (if_neg (by omega)))
      exact ⟨arm, starting.trans (if_neg one).symm⟩
  · intro measured moving was
    rw [was, lineStep_starting p _ _ _ measured moving] at line
    exact ⟨fun armed => Prod.mk.inj (line.trans (if_pos armed)),
      fun short => Prod.mk.inj (line.trans (if_neg (by omega)))⟩
  · intro measured moving was
    rw [was, lineStep_running p _ _ _ measured moving] at line
    exact Prod.mk.inj line

end Sys2Proof.Machine
end

section
/-!
PROOFS. SolidsFraction: φ, the drift mark, the flush accumulator and the deposition velocity of the record that a
completion publishes (R81 to R84, R87, R91).
-/

namespace Sys2Proof.Machine

open Sys2Proof.Claim

/-- The rings of the mean code in the words of the statements (R81). -/
theorem State.chain_eq_live (s : State) : s.chain = Ring.all.filter fun x =>
    decide (x.num < s.pst.active.ringCount) && decide ((s.sfe.rings.get x).health ≠ .failed) :=
  List.filter_congr fun x _ => isLive_eq_live s x

theorem State.meanOfRings_none (s : State) (dark : s.chain = []) : s.meanOfRings = none := if_pos dark

theorem State.meanOfRings_some (s : State) (lit : s.chain ≠ []) :
    s.meanOfRings = some ((s.chain.map fun r => (s.sfe.rings.get r).reportedMean).sum / s.chain.length) := if_neg lit

/-- φ of a ratio (R82). -/
theorem phiOfRatio_rows (r : Nat) : (65536 ≤ r → phiOfRatio r = 0)
    ∧ (r < 65536 → phiOfRatio r = min 6000 (round (20000 * (65536 - r)) (131072 + r))) := by
  refine ⟨fun clear => if_pos clear, fun solid => ?_⟩
  rw [phiOfRatio, if_neg (Nat.not_le.2 solid), roundDiv_eq_round]

/-- Settles O30: with no live ring there is no mean code, with one there is, and every item follows from the mean
code and the flush flag by its own equation. -/
theorem solidsFraction : Obligations.SolidsFraction := by
  unfold Obligations.SolidsFraction
  intro f s h
  obtain ⟨t, g, ran, _, solver⟩ := exec_completion_solver f s h
  refine ⟨t, ran, ?_⟩
  intro r live code mbar ratio
  have chain : s.chain = live := s.chain_eq_live
  have dark (none : live = []) : s.meanOfRings = .none := s.meanOfRings_none (chain.trans none)
  have lit (some : live ≠ []) : s.meanOfRings = .some mbar := by
    rw [s.meanOfRings_some (chain ▸ some), chain]
    rfl
  have phi : (r.phi, r.phiSource) = phiChoice s.fsv.flush s.meanOfRings s.fsv.sigma s.fsv.record.phi := by
    simp only [r, solver]
    rfl
  have drift : r.carrierDrift = driftMark s.meanOfRings s.fsv.sigma := by
    simp only [r, solver]
    rfl
  have acc : t.fsv.acc = accAfter s.fsv.flush s.meanOfRings s.fsv.acc := by
    simp only [solver]
    rfl
  have vDep : r.vDep = depositionVelocity r.phi s.pst.active.depTable := by
    simp only [r, solver]
    rfl
  refine ⟨?_, ?_, ?_, ?_, ?_, ?_, ?_, ?_⟩
  · intro flush
    rw [flush] at phi
    exact Prod.mk.inj phi
  · intro flush none
    rw [flush, dark none] at phi
    exact Prod.mk.inj phi
  · intro flush some
    rw [flush, lit some] at phi
    obtain ⟨value, source⟩ := Prod.mk.inj phi
    rw [value]
    exact ⟨source, phiOfRatio_rows ratio⟩
  · rw [drift]
    by_cases none : live = []
    · simp [dark none, none, driftMark]
    · rw [lit none]
      simp only [driftMark, decide_eq_true_eq]
      exact (and_iff_right none).symm
  · rw [drift]
    simp only [solver]
    rfl
  · rw [acc]
    rintro (flush | none)
    · rw [flush]
      rfl
    · rw [dark none]
      cases s.fsv.flush <;> rfl
  · intro flush some
    rw [acc, flush, lit some]
    exact ⟨rfl, rfl, rfl, rfl⟩
  · intro accepted table
    rw [vDep]
    exact ⟨depositionVelocity_first _ accepted _, fun x last => depositionVelocity_last _ accepted _ x last,
      fun i x y hx hy => depositionVelocity_between _ accepted _ i x y hx hy⟩

end Sys2Proof.Machine
end

section
/-!
PROOFS. FlushRequests: FLUSH_BEGIN amends the standing record, FLUSH_END judges the accumulator (R86, R88), and what
it records when the flush was unstable (R159, R161).
-/

namespace Sys2Proof.Machine

open Sys2Proof.Claim

/-! ### An occurrence between boundaries (R159) -/

theorem Efu.holdsKey_iff_mem (key : FaultKey) (e : Efu) : e.holdsKey key = true ↔ ∃ x ∈ e.faults, x.key = key := by
  simp only [Efu.holdsKey, List.any_eq_true, beq_iff_eq]

theorem Efu.not_mem_of_holdsKey (key : FaultKey) (e : Efu) (absent : e.holdsKey key = false) :
    ¬ ∃ x ∈ e.faults, x.key = key := by
  rw [← Efu.holdsKey_iff_mem, absent]
  exact Bool.false_ne_true

/-- An occurrence counts on the key's entry, appends one, or finds the map without room. -/
theorem State.recordFault_recorded (key : FaultKey) (s : State) : Recorded key s (s.recordFault key) := by
  have posted : FullPosted s (s.recordFault key) := (s.noteFault_grows false key).posted
  have capacity : Config.faultCapacity = 12 := rfl
  rcases s.noteFault_cases false key with ⟨held, eq⟩ | ⟨absent, room, eq⟩ | ⟨absent, noRoom, eq⟩
  · have present := (Efu.holdsKey_iff_mem key s.efu).1 held
    refine ⟨fun _ => ?_, fun new => absurd present new, fun new => absurd present new, ?_, posted⟩
    · rw [State.recordFault, eq]
      rfl
    · rw [State.recordFault, eq]
      exact (or_iff_left fun ⟨new, _⟩ => new present).symm
  · have new := Efu.not_mem_of_holdsKey key s.efu absent
    refine ⟨fun present => absurd present new, fun _ _ => ?_, fun _ noRoom => absurd room noRoom, ?_, posted⟩
    · rw [State.recordFault, eq]
      rfl
    · rw [State.recordFault, eq]
      exact (or_iff_left fun ⟨_, noRoom⟩ => noRoom room).symm
  · have new := Efu.not_mem_of_holdsKey key s.efu absent
    rw [capacity] at noRoom
    refine ⟨fun present => absurd present new, fun _ room => absurd room (by omega), fun _ _ => ?_, ?_, posted⟩
    · rw [State.recordFault, eq, s.markFull_faults]
    · rw [State.recordFault, eq, s.markFull_full]
      exact iff_of_true rfl (.inr ⟨new, by omega⟩)

/-! ### The judgement and its report (R88) -/

/-- A flush of enough records whose mean codes stayed together, with a usable mean (R88). -/
def Accumulator.Stable (a : Accumulator) : Prop := 8 ≤ a.count ∧ (a.hi - a.lo) * 50 ≤ a.hi
  ∧ 1000 ≤ a.sum / a.count ∧ a.sum / a.count ≤ 65000

theorem Accumulator.judge_stable (a : Accumulator) (stable : a.Stable) : a.judge = some (a.sum / a.count) := if_pos stable

theorem Accumulator.judge_unstable (a : Accumulator) (unstable : ¬ a.Stable) : a.judge = none := if_neg unstable

/-- The payload of FLUSH_END: the outcome, what the accumulator counted, and the carrier reference. -/
def flushReport (outcome sigma : Nat) (a : Accumulator) : List Byte :=
  bytesBE 1 outcome ++ (bytesBE 2 a.count ++ (bytesBE 2 a.lo ++ (bytesBE 2 a.hi ++ (bytesBE 2 sigma ++ []))))

theorem flushReport_items (outcome sigma : Nat) (a : Accumulator) :
    (flushReport outcome sigma a).length = 9 ∧ At (flushReport outcome sigma a) 0 1 outcome
      ∧ At (flushReport outcome sigma a) 1 2 a.count ∧ At (flushReport outcome sigma a) 3 2 a.lo
      ∧ At (flushReport outcome sigma a) 5 2 a.hi ∧ At (flushReport outcome sigma a) 7 2 sigma := by
  refine ⟨by simp [flushReport], at_bytesBE _ _ _, ?_, ?_, ?_, ?_⟩
  · exact at_behind _ _ (by omega) (at_bytesBE _ _ _)
  · exact at_behind _ _ (by omega) (at_behind _ _ (by omega) (at_bytesBE _ _ _))
  · exact at_behind _ _ (by omega) (at_behind _ _ (by omega) (at_behind _ _ (by omega) (at_bytesBE _ _ _)))
  · exact at_behind _ _ (by omega) (at_behind _ _ (by omega) (at_behind _ _ (by omega) (at_behind _ _ (by omega)
      (at_bytesBE _ _ _))))

/-- A stable flush gives the learned reference. -/
theorem State.answerFlushEnd_stable (s : State) (m : Nat) (flush : s.fsv.flush = true)
    (stable : s.fsv.acc.judge = some m) : s.answerFlushEnd = ⟨.ok, flushReport 0 m s.fsv.acc,
      s.setFsv { s.fsv with flush := false, sigma := m, sigmaSource := .learned }⟩ := by
  rw [State.answerFlushEnd, if_pos flush, Fsv.endFlush, stable]
  simp [flushReport, u8, u16]

/-- An unstable flush leaves the reference and is recorded. -/
theorem State.answerFlushEnd_unstable (s : State) (flush : s.fsv.flush = true) (unstable : s.fsv.acc.judge = none) :
    s.answerFlushEnd = ⟨.ok, flushReport 1 s.fsv.sigma s.fsv.acc,
      (s.setFsv { s.fsv with flush := false }).recordFault flushKey⟩ := by
  rw [State.answerFlushEnd, if_pos flush, Fsv.endFlush, unstable]
  simp [flushReport, u8, u16]

/-! ### The two requests -/

/-- A request that leaves the ports alone is answered on its port alone. -/
theorem State.answer_answered_of_mpt (p : Port) (echo : Byte) (h : State → Answer) (s : State)
    (same : (h s).state.mpt = s.mpt) : Answered p echo (h s).status (h s).payload s (s.answer p echo h) := by
  rw [Answered, State.answer_mpt, same]

/-- What an answer changes: the ports, and what its handler changes. -/
theorem State.answer_onlyChanges (p : Port) (echo : Byte) (h : State → Answer) (s : State) (blocks : List Block)
    (within : OnlyChanges blocks s (h s).state) (ports : .mpt ∈ blocks) : OnlyChanges blocks s (s.answer p echo h) := by
  intro b away
  have kept := within b away
  cases b
  case mpt => exact absurd ports away
  all_goals exact kept

/-- The record that FLUSH_BEGIN amends, with the first deposition velocity of an acceptable profile (R86, R91). -/
theorem Fsv.beginFlush_eq (p : Profile) (accepted : p.accepted = true) (f : Fsv) : f.beginFlush p = { f with
    flush := true
    acc := ⟨0, 0, 0, 0⟩
    record := { f.record with
      phi := 0
      phiSource := .flush
      s := 0
      vDep := p.dep1.vc
      margin := if f.record.margin = none then none else some ((f.record.v : Int) - p.dep1.vc) } } := by
  rw [Fsv.beginFlush, FlowRecord.amendForFlush, depositionVelocity_zero p accepted]
  cases f.record.margin <;> rfl

theorem exec_flushBegin (p : Port) (s : State) (h : Free p s) :
    exec (.flushBegin p) s = .next (s.answer p 0x41 State.answerFlushBegin) :=
  congrArg Host.Outcome.next (s.request_free p 0x41 State.answerFlushBegin h.1 h.2)

theorem exec_flushEnd (p : Port) (s : State) (h : Free p s) :
    exec (.flushEnd p) s = .next (s.answer p 0x42 State.answerFlushEnd) :=
  congrArg Host.Outcome.next (s.request_free p 0x42 State.answerFlushEnd h.1 h.2)

theorem State.onlyFsv (f : Fsv) (s : State) : OnlyChanges [.fsv, .mpt] s (s.setFsv f) := by
  intro b
  cases b <;> simp [Block.Same]

theorem State.onlyFsvAndFault (f : Fsv) (key : FaultKey) (s : State) :
    OnlyChanges [.fsv, .efu, .mpt] s ((s.setFsv f).recordFault key) := by
  intro b
  cases b <;> simp [Block.Same, State.recordFault]

/-- Settles O33: the answer of each request is written out for the flush on and off, and for a stable and an unstable
accumulator. -/
theorem flushRequests : Obligations.FlushRequests := by
  unfold Obligations.FlushRequests
  intro p s free accepted
  refine ⟨?_, ?_, ?_, ?_, ?_⟩
  · intro flush
    have refused : s.answerFlushBegin = ⟨.state, [], s⟩ := if_pos flush
    refine ⟨_, exec_flushBegin p s free, State.answer_onlyPorts _ _ _ s (by rw [refused]), ?_⟩
    have answered := State.answer_answered p 0x41 State.answerFlushBegin s (by rw [refused])
    rwa [refused] at answered
  · intro off
    have begun : s.answerFlushBegin = ⟨.ok, [], s.setFsv (s.fsv.beginFlush s.active)⟩ :=
      if_neg (by rw [off]; exact Bool.false_ne_true)
    have answered := State.answer_answered_of_mpt p 0x41 State.answerFlushBegin s (by rw [begun]; rfl)
    rw [begun] at answered
    refine ⟨_, exec_flushBegin p s free, State.answer_onlyChanges p 0x41 _ s _ ?_ (by simp), answered, ?_⟩
    · rw [begun]
      exact s.onlyFsv _
    · rw [State.answer_fsv, begun]
      exact Fsv.beginFlush_eq s.active accepted s.fsv
  · intro off
    have refused : s.answerFlushEnd = ⟨.state, [], s⟩ := if_neg (by rw [off]; exact Bool.false_ne_true)
    refine ⟨_, exec_flushEnd p s free, State.answer_onlyPorts _ _ _ s (by rw [refused]), ?_⟩
    have answered := State.answer_answered p 0x42 State.answerFlushEnd s (by rw [refused])
    rwa [refused] at answered
  · intro flush stable
    have learned := s.answerFlushEnd_stable _ flush (Accumulator.judge_stable _ stable)
    have answered := State.answer_answered_of_mpt p 0x42 State.answerFlushEnd s (by rw [learned]; rfl)
    rw [learned] at answered
    refine ⟨_, _, exec_flushEnd p s free, State.answer_onlyChanges p 0x42 _ s _ ?_ (by simp), answered,
      flushReport_items _ _ _, ?_⟩
    · rw [learned]
      exact s.onlyFsv _
    · rw [State.answer_fsv, learned]
      rfl
  · intro flush unstable
    have recorded := s.answerFlushEnd_unstable flush (Accumulator.judge_unstable _ unstable)
    have answered := State.answer_answered_of_mpt p 0x42 State.answerFlushEnd s
      (by rw [recorded, State.recordFault_mpt]; rfl)
    rw [recorded] at answered
    refine ⟨_, _, exec_flushEnd p s free, State.answer_onlyChanges p 0x42 _ s _ ?_ (by simp), answered,
      flushReport_items _ _ _, ?_, ?_⟩
    · rw [recorded]
      exact s.onlyFsvAndFault _ _
    · rw [State.answer_fsv, recorded, State.recordFault_fsv]
      rfl
    · have entry := (s.setFsv { s.fsv with flush := false }).recordFault_recorded flushKey
      have efu : (s.answer p 0x42 State.answerFlushEnd).efu
          = ((s.setFsv { s.fsv with flush := false }).recordFault flushKey).efu := by
        rw [State.answer_efu, recorded]
      simp only [Recorded, FullPosted, efu]
      exact entry

end Sys2Proof.Machine
end

section
/-!
SUPPORT. The ATN lines through postings, captures, recordings and the tracker's work: every operation that reaches a
port's items drives the port's line from them (R152, R155).
-/

namespace Sys2Proof.Machine

open Sys2Proof.Claim

/-- Every ATN line shows what its port's three items ask for, as on a running part (R155). -/
def AtnDriven (q : PerPort Attention) : Prop := ∀ p, (q.get p).atn = (q.get p).qualifies

/-- A pending enabled kind above the threshold, in the words of the statements. -/
theorem Attention.qualifies_iff (a : Attention) : a.qualifies = true ↔ ∃ k : EventKind,
    hasKind a.posted k = true ∧ hasKind a.enable k = true ∧ a.threshold < k.level := by
  have all (k : EventKind) : k ∈ EventKind.all := by cases k <;> decide
  simp only [Attention.qualifies, List.any_eq_true, all, true_and, Bool.and_eq_true, decide_eq_true_eq, and_assoc]

theorem AtnDriven.set {q : PerPort Attention} (h : AtnDriven q) (p : Port) (a : Attention) :
    AtnDriven (q.set p a.drive) := by
  intro j
  rw [PerPort.get_set]
  split
  · rfl
  · exact h j

/-- A kind added to every port's set drives every line, however the lines stood. -/
theorem State.addKind_atn (k : EventKind) (s : State) : AtnDriven (s.addKind k).efu.ports := by
  intro p
  rw [State.addKind, State.setEfu_efu, PerPort.get_map]
  rfl

/-! ### Postings and captures -/

section
variable {s : State} (h : AtnDriven s.efu.ports)
include h

theorem AtnDriven.postCaptureDone : AtnDriven s.postCaptureDone.efu.ports := by
  unfold State.postCaptureDone
  split
  · exact h.set _ _
  · exact h

theorem AtnDriven.completeCapture (v : List Int) : AtnDriven (s.completeCapture v).efu.ports :=
  AtnDriven.postCaptureDone (s := s.setCap _) h

theorem AtnDriven.completeEmpty : AtnDriven s.completeEmpty.efu.ports := AtnDriven.postCaptureDone (s := s.setCap _) h

theorem AtnDriven.triggerCapture : AtnDriven s.triggerCapture.efu.ports := by
  unfold State.triggerCapture
  split
  · split
    · exact h
    · exact AtnDriven.completeEmpty (s := s.setCap _) h
  · exact h

end

theorem State.post_atn (k : EventKind) (s : State) : AtnDriven (s.post k).efu.ports := by
  have added := s.addKind_atn k
  rw [State.post_eq]
  split
  · exact added.triggerCapture
  · exact added

/-! ### Recordings, departures and completions -/

section
variable {s : State} (h : AtnDriven s.efu.ports)
include h

theorem AtnDriven.foldl_post (kinds : List EventKind) : AtnDriven (kinds.foldl (fun s k => s.post k) s).efu.ports :=
  foldl_keeps (R := fun s t : State => AtnDriven s.efu.ports → AtnDriven t.efu.ports) (fun _ => id)
    (fun h g => g ∘ h) (fun s k _ => s.post_atn k) kinds s h

theorem AtnDriven.noteFault (active : Bool) (key : FaultKey) : AtnDriven (s.noteFault active key).efu.ports := by
  rcases s.noteFault_cases active key with ⟨_, eq⟩ | ⟨_, _, eq⟩ | ⟨_, _, eq⟩ <;> rw [eq]
  · exact h
  · exact h
  · rcases s.markFull_cases with ⟨_, eq⟩ | ⟨_, eq⟩ <;> rw [eq]
    · exact h
    · exact State.post_atn _ _

theorem AtnDriven.takeNote (x : Note) : AtnDriven (s.takeNote x).efu.ports := by
  obtain ⟨key, _ | _ | _⟩ := x
  · exact h.noteFault false key
  · exact h
  · exact h.noteFault true key

theorem AtnDriven.takeNotes (n : Nat) (l : List Note) : AtnDriven (s.takeNotes n l).efu.ports := by
  obtain ⟨order, _, eq⟩ := s.takeNotes_eq_foldl n l
  rw [eq]
  exact foldl_keeps (R := fun s t : State => AtnDriven s.efu.ports → AtnDriven t.efu.ports) (fun _ => id)
    (fun h g => g ∘ h) (fun _ x h => h.takeNote x) order s h

/-- The tracker reaches the lines by its departures alone. -/
theorem AtnDriven.lockStep {t u v : State} (steps : LockStep s t u v) : AtnDriven u.efu.ports := by
  induction steps with
  | start => exact h
  | tables _ _ ih => exact ih
  | counts _ _ _ _ ih => exact ih
  | departure _ _ => exact State.post_atn _ _

theorem AtnDriven.trackerWork (old : Profile) (geometry : Bool) : AtnDriven (s.trackerWork old geometry).efu.ports := by
  have worked (changed : Bool) : AtnDriven (s.trackerBoundary changed).efu.ports :=
    h.lockStep ((Alike.refl s).trackerBoundary changed)
  unfold State.trackerWork
  simp only
  split
  · exact worked _
  · exact worked _

theorem AtnDriven.captureCompletion (c : Option InFlight) : AtnDriven (s.captureCompletion c).efu.ports := by
  unfold State.captureCompletion
  split
  · unfold State.copyCorrelogram
    split
    · exact h.completeEmpty
    · exact AtnDriven.completeCapture (by exact h) _
  · exact h

theorem AtnDriven.guardStep : AtnDriven s.guardStep.efu.ports := by
  unfold State.guardStep
  exact AtnDriven.foldl_post (by exact h) _

theorem AtnDriven.creditPulse (k : Nat) : AtnDriven (s.creditPulse k).efu.ports := by
  unfold State.creditPulse
  simp only
  split
  · exact h
  · split
    · exact AtnDriven.noteFault (State.post_atn _ _) _ _
    · exact h

end

/-- A publication posts RECORD_PUBLISHED first, so every line is driven (R73). -/
theorem State.publish_atn (w : Index) (rs : PerSlot (Option PairResult)) (s : State) :
    AtnDriven (s.publish w rs).efu.ports := by
  have announced : AtnDriven (s.announce (s.solve w rs)).efu.ports := by
    unfold State.announce
    simp only
    split
    · exact State.post_atn _ _
    · exact State.post_atn _ _
  rw [State.publish_steps, State.integrateRecord]
  refine AtnDriven.creditPulse ?_ _
  rw [State.countPublication_efu]
  exact announced.guardStep

/-- A commit posts PROFILE_APPLIED, and then completes at most a capture (R142, R177). -/
theorem State.applyCommit_atn (s : State) : AtnDriven s.applyCommit.efu.ports := by
  have posted : AtnDriven s.commitBlocks.efu.ports := s.addKind_atn .profileApplied
  rw [State.applyCommit_eq]
  split
  · unfold State.captureGeometry
    split
    · exact posted.completeEmpty
    · exact posted
  · exact posted

/-- The start of a boundary: the grades, a clear and a commit post, and the correlator's part does not (R12, R142). -/
theorem AtnDriven.boundaryCore {s : State} (h : AtnDriven s.efu.ports) : AtnDriven s.boundaryCore.efu.ports := by
  have closed : AtnDriven s.closedWindow.efu.ports := by
    rw [State.closedWindow_eq, State.postHealth_posts]
    exact AtnDriven.foldl_post (s := s.windowClosed) h _
  have applied : AtnDriven (s.closedWindow.applyPending s.freeCount).efu.ports := by
    unfold State.applyPending
    split
    · exact State.applyCommit_atn _
    · exact closed
  obtain ⟨_, _, _, moved⟩ := (s.closedWindow.applyPending s.freeCount).moveCorrelator_moved.blocks
  rw [State.boundaryCore, moved]
  exact applied

end Sys2Proof.Machine
end

section
/-!
SUPPORT. The output lines of a running part through a frame, a boundary and a completion: TRIP with the guard, PULSE
with the generator, the ATN lines with the ports' items, and the standing record with the guard (R98, R100, R122, R155).
-/

namespace Sys2Proof.Machine

open Sys2Proof.Claim

/-! ### A running part whose lines are driven -/

/-- PULSE is asserted exactly while the generator is HIGH (R122). -/
def Pls.Driven (x : Pls) : Prop := x.pulse = decide (x.gen = .high)

/-- The lines of a running part and the guard state that its record shows, of the blocks they rest on. -/
structure LinesDriven (power : Power) (guard : Dgd) (shown : GuardState) (pulse : Pls) (ports : PerPort Attention) :
    Prop where
  running : power = .running
  trip : guard.trip = guard.state.trips
  shown : shown = guard.state
  pulse : pulse.Driven
  atn : AtnDriven ports

/-- A running part with driven lines; a change of other blocks keeps this by definition. -/
abbrev State.Driven (s : State) : Prop := LinesDriven s.power s.dgd s.fsv.record.guard s.pls s.efu.ports

theorem GuardState.trips_eq (g : GuardState) : g.trips = decide (g = .tripped ∨ g = .recovered) := by cases g <;> rfl

theorem State.Driven.linesAgree {s : State} (h : s.Driven) : LinesAgree s := by
  obtain ⟨running, trip, shown, pulse, atn⟩ := h
  refine ⟨?_, ?_, fun p => ?_, fun held => ?_, fun _ => shown⟩
  · rw [trip, GuardState.trips_eq]
    simp only [running, true_and]
  · rw [pulse]
    simp only [running, true_and]
  · rw [atn p, Attention.qualifies_iff]
    simp only [running, true_and]
  · cases running.symm.trans held

theorem driven_of_linesAgree {s : State} (running : s.power = .running) (h : LinesAgree s) : s.Driven := by
  obtain ⟨trip, pulse, atn, _, shown⟩ := h
  simp only [running, true_and] at trip pulse atn
  exact ⟨running, trip.trans (GuardState.trips_eq _).symm, shown running, pulse,
    fun p => Bool.eq_iff_iff.2 ((atn p).trans (Attention.qualifies_iff _).symm)⟩

/-- On a part that does not run every line is released, and a held guard is CLEAR. -/
theorem linesAgree_of_released {s : State} (off : s.power ≠ .running) (trip : s.dgd.trip = false)
    (pulse : s.pls.pulse = false) (atn : ∀ p, (s.efu.ports.get p).atn = false)
    (held : s.power = .held → s.dgd.state = .clear) : LinesAgree s :=
  ⟨trip.trans (decide_eq_false fun h => off h.1).symm, pulse.trans (decide_eq_false fun h => off h.1).symm,
    fun p => iff_of_false (by rw [atn p]; decide) fun h => off h.1, held, fun running => absurd running off⟩

/-! ### Work beside the lines' blocks -/

section
variable {s t : State} (h : s.Driven)
include h

/-- The guard, the solver and the pulse unit stand, and the lines are driven on. -/
theorem LinesDriven.of_flow (flow : FlowStands s t) (pls : t.pls = s.pls) (atn : AtnDriven t.efu.ports) : t.Driven := by
  obtain ⟨running, trip, shown, pulse, _⟩ := h
  refine ⟨flow.power.trans running, ?_, ?_, ?_, atn⟩
  · rwa [flow.dgd]
  · rwa [flow.fsv, flow.dgd]
  · rwa [pls]

theorem LinesDriven.of_tracks (work : OnlyTracks s t) (atn : AtnDriven t.efu.ports) : t.Driven :=
  LinesDriven.of_flow h work.flow (by obtain ⟨_, _, _, rfl⟩ := work; rfl) atn

theorem LinesDriven.of_reports (work : OnlyReports s t) (atn : AtnDriven t.efu.ports) : t.Driven :=
  LinesDriven.of_tracks h work.onlyTracks atn

/-- The pulse unit moves on with its line. -/
theorem LinesDriven.setPls (x : Pls) (pulse : x.Driven) : (s.setPls x).Driven :=
  ⟨h.running, h.trip, h.shown, pulse, h.atn⟩

theorem LinesDriven.post (k : EventKind) : (s.post k).Driven :=
  LinesDriven.of_reports h (s.post_onlyReports k) (s.post_atn k)

theorem LinesDriven.recordFault (key : FaultKey) : (s.recordFault key).Driven :=
  LinesDriven.of_reports h (s.noteFault_onlyReports _ _) (h.atn.noteFault _ _)

theorem LinesDriven.takeNotes (n : Nat) (l : List Note) : (s.takeNotes n l).Driven :=
  LinesDriven.of_reports h (s.takeNotes_onlyReports n l) (h.atn.takeNotes n l)

theorem LinesDriven.trackerWork (old : Profile) (geometry : Bool) : (s.trackerWork old geometry).Driven :=
  LinesDriven.of_tracks h (s.trackerWork_onlyTracks _ _) (h.atn.trackerWork _ _)

theorem LinesDriven.applyClearIfPending : s.applyClearIfPending.Driven := by
  unfold State.applyClearIfPending
  split
  · exact LinesDriven.post (s := (s.setTot s.tot.cleared).queueCheckpoint) h _
  · exact h

theorem LinesDriven.framed (fr : Frame) : (s.framed fr).Driven :=
  LinesDriven.of_flow h (s.framed_flow fr) (by rw [State.framed_eq])
    (AtnDriven.lockStep (s := s.storeFrame fr) h.atn (Alike.refl _).trackFrame)

end

/-! ### The pulse unit (R121, R122) -/

theorem Pls.examine_driven (p : Profile) (x : Pls) : (x.examine p).Driven := by
  unfold Pls.examine
  split <;> rfl

theorem Pls.Driven.endPulse {x : Pls} (h : x.Driven) : x.endPulse.Driven := by
  unfold Pls.endPulse
  split
  · rfl
  · exact h

theorem Pls.Driven.endGap {x : Pls} (h : x.Driven) (p : Profile) : (x.endGap p).Driven := by
  unfold Pls.endGap
  split
  · exact Pls.examine_driven _ _
  · exact h

theorem Pls.Driven.tick {x : Pls} (h : x.Driven) (p : Profile) : (x.tick p).Driven := by
  have counted : Pls.Driven { x with elapsed := x.elapsed + 1 } := h
  unfold Pls.tick
  split
  · exact h
  · simp only
    split
    · split
      · exact counted.endPulse
      · exact counted.endGap p
    · exact counted

theorem Pls.Driven.creditPulse {s : State} (h : s.pls.Driven) (k : Nat) : (s.creditPulse k).pls.Driven := by
  have credited : Pls.Driven ((s.pls.addCredit s.active k).examineIfIdle s.active) := by
    unfold Pls.examineIfIdle
    split
    · exact Pls.examine_driven _ _
    · exact h
  unfold State.creditPulse
  simp only
  split
  · exact h
  · split
    · rw [State.recordFault_pls, State.post_pls]
      exact credited
    · exact credited

/-! ### A publication and a completion (R44, R73, R100) -/

theorem Dgd.step_trip (p : Profile) (r : FlowRecord) (g : Dgd) : (g.step p r).trip = (g.step p r).state.trips := by
  have made (c : Prop) [Decidable c] (x y : Dgd) (hx : x.trip = x.state.trips) (hy : y.trip = y.state.trips) :
      (if c then x else y).trip = (if c then x else y).state.trips := by
    split
    · exact hx
    · exact hy
  unfold Dgd.step
  split
  · exact made _ _ _ (made _ _ _ rfl rfl) (made _ _ _ rfl rfl)
  · exact made _ _ _ (made _ _ _ rfl rfl) (made _ _ _ rfl rfl)
  · exact made _ _ _ (made _ _ _ rfl rfl) rfl
  · exact made _ _ _ rfl rfl

theorem State.publish_pulse (w : Index) (rs : PerSlot (Option PairResult)) (s : State) (h : s.pls.Driven) :
    (s.publish w rs).pls.Driven := by
  rw [State.publish_steps, State.integrateRecord]
  refine Pls.Driven.creditPulse ?_ _
  rw [State.countPublication_eq]
  obtain ⟨_, _, guarded⟩ := (s.announce (s.solve w rs)).guardStep_blocks
  obtain ⟨_, _, announced⟩ := s.announce_only (s.solve w rs)
  rw [guarded, announced]
  exact h

theorem LinesDriven.publish {s : State} (h : s.Driven) (w : Index) (rs : PerSlot (Option PairResult)) :
    (s.publish w rs).Driven := by
  have pulse := s.publish_pulse w rs h.pulse
  have atn := s.publish_atn w rs
  have blocks := s.publish_eq w rs
  refine ⟨?_, ?_, ?_, pulse, atn⟩ <;> rw [blocks]
  · exact h.running
  · exact Dgd.step_trip _ _ _
  · rfl

theorem LinesDriven.complete {s : State} (h : s.Driven) (c : Option InFlight) (w : Index)
    (rs : PerSlot (Option PairResult)) : (s.complete c w rs).Driven := by
  have results : (s.publishResults w rs).Driven := h
  have captured : (s.completed c w rs).Driven :=
    results.of_reports (State.captureCompletion_only c _).onlyReports (results.atn.captureCompletion c)
  exact captured.publish w rs

/-! ### A boundary (R8) -/

/-- A commit leaves the guard state of the record, or writes the guard's own into it (R96). -/
theorem Fsv.applyCommit_guard (old new : Profile) (w : Index) (degraded : Bool) (f : Fsv) :
    (f.applyCommit old new w degraded f.record.guard).record.guard = f.record.guard := by
  unfold Fsv.applyCommit
  simp only
  split_ifs <;> rfl

theorem LinesDriven.boundaryCore {s : State} (h : s.Driven) : s.boundaryCore.Driven := by
  have start := s.boundaryCore_start
  refine ⟨start.power.trans h.running, ?_, ?_, ?_, h.atn.boundaryCore⟩
  · rw [start.dgd]
    exact h.trip
  · rw [start.fsv, start.dgd, ← h.shown]
    exact Fsv.applyCommit_guard _ _ _ _ _
  · rw [start.pls]
    split
    · exact h.pulse
    · rfl

section
variable {s : State} (h : s.Driven)
include h

theorem LinesDriven.finishBoundary (n : Nat) (old : Profile) (geometry : Bool) (notes : List Note) :
    (s.finishBoundary n old geometry notes).Driven :=
  (LinesDriven.applyClearIfPending (LinesDriven.trackerWork h old geometry)).takeNotes n _

theorem LinesDriven.earlyNoted (n : Nat) (old : Profile) (notes : List Note) : (s.earlyNoted n old notes).Driven := by
  refine LinesDriven.takeNotes ?_ n _
  unfold State.beforePublication
  simp only
  split <;> split
  · exact (LinesDriven.trackerWork h old false).applyClearIfPending
  · exact LinesDriven.applyClearIfPending h
  · exact LinesDriven.trackerWork h old false
  · exact h

theorem LinesDriven.publicationOn (n : Nat) (old : Profile) : (s.publicationOn n old).Driven := by
  have published : s.completeWithoutPairs.Driven := LinesDriven.complete h _ _ _
  unfold State.publicationOn
  refine LinesDriven.applyClearIfPending ?_
  split
  · exact published
  · exact LinesDriven.trackerWork published old false

theorem LinesDriven.boundary : s.boundary.Driven := by
  have core := LinesDriven.boundaryCore h
  rw [State.boundary_eq]
  split
  · rw [State.finishWithCompletion_eq]
    exact ((core.earlyNoted _ _ _).publicationOn _ _).takeNotes _ _
  · exact core.finishBoundary _ _ _ _

end

end Sys2Proof.Machine
end

section
/-!
PROOFS. LinesAgreeKept: the output lines through the answers of the requests, the events of the ports and the commands,
and what the starts, a reset held and a loss of power make of them (R98, R100, R107, R111, R122, R155).
-/

namespace Sys2Proof.Machine

open Sys2Proof.Claim

/-! ### The answers of the requests (R106, R134 to R176, R191) -/

section
variable {s : State} (h : s.Driven)
include h

theorem LinesDriven.afterTimeLeft : s.afterTimeLeft.Driven := by
  unfold State.afterTimeLeft
  split <;> exact h

/-- Changed attention items drive their port's line (R154, R156). -/
theorem LinesDriven.setAttention (p : Port) (a : Attention) : (s.setAttention p a).Driven :=
  ⟨h.running, h.trip, h.shown, h.pulse, h.atn.set p a⟩

theorem LinesDriven.answerAttention (p : Port) (e : EventSet) (th : Byte) :
    (s.answerAttention p e th).state.Driven := by
  unfold State.answerAttention
  split
  · exact h
  · exact LinesDriven.setAttention h _ _

theorem LinesDriven.answerOpen (p : Port) : (s.answerOpen p).state.Driven := by
  unfold State.answerOpen
  split
  · exact h
  · split
    · exact h
    · exact LinesDriven.afterTimeLeft h

theorem LinesDriven.fieldAnswer (st : Status) (field : Byte) : (s.fieldAnswer st field).state.Driven := by
  unfold State.fieldAnswer
  simp only
  split <;> exact h

theorem LinesDriven.answerWrite (p : Port) (field : Byte) (value : BitVec 32) :
    (s.answerWrite p field value).state.Driven := by
  unfold State.answerWrite
  split
  · exact LinesDriven.fieldAnswer h _ _
  · split
    · exact LinesDriven.fieldAnswer h _ _
    · split
      · exact LinesDriven.fieldAnswer h _ _
      · exact LinesDriven.fieldAnswer (by exact h) _ _

theorem LinesDriven.answerRead (field slot : Byte) : (s.answerRead field slot).state.Driven := by
  unfold State.answerRead
  split
  · exact h
  · split
    · exact LinesDriven.afterTimeLeft h
    · split
      · exact LinesDriven.afterTimeLeft h
      · exact h

theorem LinesDriven.answerCommit (p : Port) : (s.answerCommit p).state.Driven := by
  unfold State.answerCommit
  split
  · exact h
  · split
    · exact h
    · split
      · exact h
      · split <;> exact h

theorem LinesDriven.answerDrop (p : Port) : (s.answerDrop p).state.Driven := by
  unfold State.answerDrop
  split
  · exact h
  · split <;> exact h

theorem LinesDriven.answerClearTotals (p : Port) : (s.answerClearTotals p).state.Driven := by
  unfold State.answerClearTotals
  simp only
  split <;> exact h

/-- A release clears the guard, TRIP and the record's guard state together (R106, R107). -/
theorem LinesDriven.answerRelease : s.answerRelease.state.Driven := by
  unfold State.answerRelease
  simp only
  split
  · exact ⟨h.running, rfl, rfl, h.pulse, h.atn⟩
  · exact h

theorem LinesDriven.answerFlushBegin : s.answerFlushBegin.state.Driven := by
  unfold State.answerFlushBegin
  split <;> exact h

theorem LinesDriven.answerFlushEnd : s.answerFlushEnd.state.Driven := by
  have ended : (s.setFsv s.fsv.endFlush).Driven := by
    have record : s.fsv.endFlush.record = s.fsv.record := by
      unfold Fsv.endFlush
      split <;> rfl
    exact ⟨h.running, h.trip, (congrArg FlowRecord.guard record).trans h.shown, h.pulse, h.atn⟩
  unfold State.answerFlushEnd
  split
  · simp only
    split
    · exact ended
    · exact ended.recordFault _
  · exact h

/-- The FILLING record of a RESTART shows the guard, which stands (R97). -/
theorem LinesDriven.restartBlocks : s.restartBlocks.Driven := ⟨h.running, h.trip, rfl, h.pulse, h.atn⟩

theorem LinesDriven.answerArm (p : Port) (content which trigger : Byte) :
    (s.answerArm p content which trigger).state.Driven := by
  unfold State.answerArm
  split
  · exact h
  · split
    · exact h
    · next c t _ =>
      simp only [State.arm]
      have armed : (s.setCap ⟨some p, .armed, some c, some t, none, [], 0, false⟩).Driven := h
      split
      · exact armed.of_reports (State.triggerCapture_only _).onlyReports armed.atn.triggerCapture
      · exact armed

theorem LinesDriven.answerReleaseCapture (p : Port) : (s.answerReleaseCapture p).state.Driven := by
  unfold State.answerReleaseCapture
  split
  · exact h
  · split <;> exact h

theorem LinesDriven.dispatch (p : Port) (code : Nat) (payload : List Byte) :
    (s.dispatch p code payload).state.Driven := by
  unfold State.dispatch
  split
  · exact h
  · exact h
  · exact h
  · rw [State.answerSlugs_state]; exact h
  · exact h
  · exact h
  · exact h
  · exact h
  · exact h
  · exact LinesDriven.setAttention h _ _
  · exact LinesDriven.answerAttention h _ _ _
  · exact LinesDriven.answerOpen h _
  · exact LinesDriven.answerWrite h _ _ _
  · exact LinesDriven.answerRead h _ _
  · exact LinesDriven.answerCommit h _
  · exact LinesDriven.answerDrop h _
  · exact LinesDriven.answerClearTotals h _
  · exact LinesDriven.answerRelease h
  · exact LinesDriven.answerFlushBegin h
  · exact LinesDriven.answerFlushEnd h
  · exact LinesDriven.restartBlocks h
  · exact LinesDriven.answerArm h _ _ _ _
  · rw [State.answerReadCapture_state]; exact h
  · exact LinesDriven.answerReleaseCapture h _
  · exact h
  · exact h
  · exact h

theorem LinesDriven.handle (p : Port) (code : Byte) (payload : List Byte) : (s.handle p code payload).state.Driven := by
  unfold State.handle
  split
  · exact h
  · split
    · exact LinesDriven.dispatch h _ _ _
    · exact h

/-! ### The events of a running part -/

theorem LinesDriven.frameEnds (p : Port) (buf : List Byte) : (s.frameEnds p buf).Driven := by
  unfold State.frameEnds
  split
  · exact h
  · split
    · split
      · exact LinesDriven.handle h _ _ _
      · exact h
    · exact h

theorem LinesDriven.receive (p : Port) (x : Byte) (framingError : Bool) : (s.receive p x framingError).Driven := by
  unfold State.receive
  simp only
  split
  · exact h
  · split
    · exact h
    · split <;> exact h
    · split
      · exact h
      · split
        · exact h
        · split
          · exact LinesDriven.frameEnds h _ _
          · exact h

theorem LinesDriven.byteTimeout (p : Port) : (s.byteTimeout p).Driven := by
  unfold State.byteTimeout
  split <;> exact h

theorem LinesDriven.startResponse (p : Port) : (s.startResponse p).Driven := by
  unfold State.startResponse
  simp only
  split
  · split <;> exact h
  · exact h

theorem LinesDriven.closeFrame (fr : Frame) : (s.closeFrame fr).Driven := by
  have framed : (s.framed fr).Driven := LinesDriven.framed h fr
  show (if (s.framed fr).sfe.windowPos = (s.framed fr).active.n then (s.framed fr).boundary else s.framed fr).Driven
  split
  · exact framed.boundary
  · exact framed

theorem LinesDriven.takeReply (r : Ring) (x : Reply) : (s.takeReply r x).Driven := by
  unfold State.takeReply
  split
  · exact h
  · split
    · simp only
      split
      · exact LinesDriven.closeFrame h _
      · exact h
    · exact h

theorem LinesDriven.takeDeadline : s.takeDeadline.Driven := by
  unfold State.takeDeadline
  split
  · exact h
  · exact LinesDriven.closeFrame h _

theorem LinesDriven.completeCorrelation : s.completeCorrelation.Driven := by
  unfold State.completeCorrelation
  split
  · exact h
  · exact LinesDriven.complete h _ _ _

theorem LinesDriven.expireClaim : s.expireClaim.Driven := by
  unfold State.expireClaim
  split
  · exact LinesDriven.post (s := s.setPst s.pst.endClaim) h _
  · exact h

theorem LinesDriven.reachExpiry : s.reachExpiry.Driven := by
  unfold State.reachExpiry
  split
  · split <;> exact h
  · exact h

theorem LinesDriven.nvComplete (agrees : Bool) : (s.nvComplete agrees).Driven := by
  unfold State.nvComplete
  split
  · exact h
  · split
    · exact h
    · exact LinesDriven.post (LinesDriven.recordFault (by exact h) _) _

theorem LinesDriven.copyEnds : s.copyEnds.Driven := by
  unfold State.copyEnds
  split
  · exact LinesDriven.of_reports h (s.completeCapture_only _).onlyReports (h.atn.completeCapture _)
  · exact h

theorem LinesDriven.crystalFails : s.crystalFails.Driven := by
  unfold State.crystalFails
  split
  · exact LinesDriven.post (by exact h) _
  · exact h

theorem LinesDriven.strobeFrame : s.strobeFrame.Driven := by
  unfold State.strobeFrame
  split <;> exact h

theorem LinesDriven.tick : s.tick.Driven := by
  obtain ⟨_, _, ticked, _⟩ := s.tick_blocks h.running
  have claim : AtnDriven (s.setTimebase (s.timebase + 1)).tickClaim.efu.ports := by
    rcases (s.setTimebase (s.timebase + 1)).tickClaim_cases with ⟨_, eq⟩ | ⟨_, eq⟩ <;> rw [eq]
    · exact State.post_atn _ _
    · exact h.atn
  rw [ticked]
  exact ⟨h.running, h.trip, h.shown, h.pulse.tick _, claim⟩

end

/-! ### Starts and releases -/

theorem Pls.start_driven (width : Nat) : (Pls.start width).Driven := rfl

theorem State.startBlocks_driven (straps : PerPort StrapPair) (s : State) : (s.startBlocks straps).Driven := by
  have ports : AtnDriven Efu.reset.ports := fun p => by cases p <;> decide
  unfold State.startBlocks
  simp only
  split
  · refine LinesDriven.recordFault ?_ _
    exact ⟨rfl, rfl, rfl, Pls.start_driven _, ports⟩
  · exact ⟨rfl, rfl, rfl, Pls.start_driven _, ports⟩

theorem State.powerOn_driven (straps : PerPort StrapPair) (s : State) : (s.powerOn straps).Driven := by
  have started := s.startBlocks_driven straps
  unfold State.powerOn
  simp only
  split
  · exact LinesDriven.recordFault (by exact started) _
  · exact started

theorem State.endReset_driven (straps : PerPort StrapPair) (s : State) : (s.endReset straps).Driven :=
  s.startBlocks_driven straps

theorem State.releaseLines_atn (s : State) (p : Port) : (s.releaseLines.efu.ports.get p).atn = false := by
  show ((s.efu.ports.map fun _ (a : Attention) => { a with atn := false }).get p).atn = false
  rw [PerPort.get_map]

theorem State.holdReset_linesAgree (s : State) : LinesAgree s.holdReset :=
  linesAgree_of_released (show Power.held ≠ .running by decide) rfl rfl s.releaseLines_atn fun _ => rfl

theorem State.losePower_linesAgree (s : State) : LinesAgree s.losePower :=
  linesAgree_of_released (show Power.off ≠ .running by decide) rfl rfl s.releaseLines_atn nofun

/-! ### The commands -/

section
variable {s : State} (lines : LinesAgree s)
include lines

/-- What only a running part takes keeps the lines where it keeps them driven. -/
theorem whenRunning_linesAgree {f : State → State} (h : s.Driven → (f s).Driven) :
    LinesAgree (s.whenRunning f) := by
  unfold State.whenRunning
  split
  · next running => exact (h (driven_of_linesAgree running lines)).linesAgree
  · exact lines

theorem request_linesAgree (p : Port) (echo : Byte) {answer : State → Answer}
    (h : s.Driven → (answer s).state.Driven) : LinesAgree (s.request p echo answer) := by
  unfold State.request
  split
  · next running =>
    split
    · have answered : (s.answer p echo answer).Driven := h (driven_of_linesAgree running lines)
      exact answered.linesAgree
    · exact lines
    · exact lines
  · exact lines

theorem dispatched_linesAgree (p : Port) (echo : Byte) {answer : State → Answer} (code : Nat) (payload : List Byte)
    (h : answer s = s.dispatch p code payload) : LinesAgree (s.request p echo answer) :=
  request_linesAgree lines p echo fun driven => by
    rw [h]
    exact LinesDriven.dispatch driven p code payload

end

theorem exec_linesAgree (i : Instr) (s t : State) (h : exec i s = .next t) (lines : LinesAgree s) : LinesAgree t := by
  cases i with
  | powerOnReset straps => cases h; exact (s.powerOn_driven straps).linesAgree
  | nrstAsserted =>
    cases h
    split
    · exact lines
    · exact s.holdReset_linesAgree
    · exact s.holdReset_linesAgree
  | nrstReleased straps =>
    cases h
    split
    · exact (s.endReset_driven straps).linesAgree
    · exact lines
    · exact lines
  | powerLoss => cases h; exact s.losePower_linesAgree
  | frameStrobe => cases h; exact whenRunning_linesAgree lines LinesDriven.strobeFrame
  | ringReply r code parity => cases h; exact whenRunning_linesAgree lines fun driven => driven.takeReply _ _
  | replyDeadline => cases h; exact whenRunning_linesAgree lines LinesDriven.takeDeadline
  | correlationCompletion => cases h; exact whenRunning_linesAgree lines LinesDriven.completeCorrelation
  | pulseWidthElapsed =>
    cases h
    exact whenRunning_linesAgree lines fun driven => driven.setPls _ driven.pulse.endPulse
  | gapElapsed =>
    cases h
    exact whenRunning_linesAgree lines fun driven => driven.setPls _ (driven.pulse.endGap _)
  | crystalFailure => cases h; exact whenRunning_linesAgree lines LinesDriven.crystalFails
  | stableTimeReached | idleGapElapsed p | responseEnd p => cases h; exact whenRunning_linesAgree lines id
  | claimExpiry => cases h; exact whenRunning_linesAgree lines fun driven => driven.reachExpiry.expireClaim
  | nvWriteCompletion agrees => cases h; exact whenRunning_linesAgree lines fun driven => driven.nvComplete agrees
  | captureCopyCompletion => cases h; exact whenRunning_linesAgree lines LinesDriven.copyEnds
  | byteReceived p x framingError =>
    cases h
    exact whenRunning_linesAgree lines fun driven => driven.receive p x framingError
  | interByteTimeout p => cases h; exact whenRunning_linesAgree lines fun driven => driven.byteTimeout p
  | unknownCommand p code =>
    cases h
    split
    · exact lines
    · exact request_linesAgree lines p code id
  | responseStart p => cases h; exact whenRunning_linesAgree lines fun driven => driven.startResponse p
  | identify p => cases h; exact dispatched_linesAgree lines p _ 0x01 [] rfl
  | readFlow p => cases h; exact dispatched_linesAgree lines p _ 0x10 [] rfl
  | readPairs p => cases h; exact dispatched_linesAgree lines p _ 0x11 [] rfl
  | readSlugs p start => cases h; exact dispatched_linesAgree lines p _ 0x12 [start] rfl
  | readDeparted p => cases h; exact dispatched_linesAgree lines p _ 0x13 [] rfl
  | readHealth p => cases h; exact dispatched_linesAgree lines p _ 0x14 [] rfl
  | readTotals p => cases h; exact dispatched_linesAgree lines p _ 0x15 [] rfl
  | readStats p => cases h; exact dispatched_linesAgree lines p _ 0x16 [] rfl
  | readFaults p => cases h; exact dispatched_linesAgree lines p _ 0x17 [] rfl
  | takeEvents p remove => cases h; exact request_linesAgree lines p _ fun driven => driven.setAttention _ _
  | setAttention p enable threshold =>
    cases h
    exact request_linesAgree lines p _ fun driven => driven.answerAttention _ _ _
  | openEdit p => cases h; exact dispatched_linesAgree lines p _ 0x30 [] rfl
  | writeField p field value => cases h; exact request_linesAgree lines p _ fun driven => driven.answerWrite _ _ _
  | readField p field slot => cases h; exact dispatched_linesAgree lines p _ 0x32 [field, slot] rfl
  | commitEdit p => cases h; exact dispatched_linesAgree lines p _ 0x33 [] rfl
  | dropEdit p => cases h; exact dispatched_linesAgree lines p _ 0x34 [] rfl
  | clearTotals p => cases h; exact dispatched_linesAgree lines p _ 0x35 [] rfl
  | guardRelease p => cases h; exact dispatched_linesAgree lines p _ 0x40 [] rfl
  | flushBegin p => cases h; exact dispatched_linesAgree lines p _ 0x41 [] rfl
  | flushEnd p => cases h; exact dispatched_linesAgree lines p _ 0x42 [] rfl
  | restart p => cases h; exact dispatched_linesAgree lines p _ 0x43 [] rfl
  | armCapture p content which trigger =>
    cases h
    exact dispatched_linesAgree lines p _ 0x50 [content, which, trigger] rfl
  | readCapture p offset =>
    cases h
    refine request_linesAgree lines p _ fun driven => ?_
    rw [State.answerReadCapture_state]
    exact driven
  | releaseCapture p => cases h; exact dispatched_linesAgree lines p _ 0x52 [] rfl
  | clearFaults p => cases h; exact dispatched_linesAgree lines p _ 0x60 [] rfl
  | clearStats p => cases h; exact dispatched_linesAgree lines p _ 0x61 [] rfl

/-- Settles O37: a running part's lines stay driven through every tick and command, the starts leave them driven, and a
part that is held or loses its power has released them. -/
theorem linesAgreeKept : Obligations.LinesAgreeKept := by
  unfold Obligations.LinesAgreeKept
  intro s t lines h
  unfold step at h
  split at h
  · cases h
    by_cases running : s.power = .running
    · exact (driven_of_linesAgree running lines).tick.linesAgree
    · rwa [State.tick, State.whenRunning_not _ _ running]
  · next c rest _ => exact exec_linesAgree c (s.setPending rest) t h lines

end Sys2Proof.Machine
end

section
/-!
PROOFS. ResetHeldAndPowerLost: the lines and ports that an NRST's assertion and a loss of power release, and the writes
that they cut (R98, R111, R122, R147, R155, R167, R194, R195).
-/

namespace Sys2Proof.Machine

open Sys2Proof.Claim

/-- A cut leaves no write, and the region of the one in progress failing its check (R116, R147). -/
theorem Nv.cut_eq (v : Nv) : v.cut = ⟨none, [], profileAfterCut v, totalsAfterCut v⟩ := by
  unfold Nv.cut profileAfterCut totalsAfterCut
  rcases v.writing with _ | (_ | _) <;> rfl

theorem exec_nrstAsserted (s : State) (powered : s.power ≠ .off) : exec .nrstAsserted s = .next s.holdReset := by
  show Host.Outcome.next (match s.power with | .off => s | .held | .running => s.holdReset) = _
  cases h : s.power with
  | off => exact absurd h powered
  | held => rfl
  | running => rfl

/-- Settles O13: both release the same lines and ports and cut the same write, and the assertion of NRST also clears the
guard and the fault map. -/
theorem resetHeldAndPowerLost : Obligations.ResetHeldAndPowerLost := by
  unfold Obligations.ResetHeldAndPowerLost
  intro s silent
  have released : silent s.releaseLines := by
    refine ⟨rfl, rfl, s.releaseLines_atn, PerRing.get_fill false, rfl, fun p => ?_, ?_, rfl, rfl⟩
    · simp [State.releaseLines, PortState.silence, PortState.endFrame]
    · exact s.pst.nv.cut_eq
  refine ⟨fun powered => ⟨_, exec_nrstAsserted s powered, rfl, released, rfl, rfl, rfl, ?_⟩,
    ⟨s.losePower, rfl, rfl, released, ?_⟩⟩
  · intro b
    cases b <;> simp [Block.Same, State.holdReset, State.releaseLines]
  · intro b
    cases b <;> simp [Block.Same, State.losePower, State.releaseLines]

end Sys2Proof.Machine
end

section
/-!
PROOFS. GuardSteps: the classes of a record, the guard's tables on them, and the kinds that its moves post (R99 to
R105).
-/

namespace Sys2Proof.Machine

open Sys2Proof.Claim

/-! ### The classes of a record (R99) -/

theorem FlowRecord.isDanger_iff (p : Profile) (r : FlowRecord) : r.isDanger p = true ↔ r.line = .running
    ∧ ((∃ m, r.margin = some m ∧ m < p.tripMargin) ∨ (r.status = .lost ∧ p.lostIsDanger = true)) := by
  cases margin : r.margin <;> simp [FlowRecord.isDanger, margin]

theorem FlowRecord.isWatch_iff (p : Profile) (r : FlowRecord) : r.isWatch p = true ↔ r.line = .running
    ∧ ∃ m, r.margin = some m ∧ m < p.watchMargin := by
  cases margin : r.margin <;> simp [FlowRecord.isWatch, margin]

theorem FlowRecord.isGood_iff (p : Profile) (r : FlowRecord) : r.isGood p = true ↔
    (r.status = .correlated ∨ r.status = .slug) ∧ ∃ m, r.margin = some m ∧ p.tripMargin + p.hysteresis ≤ m := by
  cases margin : r.margin <;> simp [FlowRecord.isGood, margin]

/-! ### The tables (R101 to R104) -/

section
variable (p : Profile) (r : FlowRecord) (g : Dgd)

/-- R102. -/
theorem Dgd.step_watch (h : g.state = .watch) :
    (r.isDanger p = true → p.tripCount ≤ g.danger + 1 → g.step p r = .make .tripped 0 0)
    ∧ (r.isDanger p = true → g.danger + 1 < p.tripCount → g.step p r = .make .watch (g.danger + 1) 0)
    ∧ (¬ r.isDanger p = true → r.isWatch p = true → g.step p r = .make .watch 0 0)
    ∧ (¬ r.isDanger p = true → ¬ r.isWatch p = true → g.step p r = .make .clear 0 0) := by
  simp only [Dgd.step, h]
  refine ⟨fun danger reached => ?_, fun danger below => ?_, fun safe watch => ?_, fun safe calm => ?_⟩
  · rw [if_pos danger, if_pos reached]
  · rw [if_pos danger, if_neg (Nat.not_le.2 below)]
  · rw [if_neg safe, if_pos watch]
  · rw [if_neg safe, if_neg calm]

/-- In CLEAR the guard steps as in WATCH with no danger counted (R101). -/
theorem Dgd.step_clear (h : g.state = .clear) :
    (r.isDanger p = true → p.tripCount ≤ 1 → g.step p r = .make .tripped 0 0)
    ∧ (r.isDanger p = true → 1 < p.tripCount → g.step p r = .make .watch 1 0)
    ∧ (¬ r.isDanger p = true → r.isWatch p = true → g.step p r = .make .watch 0 0)
    ∧ (¬ r.isDanger p = true → ¬ r.isWatch p = true → g.step p r = .make .clear 0 0) := by
  have asWatch : g.step p r = Dgd.step p r ⟨.watch, 0, g.recovery, g.trip⟩ := by
    simp only [Dgd.step, h]
  rw [asWatch]
  exact Dgd.step_watch p r ⟨.watch, 0, g.recovery, g.trip⟩ rfl

/-- R103. -/
theorem Dgd.step_tripped (h : g.state = .tripped) :
    (r.isGood p = true → p.clearCount ≤ g.recovery + 1 → g.step p r = .make .recovered 0 0)
    ∧ (r.isGood p = true → g.recovery + 1 < p.clearCount → g.step p r = .make .tripped 0 (g.recovery + 1))
    ∧ (¬ r.isGood p = true → g.step p r = .make .tripped 0 0) := by
  simp only [Dgd.step, h]
  refine ⟨fun good reached => ?_, fun good below => ?_, fun poor => ?_⟩
  · rw [if_pos good, if_pos reached]
  · rw [if_pos good, if_neg (Nat.not_le.2 below)]
  · rw [if_neg poor]

/-- R104. -/
theorem Dgd.step_recovered (h : g.state = .recovered) :
    (r.isDanger p = true → g.step p r = .make .tripped 0 0)
    ∧ (¬ r.isDanger p = true → g.step p r = .make .recovered 0 0) := by
  simp only [Dgd.step, h]
  exact ⟨fun danger => if_pos danger, fun safe => if_neg safe⟩

/-! ### The kinds posted (R105) -/

/-- GUARD_WATCH is posted exactly by a step out of CLEAR. -/
theorem guardWatch_mem_guardEvents :
    .guardWatch ∈ guardEvents p r g ↔ g.state = .clear ∧ (g.step p r).state ≠ .clear := by
  unfold guardEvents Dgd.step
  cases g.state <;> simp only <;> split_ifs <;> simp [Dgd.make]

/-- GUARD_RECOVERED is posted exactly by a step from TRIPPED into RECOVERED. -/
theorem guardRecovered_mem_guardEvents :
    .guardRecovered ∈ guardEvents p r g ↔ g.state = .tripped ∧ (g.step p r).state = .recovered := by
  unfold guardEvents Dgd.step
  cases g.state with
  | clear => simp only; split_ifs <;> simp
  | watch => simp only; split_ifs <;> simp
  | tripped =>
    cases r.isGood p with
    | false => simp [Dgd.make]
    | true => by_cases reached : p.clearCount ≤ g.recovery + 1 <;> simp [reached, Dgd.make]
  | recovered => simp only; split_ifs <;> simp

end

theorem foldl_post_pends_eq (kinds : List EventKind) (j : EventKind) (p : Port) (s : State) (hj : j ≠ .captureDone) :
    Pends (kinds.foldl (fun s k => s.post k) s) p j = (Pends s p j || decide (j ∈ kinds)) := by
  induction kinds generalizing s with
  | nil => simp
  | cons k kinds ih =>
    rw [List.foldl_cons, ih, State.post_pends_eq k j p s hj, Bool.or_assoc, ← Bool.decide_or]
    simp only [List.mem_cons]

/-- A publication posts what the guard's step on its record gives, and no other of the guard's kinds (R105). -/
theorem State.publish_guardEvents (w : Index) (rs : PerSlot (Option PairResult)) (s : State) (p : Port) (j : EventKind)
    (hj : j ∈ [EventKind.guardTripped, .guardWatch, .guardRecovered]) : Pends (s.publish w rs) p j
      = (Pends s p j || decide (j ∈ guardEvents s.active (s.computeRecord w rs) s.dgd)) := by
  have apart : j ∉ [EventKind.pulseOverrun, .faultMapFull, .captureDone]
      ∧ j ∉ [EventKind.recordPublished, .velocityLost, .captureDone] ∧ j ≠ .captureDone := by
    revert j
    decide
  have announced := (s.announce_within (s.solve w rs)).same p j apart.2.1
  obtain ⟨_, _, only⟩ := s.announce_only (s.solve w rs)
  rw [State.publish_steps, (State.integrateRecord_within _).same p j apart.1, State.guardStep,
    foldl_post_pends_eq _ _ _ _ apart.2.2]
  refine congrArg₂ _ announced ?_
  rw [only]
  rfl

/-- The guard, its record and its postings after a completion, from the state as the completion found it (R100). -/
theorem exec_completion_guard (f : InFlight) (s : State) (h : InFlightNow f s) :
    ∃ t r, exec .correlationCompletion s = .next t ∧ t.fsv.record = { r with guard := (s.dgd.step s.active r).state }
      ∧ t.dgd = s.dgd.step s.active r
      ∧ ∀ q j, j ∈ [EventKind.guardTripped, .guardWatch, .guardRecovered] →
        Pends t q j = (Pends s q j || decide (j ∈ guardEvents s.active r s.dgd)) := by
  have within := s.completed_within (some f) f.window (s.sfe.resultSet f)
  have blocks := s.completed_eq (some f) f.window (s.sfe.resultSet f)
  have dgd : (s.completed (some f) f.window (s.sfe.resultSet f)).dgd = s.dgd := by rw [blocks]
  have active : (s.completed (some f) f.window (s.sfe.resultSet f)).active = s.active := by rw [blocks]; rfl
  refine ⟨_, (s.completed (some f) f.window (s.sfe.resultSet f)).computeRecord f.window (s.sfe.resultSet f),
    exec_correlationCompletion f s h, ?_, ?_, fun q j hj => ?_⟩
  · rw [State.publish_fsv, ← dgd, ← active]
    rfl
  · rw [State.publish_eq, ← dgd, ← active]
  · have captured := within.same q j (by revert j; decide)
    rw [State.publish_guardEvents _ _ _ q j hj, captured, dgd, active]

/-- Settles O35: the state that the guard was in tells the table, and the moves tell the kinds. -/
theorem guardSteps : Obligations.GuardSteps := by
  unfold Obligations.GuardSteps
  intro f s h
  obtain ⟨t, r, next, record, guard, posted⟩ := exec_completion_guard f s h
  refine ⟨t, next, ?_⟩
  simp only [record, guard, ← FlowRecord.isDanger_iff, ← FlowRecord.isWatch_iff, ← FlowRecord.isGood_iff]
  refine ⟨trivial, Dgd.step_clear s.active r s.dgd, Dgd.step_watch s.active r s.dgd, Dgd.step_tripped s.active r s.dgd,
    Dgd.step_recovered s.active r s.dgd, fun q => ?_, fun q => ?_, fun q => ?_⟩
  · exact (posted q .guardTripped (by decide)).trans
      (congrArg _ (decide_eq_decide.2 (guardTripped_mem_guardEvents _ _ _)))
  · exact (posted q .guardWatch (by decide)).trans (congrArg _ (decide_eq_decide.2 (guardWatch_mem_guardEvents _ _ _)))
  · exact (posted q .guardRecovered (by decide)).trans
      (congrArg _ (decide_eq_decide.2 (guardRecovered_mem_guardEvents _ _ _)))

end Sys2Proof.Machine
end

section
/-!
PROOFS. GuardRelease: the answer of a release that is accepted and of one that is refused (R106, R107).
-/

namespace Sys2Proof.Machine

open Sys2Proof.Claim

/-- The payload of GUARD_RELEASE: the guard state after the request and the line state. -/
def releaseReport (g : GuardState) (line : LineState) : List Byte := bytesBE 1 g.code ++ (bytesBE 1 line.code ++ [])

theorem releaseReport_items (g : GuardState) (line : LineState) : (releaseReport g line).length = 2
    ∧ At (releaseReport g line) 0 1 g.code ∧ At (releaseReport g line) 1 1 line.code :=
  ⟨by simp [releaseReport], at_bytesBE _ _ _, at_behind _ _ (by omega) (at_bytesBE _ _ _)⟩

theorem State.answerRelease_accepted (s : State) (accepted : releaseStatus s.dgd.state s.fsv.line = .ok) :
    s.answerRelease = ⟨.ok, releaseReport .clear s.fsv.line, s.releaseGuard⟩ := by
  simp only [State.answerRelease, accepted, if_true, releaseReport, List.append_nil]
  rfl

/-- A refused release changes nothing. -/
theorem State.answerRelease_refused (s : State) (refused : releaseStatus s.dgd.state s.fsv.line ≠ .ok) : s.answerRelease
    = ⟨releaseStatus s.dgd.state s.fsv.line, releaseReport s.dgd.state s.fsv.line, s⟩ := by
  simp only [State.answerRelease, if_neg refused, releaseReport, List.append_nil]
  rfl

theorem exec_guardRelease (p : Port) (s : State) (h : Free p s) :
    exec (.guardRelease p) s = .next (s.answer p 0x40 State.answerRelease) :=
  congrArg Host.Outcome.next (s.request_free p 0x40 State.answerRelease h.1 h.2)

/-- A refused release at its port (R106). -/
theorem exec_guardRelease_refused (p : Port) (s : State) (h : Free p s) (st : Status)
    (status : releaseStatus s.dgd.state s.fsv.line = st) (refused : st ≠ .ok) :
    ∃ t, exec (.guardRelease p) s = .next t ∧ OnlyChanges [.mpt] s t
      ∧ Answered p 0x40 st (releaseReport s.dgd.state s.fsv.line) s t := by
  have eq := s.answerRelease_refused (status ▸ refused)
  have answered := s.answer_answered p 0x40 State.answerRelease (by rw [eq])
  rw [eq, status] at answered
  exact ⟨_, exec_guardRelease p s h, s.answer_onlyPorts _ _ _ (by rw [eq]), answered⟩

theorem State.onlyReleased (s : State) : OnlyChanges [.dgd, .fsv, .mpt] s s.releaseGuard := by
  intro b
  cases b <;> simp [Block.Same, State.releaseGuard]

/-- Settles O36: the status tells the row, and each row's answer is that of an accepted or a refused release. -/
theorem guardRelease : Obligations.GuardRelease := by
  unfold Obligations.GuardRelease
  intro p s free accepted lineCode
  have line : (s.fsv.line.code : Int) = lineCode := by
    cases h : s.fsv.line <;> simp [lineCode, h, LineState.code]
  refine ⟨fun rows => ?_, fun tripped moving => ?_, fun early => ?_⟩
  · have status : releaseStatus s.dgd.state s.fsv.line = .ok := by
      rcases rows with recovered | ⟨tripped, stopped⟩
      · rw [recovered, releaseStatus]
      · rw [tripped, stopped, releaseStatus, if_pos rfl]
    have eq := s.answerRelease_accepted status
    have answered := s.answer_answered_of_mpt p 0x40 State.answerRelease (by rw [eq]; rfl)
    rw [eq] at answered
    obtain ⟨length, guard, state⟩ := releaseReport_items .clear s.fsv.line
    refine ⟨_, _, exec_guardRelease p s free, s.answer_onlyChanges p 0x40 _ _ ?_ (by simp), answered, length, guard,
      line ▸ state, ?_, ?_⟩
    · rw [eq]
      exact s.onlyReleased
    · rw [State.answer_dgd, eq]
      rfl
    · rw [State.answer_fsv, eq]
      rfl
  · have status : releaseStatus s.dgd.state s.fsv.line = .danger := by
      rw [tripped, releaseStatus, if_neg moving]
    obtain ⟨t, next, only, answered⟩ := exec_guardRelease_refused p s free _ status (by decide)
    obtain ⟨length, guard, state⟩ := releaseReport_items s.dgd.state s.fsv.line
    exact ⟨t, _, next, only, answered, length, at_congr guard (by rw [tripped]; rfl), line ▸ state⟩
  · have status : releaseStatus s.dgd.state s.fsv.line = .state := by
      rcases early with clear | watch
      · rw [clear, releaseStatus]
      · rw [watch, releaseStatus]
    obtain ⟨t, next, only, answered⟩ := exec_guardRelease_refused p s free _ status (by decide)
    obtain ⟨length, guard, state⟩ := releaseReport_items s.dgd.state s.fsv.line
    have code : (s.dgd.state.code : Int) = if s.dgd.state = .clear then 0 else 1 := by
      rcases early with clear | watch
      · rw [clear, if_pos rfl]
        rfl
      · rw [watch, if_neg (by decide)]
        rfl
    exact ⟨t, _, next, only, answered, length, at_congr guard code, line ▸ state⟩

end Sys2Proof.Machine
end

section
/-!
SUPPORT. The queue of writes of the non-volatile device, the totals and the pulse credit, each by itself: what an operation
on one of them keeps of its invariant (R113 to R124, R144 to R147).
-/

namespace Sys2Proof.Machine

open Sys2Proof.Claim

/-! ### The queue of writes (R145) -/

/-- At most one waiting write per region, none while nothing is written, and every snapshot with its check. -/
structure Nv.Agrees (v : Nv) : Prop where
  regions : (v.waiting.map NvJob.region).Nodup
  idle : v.writing = none → v.waiting = []
  checked : ∀ j, v.Holds j → Sealed j

theorem sealed_image (p : Profile) : Sealed (.profile p.image) := by
  simp only [imageOf_eq, Sealed, imageOf]

theorem sealed_snapshot (t : Tot) : Sealed (.totals t.snapshot) :=
  ((Checkpoint.passes_iff _).1 t.snapshot_passes).trans (totalsCheck_eq _).symm

theorem enqueueWrite_held (j x : NvJob) (l : List NvJob) (h : x ∈ enqueueWrite j l) : x = j ∨ x ∈ l := by
  unfold enqueueWrite at h
  split at h
  · obtain ⟨y, hy, rfl⟩ := List.mem_map.1 h
    split
    · exact .inl rfl
    · exact .inr hy
  · rcases List.mem_append.1 h with h | h
    · exact .inr h
    · exact .inl (List.mem_singleton.1 h)

/-- A write takes the place of its region's waiting one, so no region waits twice. -/
theorem enqueueWrite_nodup (j : NvJob) (l : List NvJob) (h : (l.map NvJob.region).Nodup) :
    ((enqueueWrite j l).map NvJob.region).Nodup := by
  unfold enqueueWrite
  split
  · have same : (l.map fun x => if x.region = j.region then j else x).map NvJob.region = l.map NvJob.region := by
      rw [List.map_map]
      refine List.map_congr_left fun x _ => ?_
      rw [Function.comp_apply]
      split
      · next replaced => exact replaced.symm
      · rfl
    rwa [same]
  · next new =>
    rw [List.map_append, List.map_singleton]
    refine h.append (List.nodup_singleton _) (List.disjoint_singleton.2 fun waits => new ?_)
    obtain ⟨x, hx, region⟩ := List.mem_map.1 waits
    exact List.any_eq_true.2 ⟨x, hx, beq_iff_eq.2 region⟩

section
variable {v : Nv} (h : v.Agrees)
include h

theorem Nv.Agrees.queue {j : NvJob} (hj : Sealed j) : (v.queue j).Agrees := by
  unfold Nv.queue
  split
  · next idle =>
    refine ⟨h.regions, nofun, fun x held => ?_⟩
    rcases held with writes | waits
    · exact Option.some.inj writes ▸ hj
    · exact h.checked x (.inr waits)
  · next busy =>
    refine ⟨enqueueWrite_nodup j _ h.regions, fun idle => (by cases busy.symm.trans idle), fun x held => ?_⟩
    rcases held with writes | waits
    · exact h.checked x (.inl writes)
    · rcases enqueueWrite_held j x _ waits with rfl | waits
      · exact hj
      · exact h.checked x (.inr waits)

/-- The device goes on to the oldest waiting write, whatever the ended one left in its region (R145, R146). -/
theorem Nv.Agrees.next {w : Nv} (same : w.waiting = v.waiting) : w.next.Agrees := by
  have regions := h.regions
  have checked : ∀ x ∈ v.waiting, Sealed x := fun x waits => h.checked x (.inr waits)
  rw [← same] at regions checked
  unfold Nv.next
  split
  · next none => exact ⟨regions, fun _ => none, fun x held => checked x (held.resolve_left nofun)⟩
  · next j l waits =>
    rw [waits] at regions checked
    refine ⟨(List.nodup_cons.1 regions).2, nofun, fun x held => ?_⟩
    rcases held with writes | waits
    · exact checked x (Option.some.inj writes ▸ List.mem_cons_self)
    · exact checked x (List.mem_cons_of_mem _ waits)

end

theorem Nv.keep_waiting (v : Nv) (j : NvJob) : (v.keep j).waiting = v.waiting := by cases j <;> rfl

theorem Nv.spoil_waiting (n : Nat) (v : Nv) (j : NvJob) : (v.spoil n j).waiting = v.waiting := by cases j <;> rfl

theorem Nv.cut_agrees (v : Nv) : v.cut.Agrees := by
  rw [Nv.cut_eq]
  exact ⟨List.nodup_nil, fun _ => rfl, fun _ held => by rcases held with h | h <;> cases h⟩

/-- That a pending commit has a holder is part of the well-formed store. -/
theorem storeAgrees_iff (s : State) : StoreAgrees s ↔ s.pst.Wf ∧ s.pst.nv.Agrees := by
  refine ⟨fun ⟨wf, _, regions, idle, checked⟩ => ⟨wf, regions, idle, checked⟩, fun ⟨wf, regions, idle, checked⟩ =>
    ⟨wf, fun pending free => ?_, regions, idle, checked⟩⟩
  obtain ⟨_, _, unclaimed, _⟩ := wf
  exact absurd ((unclaimed free).2.symm.trans pending) (by decide)

/-! ### The totals (R113 to R115) -/

/-- The totals under a frame rate: in their range, with the residues below their divisors. -/
structure Tot.Agrees (fs : Nat) (t : Tot) : Prop where
  rate : t.rate = fs
  volume : t.volume < 2 ^ 48
  solids : t.solids < 2 ^ 48
  volumeResidue : t.volumeResidue < volumeDivisor t.rate
  solidsResidue : t.solidsResidue < solidsDivisor t.rate
  checkpoint : t.checkpoint < 64

theorem totalsAgree_iff (s : State) :
    TotalsAgree s ↔ s.tot.Agrees s.pst.active.fs ∧ s.pls.credit ≤ creditCap s.pst.active :=
  ⟨fun ⟨rate, volume, solids, volumeResidue, solidsResidue, checkpoint, credit⟩ =>
      ⟨⟨rate, volume, solids, volumeResidue, solidsResidue, checkpoint⟩, credit⟩,
    fun ⟨⟨rate, volume, solids, volumeResidue, solidsResidue, checkpoint⟩, credit⟩ =>
      ⟨rate, volume, solids, volumeResidue, solidsResidue, checkpoint, credit⟩⟩

theorem volumeDivisor_pos {rate : Nat} (h : 0 < rate) : 0 < volumeDivisor rate := Nat.mul_pos h (by decide)

theorem solidsDivisor_pos {rate : Nat} (h : 0 < rate) : 0 < solidsDivisor rate := Nat.mul_pos h (by decide)

/-- A residue rescaled from one rate to another stays below its divisor (R114). -/
theorem rescaled_lt {x unit old new : Nat} (h : x < old * unit) (hn : 0 < new) : x * new / old < new * unit := by
  refine Nat.div_lt_of_lt_mul ?_
  calc x * new < old * unit * new := Nat.mul_lt_mul_of_pos_right h hn
    _ = old * (new * unit) := by ring

theorem min_totalMax_lt (x : Nat) : min Config.totalMax x < 2 ^ 48 :=
  (Nat.min_le_left _ _).trans_lt (Nat.sub_lt (Nat.two_pow_pos 48) Nat.one_pos)

section
variable {fs : Nat} {t : Tot} (h : t.Agrees fs)
include h

theorem Tot.Agrees.rate_pos : 0 < t.rate := Nat.pos_of_mul_pos_right (Nat.zero_lt_of_lt h.volumeResidue)

theorem Tot.Agrees.integrate (vn mn : Nat) : (t.integrate vn mn).Agrees fs := by
  have volume := Nat.mod_lt (t.volumeResidue + vn) (volumeDivisor_pos h.rate_pos)
  have solids := Nat.mod_lt (t.solidsResidue + mn) (solidsDivisor_pos h.rate_pos)
  unfold Tot.integrate
  exact ⟨h.rate, min_totalMax_lt _, min_totalMax_lt _, volume, solids, h.checkpoint⟩

theorem Tot.Agrees.afterRecord (p : Profile) (area : Nat) (r : FlowRecord) : (t.afterRecord p area r).Agrees fs := by
  unfold Tot.afterRecord
  split
  · exact h.integrate _ _
  · exact h

theorem Tot.Agrees.published : t.published.Agrees fs where
  rate := h.rate
  volume := h.volume
  solids := h.solids
  volumeResidue := h.volumeResidue
  solidsResidue := h.solidsResidue
  checkpoint := by
    unfold Tot.published
    simp only
    split
    · decide
    · next below => exact Nat.not_le.1 below

theorem Tot.Agrees.cleared : Tot.Agrees fs { t.cleared with checkpoint := 0 } where
  rate := h.rate
  volume := Nat.two_pow_pos 48
  solids := Nat.two_pow_pos 48
  volumeResidue := volumeDivisor_pos h.rate_pos
  solidsResidue := solidsDivisor_pos h.rate_pos
  checkpoint := Nat.zero_lt_succ _

theorem Tot.Agrees.rescale {new : Nat} (hn : 0 < new) : (t.rescale new).Agrees new := by
  unfold Tot.rescale
  split
  · next same => exact ⟨same.symm, h.volume, h.solids, h.volumeResidue, h.solidsResidue, h.checkpoint⟩
  · exact ⟨rfl, h.volume, h.solids, rescaled_lt h.volumeResidue hn, rescaled_lt h.solidsResidue hn, h.checkpoint⟩

end

/-- Totals of 0 (R118). -/
theorem Tot.zero_agrees {fs : Nat} (h : 0 < fs) : Tot.Agrees fs ⟨0, 0, 0, 0, fs, 0, false⟩ :=
  ⟨rfl, Nat.two_pow_pos 48, Nat.two_pow_pos 48, volumeDivisor_pos h, solidsDivisor_pos h, Nat.zero_lt_succ _⟩

theorem Checkpoint.usable_iff (c : Checkpoint) : c.usable = true ↔ Restorable c := by
  simp only [Checkpoint.usable, Bool.and_eq_true, decide_eq_true_eq, Checkpoint.passes_iff, ← totalsCheck_eq, and_assoc]
  exact Iff.rfl

/-- A POR restores the totals in their ranges or starts them at 0 (R118). -/
theorem Nv.restoreTotals_agrees {fs : Nat} (h : 0 < fs) (v : Nv) : (v.restoreTotals fs).Agrees fs := by
  unfold Nv.restoreTotals
  split
  · next c _ =>
    split
    · next usable =>
      obtain ⟨_, _, _, volumeResidue, solidsResidue⟩ := c.usable_iff.1 usable
      have held : Tot.Agrees c.rate
          ⟨c.volume.toNat, c.volumeResidue, c.solids.toNat, c.solidsResidue, c.rate, 0, false⟩ :=
        ⟨rfl, c.volume.isLt, c.solids.isLt, volumeResidue, solidsResidue, Nat.zero_lt_succ _⟩
      exact held.rescale h
    · exact Tot.zero_agrees h
  · exact Tot.zero_agrees h

theorem Profile.accepted_fs (p : Profile) (h : p.accepted = true) : 0 < p.fs := by
  have range := p.accepted_field 5 h (by decide)
  simp [Profile.fieldInRange, isPointField, scalarInRange, fieldRange, Profile.scalar] at range
  omega

/-! ### The pulse credit (R121, R122) -/

/-- What the pulses given, the credit and the lost credit come to at a weight (R121). -/
def Pls.account (weight : Nat) (x : Pls) : Nat := weight * x.emitted + x.credit + x.lost

/-- The generator goes on: it may turn credit into pulses, and no credit comes or goes otherwise. -/
structure Pls.Spends (weight : Nat) (x y : Pls) : Prop where
  account : y.account weight = x.account weight
  credit : y.credit ≤ x.credit
  lost : y.lost = x.lost

theorem Pls.Spends.refl (weight : Nat) (x : Pls) : Spends weight x x := ⟨rfl, le_rfl, rfl⟩

theorem Pls.Spends.trans {weight : Nat} {x y z : Pls} (h : Spends weight x y) (g : Spends weight y z) :
    Spends weight x z := ⟨g.account.trans h.account, g.credit.trans h.credit, g.lost.trans h.lost⟩

theorem Pls.examine_spends (p : Profile) (x : Pls) : Spends p.pulseWeight x (x.examine p) := by
  unfold Pls.examine
  split
  · next covered =>
    refine ⟨?_, Nat.sub_le _ _, rfl⟩
    simp only [Pls.account, Nat.mul_add, Nat.mul_one]
    omega
  · exact ⟨rfl, le_rfl, rfl⟩

theorem Pls.examineIfIdle_spends (p : Profile) (x : Pls) : Spends p.pulseWeight x (x.examineIfIdle p) := by
  unfold Pls.examineIfIdle
  split
  · exact x.examine_spends p
  · exact .refl _ x

theorem Pls.endPulse_spends (weight : Nat) (x : Pls) : Spends weight x x.endPulse := by
  unfold Pls.endPulse
  split <;> exact ⟨rfl, le_rfl, rfl⟩

theorem Pls.endGap_spends (p : Profile) (x : Pls) : Spends p.pulseWeight x (x.endGap p) := by
  unfold Pls.endGap
  split
  · exact Spends.trans (y := { x with gen := .idle }) ⟨rfl, le_rfl, rfl⟩ (Pls.examine_spends _ _)
  · exact .refl _ x

theorem Pls.tick_spends (p : Profile) (x : Pls) : Spends p.pulseWeight x (x.tick p) := by
  have counted : Spends p.pulseWeight x { x with elapsed := x.elapsed + 1 } := ⟨rfl, le_rfl, rfl⟩
  unfold Pls.tick
  split
  · exact .refl _ x
  · simp only
    split
    · split
      · exact counted.trans (Pls.endPulse_spends _ _)
      · exact counted.trans (Pls.endGap_spends _ _)
    · exact counted

/-- Added credit stays below the cap, and what exceeds it is lost (R121). -/
theorem Pls.addCredit_account (p : Profile) (k weight : Nat) (x : Pls) :
    (x.addCredit p k).account weight = x.account weight + k := by
  simp only [Pls.account, Pls.addCredit]
  omega

/-- The pulse unit after an increment (R121). -/
theorem State.creditPulse_pls (k : Nat) (s : State) :
    (s.creditPulse k).pls = if k = 0 then s.pls else (s.pls.addCredit s.active k).examineIfIdle s.active := by
  unfold State.creditPulse
  simp only
  split
  · rfl
  · split
    · rw [State.recordFault_pls, State.post_pls]
      rfl
    · rfl

theorem State.creditPulse_account (k : Nat) (s : State) :
    (s.creditPulse k).pls.account s.active.pulseWeight = s.pls.account s.active.pulseWeight + k := by
  rw [State.creditPulse_pls]
  split
  · next none => rw [none, Nat.add_zero]
  · rw [(Pls.examineIfIdle_spends _ _).account, Pls.addCredit_account]

theorem State.creditPulse_credit (k : Nat) (s : State) (h : s.pls.credit ≤ creditCap s.active) :
    (s.creditPulse k).pls.credit ≤ creditCap s.active := by
  rw [State.creditPulse_pls]
  split
  · exact h
  · exact (Pls.examineIfIdle_spends _ _).credit.trans (Nat.min_le_left _ _)

end Sys2Proof.Machine
end

section
/-!
SUPPORT. What a command does to the totals, the pulse unit and the queue of writes, said once: most commands leave them but
for a clear that becomes pending, credit that turns into pulses, and the device's own work; the rest are the starts, the
completions and the boundaries.
-/

namespace Sys2Proof.Machine

open Sys2Proof.Claim

/-! ### Work that leaves the books -/

/-- The active profile and the totals stand but for a clear that becomes pending, the generator goes on, and the queue of
writes stays in order. -/
structure BooksStand (s t : State) : Prop where
  active : t.pst.active = s.pst.active
  tot : t.tot = { s.tot with clearPending := t.tot.clearPending }
  spends : Pls.Spends s.pst.active.pulseWeight s.pls t.pls
  writes : s.pst.nv.Agrees → t.pst.nv.Agrees

/-- Work beside the totals, the pulse unit and the device. -/
theorem BooksStand.of_blocks {s t : State} (active : t.pst.active = s.pst.active) (tot : t.tot = s.tot)
    (pls : t.pls = s.pls) (nv : t.pst.nv = s.pst.nv) : BooksStand s t :=
  ⟨active, by rw [tot], pls ▸ .refl _ _, fun h => nv ▸ h⟩

theorem BooksStand.refl (s : State) : BooksStand s s := .of_blocks rfl rfl rfl rfl

theorem BooksStand.trans {s t u : State} (h : BooksStand s t) (g : BooksStand t u) : BooksStand s u := by
  have spends := g.spends
  rw [h.active] at spends
  refine ⟨g.active.trans h.active, ?_, h.spends.trans spends, g.writes ∘ h.writes⟩
  rw [g.tot, h.tot]

theorem OnlyTracks.books {s t : State} (h : OnlyTracks s t) : BooksStand s t := by
  obtain ⟨_, _, _, rfl⟩ := h
  exact .of_blocks rfl rfl rfl rfl

theorem OnlyReports.books {s t : State} (h : OnlyReports s t) : BooksStand s t := h.onlyTracks.books

theorem OnlyEvents.books {s t : State} (h : OnlyEvents s t) : BooksStand s t := h.onlyReports.books

/-- What holds of a state and of what an event makes of it holds of it after the event, on a running part or not. -/
theorem State.whenRunning_of {motive : State → Prop} {f : State → State} {s : State} (same : motive s)
    (runs : motive (f s)) : motive (s.whenRunning f) := by
  unfold State.whenRunning
  split
  · exact runs
  · exact same

theorem State.whenRunning_books {f : State → State} {s : State} (h : BooksStand s (f s)) :
    BooksStand s (s.whenRunning f) := State.whenRunning_of (.refl s) h

/-! ### The answers of the requests (R134 to R176, R191) -/

theorem State.answerAttention_books (p : Port) (e : EventSet) (th : Byte) (s : State) :
    BooksStand s (s.answerAttention p e th).state := by
  unfold State.answerAttention
  split <;> exact .of_blocks rfl rfl rfl rfl

theorem State.afterTimeLeft_books (s : State) : BooksStand s s.afterTimeLeft := by
  unfold State.afterTimeLeft
  split <;> exact .of_blocks rfl rfl rfl rfl

theorem State.answerOpen_books (p : Port) (s : State) : BooksStand s (s.answerOpen p).state := by
  unfold State.answerOpen
  split
  · exact .of_blocks rfl rfl rfl rfl
  · split
    · exact .of_blocks rfl rfl rfl rfl
    · exact s.afterTimeLeft_books

theorem State.fieldAnswer_books (st : Status) (field : Byte) (s : State) :
    BooksStand s (s.fieldAnswer st field).state := by
  unfold State.fieldAnswer
  simp only
  split <;> exact .of_blocks rfl rfl rfl rfl

theorem State.answerWrite_books (p : Port) (field : Byte) (value : BitVec 32) (s : State) :
    BooksStand s (s.answerWrite p field value).state := by
  unfold State.answerWrite
  split
  · exact s.fieldAnswer_books _ _
  · split
    · exact s.fieldAnswer_books _ _
    · split
      · exact s.fieldAnswer_books _ _
      · next x _ =>
        have edited : BooksStand s ((s.setPst { s.pst with staging := x }).refreshClaim p) := .of_blocks rfl rfl rfl rfl
        exact edited.trans (State.fieldAnswer_books _ _ _)

theorem State.answerRead_books (field slot : Byte) (s : State) : BooksStand s (s.answerRead field slot).state := by
  unfold State.answerRead
  split
  · exact .refl s
  · split
    · exact s.afterTimeLeft_books
    · split
      · exact s.afterTimeLeft_books
      · exact .refl s

theorem State.answerCommit_books (p : Port) (s : State) : BooksStand s (s.answerCommit p).state := by
  unfold State.answerCommit
  split
  · exact .refl s
  · split
    · exact .refl s
    · split
      · exact .refl s
      · split <;> exact .of_blocks rfl rfl rfl rfl

theorem State.answerDrop_books (p : Port) (s : State) : BooksStand s (s.answerDrop p).state := by
  unfold State.answerDrop
  split
  · exact .refl s
  · split <;> exact .of_blocks rfl rfl rfl rfl

/-- CLEAR_TOTALS makes a clear pending at most (R119). -/
theorem State.answerClearTotals_books (p : Port) (s : State) : BooksStand s (s.answerClearTotals p).state := by
  unfold State.answerClearTotals
  simp only
  split
  · exact .refl s
  · exact ⟨rfl, rfl, .refl _ _, id⟩

theorem State.answerRelease_books (s : State) : BooksStand s s.answerRelease.state := by
  unfold State.answerRelease
  simp only
  split <;> exact .of_blocks rfl rfl rfl rfl

theorem State.answerFlushBegin_books (s : State) : BooksStand s s.answerFlushBegin.state := by
  unfold State.answerFlushBegin
  split <;> exact .of_blocks rfl rfl rfl rfl

theorem State.answerFlushEnd_books (s : State) : BooksStand s s.answerFlushEnd.state := by
  have ended : BooksStand s (s.setFsv s.fsv.endFlush) := .of_blocks rfl rfl rfl rfl
  unfold State.answerFlushEnd
  split
  · simp only
    split
    · exact ended
    · exact ended.trans (State.noteFault_onlyReports _ _ _).books
  · exact .refl s

theorem State.answerArm_books (p : Port) (content which trigger : Byte) (s : State) :
    BooksStand s (s.answerArm p content which trigger).state := by
  unfold State.answerArm
  split
  · exact .refl s
  · split
    · exact .refl s
    · next c t _ =>
      have armed : BooksStand s (s.setCap ⟨some p, .armed, some c, some t, none, [], 0, false⟩) :=
        .of_blocks rfl rfl rfl rfl
      simp only [State.arm]
      split
      · exact armed.trans (State.triggerCapture_only _).books
      · exact armed

theorem State.answerReleaseCapture_books (p : Port) (s : State) : BooksStand s (s.answerReleaseCapture p).state := by
  unfold State.answerReleaseCapture
  split
  · exact .refl s
  · split <;> exact .of_blocks rfl rfl rfl rfl

/-- No request moves the books, RESTART included (R191). -/
theorem State.dispatch_books (p : Port) (code : Nat) (payload : List Byte) (s : State) :
    BooksStand s (s.dispatch p code payload).state := by
  unfold State.dispatch
  split
  · exact .refl s
  · exact .refl s
  · exact .refl s
  · rw [State.answerSlugs_state]; exact .refl s
  · exact .refl s
  · exact .refl s
  · exact .refl s
  · exact .refl s
  · exact .refl s
  · exact .of_blocks rfl rfl rfl rfl
  · exact s.answerAttention_books _ _ _
  · exact s.answerOpen_books _
  · exact s.answerWrite_books _ _ _
  · exact s.answerRead_books _ _
  · exact s.answerCommit_books _
  · exact s.answerDrop_books _
  · exact s.answerClearTotals_books _
  · exact s.answerRelease_books
  · exact s.answerFlushBegin_books
  · exact s.answerFlushEnd_books
  · exact .of_blocks rfl rfl rfl rfl
  · exact s.answerArm_books _ _ _ _
  · rw [State.answerReadCapture_state]; exact .refl s
  · exact s.answerReleaseCapture_books _
  · exact .of_blocks rfl rfl rfl rfl
  · exact .of_blocks rfl rfl rfl rfl
  · exact .refl s

theorem State.handle_books (p : Port) (code : Byte) (payload : List Byte) (s : State) :
    BooksStand s (s.handle p code payload).state := by
  unfold State.handle
  split
  · exact .refl s
  · split
    · exact s.dispatch_books _ _ _
    · exact .refl s

theorem State.request_books (p : Port) (echo : Byte) {h : State → Answer} {s : State} (answered : BooksStand s (h s).state) :
    BooksStand s (s.request p echo h) := by
  unfold State.request
  split
  · split
    · exact answered.trans (.of_blocks rfl rfl rfl rfl)
    · exact .of_blocks rfl rfl rfl rfl
    · exact .refl s
  · exact .refl s

theorem State.dispatched_books (p : Port) (echo : Byte) {h : State → Answer} {s : State} (code : Nat)
    (payload : List Byte) (answer : h s = s.dispatch p code payload) : BooksStand s (s.request p echo h) :=
  State.request_books p echo (answer ▸ s.dispatch_books p code payload)

/-! ### The events that leave the books -/

theorem State.frameEnds_books (p : Port) (buf : List Byte) (s : State) : BooksStand s (s.frameEnds p buf) := by
  unfold State.frameEnds
  split
  · exact .of_blocks rfl rfl rfl rfl
  · split
    · split
      · exact (s.handle_books _ _ _).trans (.of_blocks rfl rfl rfl rfl)
      · exact .of_blocks rfl rfl rfl rfl
    · exact .of_blocks rfl rfl rfl rfl

theorem State.receive_books (p : Port) (x : Byte) (framingError : Bool) (s : State) :
    BooksStand s (s.receive p x framingError) := by
  unfold State.receive
  simp only
  split
  · exact .refl s
  · split
    · exact .of_blocks rfl rfl rfl rfl
    · split <;> exact .of_blocks rfl rfl rfl rfl
    · split
      · exact .of_blocks rfl rfl rfl rfl
      · split
        · exact .of_blocks rfl rfl rfl rfl
        · split
          · exact s.frameEnds_books _ _
          · exact .of_blocks rfl rfl rfl rfl

theorem State.byteTimeout_books (p : Port) (s : State) : BooksStand s (s.byteTimeout p) := by
  unfold State.byteTimeout
  split <;> exact .of_blocks rfl rfl rfl rfl

theorem State.startResponse_books (p : Port) (s : State) : BooksStand s (s.startResponse p) := by
  unfold State.startResponse
  simp only
  split
  · split <;> exact .of_blocks rfl rfl rfl rfl
  · exact .refl s

theorem State.expireClaim_books (s : State) : BooksStand s s.expireClaim := by
  have ended : BooksStand s (s.setPst s.pst.endClaim) := .of_blocks rfl rfl rfl rfl
  unfold State.expireClaim
  split
  · exact ended.trans (State.post_only _ _).books
  · exact .refl s

theorem State.reachExpiry_books (s : State) : BooksStand s s.reachExpiry := by
  unfold State.reachExpiry
  split
  · split <;> exact .of_blocks rfl rfl rfl rfl
  · exact .refl s

theorem State.copyEnds_books (s : State) : BooksStand s s.copyEnds := by
  unfold State.copyEnds
  split
  · exact (s.completeCapture_only _).books
  · exact .refl s

theorem State.crystalFails_books (s : State) : BooksStand s s.crystalFails := by
  unfold State.crystalFails
  split
  · exact BooksStand.trans (t := s.setSfe { s.sfe with clock := .fallback, stable := 0, degraded := true })
      (.of_blocks rfl rfl rfl rfl) (State.post_only _ _).books
  · exact .of_blocks rfl rfl rfl rfl

theorem State.strobeFrame_books (s : State) : BooksStand s s.strobeFrame := by
  unfold State.strobeFrame
  split <;> exact .of_blocks rfl rfl rfl rfl

/-- A write ends, whatever it leaves in its region, and the device goes on to the next one (R145, R146). -/
theorem State.nvComplete_books (agrees : Bool) (s : State) : BooksStand s (s.nvComplete agrees) := by
  unfold State.nvComplete
  split
  · exact .refl s
  · next j _ =>
    split
    · exact ⟨rfl, rfl, .refl _ _, fun h => h.next (Nv.keep_waiting _ j)⟩
    · have spoilt : BooksStand s ((s.mapNv fun v => (v.spoil s.freeCount j).next).setFreeCount (s.freeCount + 1)) :=
        ⟨rfl, rfl, .refl _ _, fun h => h.next (Nv.spoil_waiting _ _ j)⟩
      have noted (u : State) : BooksStand u (u.recordFault (nvKey j.region)) := (u.noteFault_onlyReports _ _).books
      exact (spoilt.trans (noted _)).trans (State.post_only _ _).books

theorem State.setPls_books {x : Pls} {s : State} (h : Pls.Spends s.pst.active.pulseWeight s.pls x) :
    BooksStand s (s.setPls x) := ⟨rfl, rfl, h, id⟩

theorem State.tick_books (s : State) : BooksStand s s.tick := by
  refine State.whenRunning_books ?_
  have claim : BooksStand s (s.setTimebase (s.timebase + 1)).tickClaim := by
    have told : BooksStand s (s.setTimebase (s.timebase + 1)) := .of_blocks rfl rfl rfl rfl
    unfold State.tickClaim
    split
    · split
      · exact told.trans (State.expireClaim_books _)
      · exact told
    · exact told
  have port (p : Port) (u : State) : BooksStand u (u.tickPort p) := by
    unfold State.tickPort
    simp only
    split
    · exact .refl u
    · split
      · exact .refl u
      · exact .of_blocks rfl rfl rfl rfl
      · split
        · exact u.byteTimeout_books p
        · exact .of_blocks rfl rfl rfl rfl
  have pulse (u : State) : BooksStand u ((u.setSfe u.sfe.tick).setPls (u.pls.tick u.active)) :=
    ⟨rfl, rfl, Pls.tick_spends _ _, id⟩
  exact (((claim.trans (pulse _)).trans (port .p1 _)).trans (port .p2 _)).trans (port .p3 _)

/-- NRST's assertion and a loss of power leave the totals and cut the writes (R116, R147). -/
theorem State.releaseLines_books (s : State) : BooksStand s s.releaseLines :=
  ⟨rfl, rfl, ⟨rfl, le_rfl, rfl⟩, fun _ => s.pst.nv.cut_agrees⟩

theorem State.holdReset_books (s : State) : BooksStand s s.holdReset :=
  s.releaseLines_books.trans (.of_blocks rfl rfl rfl rfl)

theorem State.losePower_books (s : State) : BooksStand s s.losePower :=
  s.releaseLines_books.trans (.of_blocks rfl rfl rfl rfl)

/-! ### The commands -/

/-- The commands that may publish a record or close a window, and the two starts. -/
def Instr.movesBooks : Instr → Bool
  | .powerOnReset _ | .nrstReleased _ | .ringReply _ _ _ | .replyDeadline | .correlationCompletion => true
  | _ => false

theorem exec_books (c : Instr) (s t : State) (h : exec c s = .next t) (beside : Instr.movesBooks c = false) :
    BooksStand s t := by
  cases c with
  | powerOnReset straps | nrstReleased straps | ringReply r code parity | replyDeadline | correlationCompletion =>
    cases beside
  | nrstAsserted =>
    cases h
    split
    · exact .refl s
    · exact s.holdReset_books
    · exact s.holdReset_books
  | powerLoss => cases h; exact s.losePower_books
  | frameStrobe => cases h; exact State.whenRunning_books s.strobeFrame_books
  | pulseWidthElapsed => cases h; exact State.whenRunning_books (State.setPls_books (Pls.endPulse_spends _ _))
  | gapElapsed => cases h; exact State.whenRunning_books (State.setPls_books (Pls.endGap_spends _ _))
  | crystalFailure => cases h; exact State.whenRunning_books s.crystalFails_books
  | stableTimeReached | idleGapElapsed p | responseEnd p =>
    cases h
    exact State.whenRunning_books (.of_blocks rfl rfl rfl rfl)
  | claimExpiry => cases h; exact State.whenRunning_books (s.reachExpiry_books.trans (State.expireClaim_books _))
  | nvWriteCompletion agrees => cases h; exact State.whenRunning_books (s.nvComplete_books agrees)
  | captureCopyCompletion => cases h; exact State.whenRunning_books s.copyEnds_books
  | byteReceived p x framingError => cases h; exact State.whenRunning_books (s.receive_books p x framingError)
  | interByteTimeout p => cases h; exact State.whenRunning_books (s.byteTimeout_books p)
  | responseStart p => cases h; exact State.whenRunning_books (s.startResponse_books p)
  | unknownCommand p code =>
    cases h
    split
    · exact .refl s
    · exact State.request_books p code (.refl s)
  | identify p => cases h; exact State.dispatched_books p _ 0x01 [] rfl
  | readFlow p => cases h; exact State.dispatched_books p _ 0x10 [] rfl
  | readPairs p => cases h; exact State.dispatched_books p _ 0x11 [] rfl
  | readSlugs p start => cases h; exact State.dispatched_books p _ 0x12 [start] rfl
  | readDeparted p => cases h; exact State.dispatched_books p _ 0x13 [] rfl
  | readHealth p => cases h; exact State.dispatched_books p _ 0x14 [] rfl
  | readTotals p => cases h; exact State.dispatched_books p _ 0x15 [] rfl
  | readStats p => cases h; exact State.dispatched_books p _ 0x16 [] rfl
  | readFaults p => cases h; exact State.dispatched_books p _ 0x17 [] rfl
  | takeEvents p remove => cases h; exact State.request_books p _ (.of_blocks rfl rfl rfl rfl)
  | setAttention p enable threshold => cases h; exact State.request_books p _ (s.answerAttention_books _ _ _)
  | openEdit p => cases h; exact State.dispatched_books p _ 0x30 [] rfl
  | writeField p field value => cases h; exact State.request_books p _ (s.answerWrite_books _ _ _)
  | readField p field slot => cases h; exact State.dispatched_books p _ 0x32 [field, slot] rfl
  | commitEdit p => cases h; exact State.dispatched_books p _ 0x33 [] rfl
  | dropEdit p => cases h; exact State.dispatched_books p _ 0x34 [] rfl
  | clearTotals p => cases h; exact State.dispatched_books p _ 0x35 [] rfl
  | guardRelease p => cases h; exact State.dispatched_books p _ 0x40 [] rfl
  | flushBegin p => cases h; exact State.dispatched_books p _ 0x41 [] rfl
  | flushEnd p => cases h; exact State.dispatched_books p _ 0x42 [] rfl
  | restart p => cases h; exact State.dispatched_books p _ 0x43 [] rfl
  | armCapture p content which trigger => cases h; exact State.dispatched_books p _ 0x50 [content, which, trigger] rfl
  | readCapture p offset =>
    cases h
    refine State.request_books p _ ?_
    rw [State.answerReadCapture_state]
    exact .refl s
  | releaseCapture p => cases h; exact State.dispatched_books p _ 0x52 [] rfl
  | clearFaults p => cases h; exact State.dispatched_books p _ 0x60 [] rfl
  | clearStats p => cases h; exact State.dispatched_books p _ 0x61 [] rfl

end Sys2Proof.Machine
end

section
/-!
PROOFS. TotalsAgreeKept and StoreAgreesKept: the totals, the pulse credit and the queue of writes through a publication, a
boundary and the starts, and so through every step (R113 to R124, R129 to R148).
-/

namespace Sys2Proof.Machine

open Sys2Proof.Claim

/-! ### What is kept -/

/-- From `s` to `t` the totals and the credit stay in their ranges, and the queue of writes in order. -/
structure KeepsBooks (s t : State) : Prop where
  totals : TotalsAgree s → TotalsAgree t
  writes : s.pst.nv.Agrees → t.pst.nv.Agrees

theorem KeepsBooks.refl (s : State) : KeepsBooks s s := ⟨id, id⟩

theorem KeepsBooks.trans {s t u : State} (h : KeepsBooks s t) (g : KeepsBooks t u) : KeepsBooks s u :=
  ⟨g.totals ∘ h.totals, g.writes ∘ h.writes⟩

theorem BooksStand.keeps {s t : State} (h : BooksStand s t) : KeepsBooks s t := by
  refine ⟨fun totals => ?_, h.writes⟩
  obtain ⟨⟨rate, volume, solids, volumeResidue, solidsResidue, checkpoint⟩, credit⟩ := (totalsAgree_iff s).1 totals
  refine (totalsAgree_iff t).2 ⟨?_, ?_⟩ <;> rw [h.active]
  · rw [h.tot]
    exact ⟨rate, volume, solids, volumeResidue, solidsResidue, checkpoint⟩
  · exact h.spends.credit.trans credit

/-- Work that changes the totals, under the same profile and the same pulse unit. -/
theorem KeepsBooks.of_tot {s t : State} (active : t.pst.active = s.pst.active) (pls : t.pls = s.pls)
    (tot : s.tot.Agrees s.pst.active.fs → t.tot.Agrees s.pst.active.fs)
    (writes : s.pst.nv.Agrees → t.pst.nv.Agrees) : KeepsBooks s t := by
  refine ⟨fun totals => ?_, writes⟩
  obtain ⟨agrees, credit⟩ := (totalsAgree_iff s).1 totals
  refine (totalsAgree_iff t).2 ⟨?_, ?_⟩ <;> rw [active]
  · exact tot agrees
  · rwa [pls]

/-! ### A publication and a completion (R44, R73, R112 to R121) -/

theorem State.countPublication_keeps (s : State) : KeepsBooks s s.countPublication := by
  rw [State.countPublication_eq]
  have queued : s.pst.nv.Agrees → (s.pst.published s.tot).nv.Agrees := fun h => by
    unfold Pst.published
    split
    · exact h.queue (sealed_snapshot _)
    · exact h
  have active : (s.pst.published s.tot).active = s.pst.active := by
    unfold Pst.published
    split <;> rfl
  exact .of_tot active rfl Tot.Agrees.published queued

theorem State.creditPulse_keeps (k : Nat) (s : State) : KeepsBooks s (s.creditPulse k) := by
  have credited : KeepsBooks s (s.setPls (s.creditPulse k).pls) := by
    refine ⟨fun totals => ?_, id⟩
    obtain ⟨agrees, credit⟩ := (totalsAgree_iff s).1 totals
    exact (totalsAgree_iff _).2 ⟨agrees, s.creditPulse_credit k credit⟩
  exact credited.trans (s.creditPulse_blocks k).books.keeps

theorem State.integrateRecord_keeps (s : State) : KeepsBooks s s.integrateRecord := by
  have integrated : KeepsBooks s (s.setTot (s.tot.afterRecord s.active s.fsv.area s.fsv.record)) :=
    .of_tot rfl rfl (fun h => h.afterRecord _ _ _) id
  exact (integrated.trans (State.countPublication_keeps _)).trans (State.creditPulse_keeps _ _)

theorem State.publish_keepsBooks (w : Index) (rs : PerSlot (Option PairResult)) (s : State) :
    KeepsBooks s (s.publish w rs) := by
  rw [State.publish_steps]
  refine KeepsBooks.trans ?_ (State.integrateRecord_keeps _)
  have solved : BooksStand s (s.solve w rs) := .of_blocks rfl rfl rfl rfl
  have announced := solved.trans (s.announce_only (s.solve w rs)).books
  generalize s.announce (s.solve w rs) = u at announced ⊢
  have stepped : BooksStand u ((u.setDgd (u.dgd.step u.active u.fsv.record)).setFsv
      (u.fsv.writeGuard (u.dgd.step u.active u.fsv.record).state)) := .of_blocks rfl rfl rfl rfl
  exact (announced.trans (stepped.trans u.guardStep_blocks.books)).keeps

theorem State.complete_keepsBooks (c : Option InFlight) (w : Index) (rs : PerSlot (Option PairResult)) (s : State) :
    KeepsBooks s (s.complete c w rs) := by
  rw [State.complete_eq]
  have completed : BooksStand s (s.completed c w rs) := by
    rw [State.completed_eq]
    exact .of_blocks rfl rfl rfl rfl
  exact completed.keeps.trans (State.publish_keepsBooks w rs _)

/-! ### A boundary (R8, R120, R142) -/

theorem State.applyClear_keepsBooks (s : State) : KeepsBooks s s.applyClear := by
  obtain ⟨q, blocks⟩ := s.applyClear_blocks
  rw [blocks]
  exact .of_tot rfl rfl Tot.Agrees.cleared fun h => h.queue (sealed_snapshot _)

theorem State.applyClearIfPending_keepsBooks (s : State) : KeepsBooks s s.applyClearIfPending := by
  unfold State.applyClearIfPending
  split
  · exact s.applyClear_keepsBooks
  · exact .refl s

/-- A commit takes the totals to the new rate, and starts the pulse unit unless its weight and basis stand (R114, R124). -/
theorem State.commitBlocks_keepsBooks (s : State) (h : 0 < s.pst.staging.fs) : KeepsBooks s s.commitBlocks := by
  refine ⟨fun totals => ?_, fun writes => writes.queue (sealed_image _)⟩
  obtain ⟨agrees, credit⟩ := (totalsAgree_iff s).1 totals
  refine (totalsAgree_iff _).2 ⟨?_, ?_⟩
  · show Tot.Agrees s.pst.staging.fs (if s.pst.active.fs = s.pst.staging.fs then s.tot else s.tot.rescale s.pst.staging.fs)
    split
    · next same => rwa [← same]
    · exact agrees.rescale h
  · show Pls.credit (if s.pst.active.pulseBasis = s.pst.staging.pulseBasis
      ∧ s.pst.active.pulseWeight = s.pst.staging.pulseWeight then s.pls else s.pls.unitStart) ≤ creditCap s.pst.staging
    split
    · next same => rwa [creditCap, ← same.2]
    · exact Nat.zero_le _

theorem State.applyPending_keepsBooks (n : Nat) (s : State) (wf : s.pst.Wf) : KeepsBooks s (s.applyPending n) := by
  unfold State.applyPending
  split
  · next pending =>
    obtain ⟨_, _, _, accepted⟩ := wf
    have rate := s.pst.staging.accepted_fs (accepted pending)
    have commit (u : State) (staged : u.pst.staging = s.pst.staging) : KeepsBooks u u.applyCommit :=
      (u.commitBlocks_keepsBooks (staged ▸ rate)).trans u.applyCommit_only.books.keeps
    split
    · obtain ⟨_, blocks⟩ := s.applyClear_blocks
      exact s.applyClear_keepsBooks.trans (commit _ (by rw [blocks]))
    · exact commit s rfl
  · exact .refl s

theorem State.boundaryCore_keepsBooks (s : State) (wf : s.pst.Wf) : KeepsBooks s s.boundaryCore := by
  obtain ⟨store, _⟩ := s.closedWindow_store
  have closed : BooksStand s s.closedWindow :=
    BooksStand.trans (t := s.windowClosed) (.of_blocks rfl rfl rfl rfl) s.closedWindow_only.books
  have moved (u : State) : BooksStand u u.moveCorrelator := by
    obtain ⟨_, _, _, blocks⟩ := u.moveCorrelator_moved.blocks
    rw [blocks]
    exact .of_blocks rfl rfl rfl rfl
  exact (closed.keeps.trans (State.applyPending_keepsBooks _ _ (store ▸ wf))).trans (moved _).keeps

theorem State.takeNotes_keepsBooks (n : Nat) (l : List Note) (s : State) : KeepsBooks s (s.takeNotes n l) :=
  (s.takeNotes_onlyReports n l).books.keeps

theorem State.trackerWork_keepsBooks (old : Profile) (geometry : Bool) (s : State) :
    KeepsBooks s (s.trackerWork old geometry) := (s.trackerWork_onlyTracks old geometry).books.keeps

theorem State.earlyNoted_keepsBooks (n : Nat) (old : Profile) (notes : List Note) (s : State) :
    KeepsBooks s (s.earlyNoted n old notes) := by
  refine KeepsBooks.trans ?_ (State.takeNotes_keepsBooks _ _ _)
  have tracked := s.trackerWork_keepsBooks old false
  unfold State.beforePublication
  simp only
  split <;> split
  · exact tracked.trans (State.applyClearIfPending_keepsBooks _)
  · exact s.applyClearIfPending_keepsBooks
  · exact tracked
  · exact .refl s

theorem State.publicationOn_keepsBooks (n : Nat) (old : Profile) (s : State) : KeepsBooks s (s.publicationOn n old) := by
  have published : KeepsBooks s s.completeWithoutPairs := s.complete_keepsBooks _ _ _
  unfold State.publicationOn
  refine KeepsBooks.trans ?_ (State.applyClearIfPending_keepsBooks _)
  split
  · exact published
  · exact published.trans (State.trackerWork_keepsBooks _ _ _)

theorem State.boundary_keepsBooks (s : State) (wf : s.pst.Wf) : KeepsBooks s s.boundary := by
  refine (s.boundaryCore_keepsBooks wf).trans ?_
  rcases s.boundary_cases with ⟨_, h⟩ | ⟨_, h⟩ <;> rw [h]
  · exact ((State.trackerWork_keepsBooks _ _ _).trans (State.applyClearIfPending_keepsBooks _)).trans
      (State.takeNotes_keepsBooks _ _ _)
  · rw [State.finishWithCompletion_eq]
    exact ((State.earlyNoted_keepsBooks _ _ _ _).trans (State.publicationOn_keepsBooks _ _ _)).trans
      (State.takeNotes_keepsBooks _ _ _)

theorem State.closeFrame_keepsBooks (fr : Frame) (s : State) (wf : s.pst.Wf) : KeepsBooks s (s.closeFrame fr) := by
  have framed : BooksStand s (s.framed fr) := by
    rw [State.framed_eq]
    exact .of_blocks rfl rfl rfl rfl
  show KeepsBooks s (if (s.framed fr).sfe.windowPos = (s.framed fr).active.n then (s.framed fr).boundary
    else s.framed fr)
  split
  · exact framed.keeps.trans (State.boundary_keepsBooks _ (by rwa [State.framed_pst]))
  · exact framed.keeps

theorem State.takeReply_keepsBooks (r : Ring) (x : Reply) (s : State) (wf : s.pst.Wf) :
    KeepsBooks s (s.takeReply r x) := by
  unfold State.takeReply
  split
  · exact .refl s
  · split
    · simp only
      split
      · exact s.closeFrame_keepsBooks _ wf
      · exact BooksStand.keeps (.of_blocks rfl rfl rfl rfl)
    · exact .refl s

theorem State.takeDeadline_keepsBooks (s : State) (wf : s.pst.Wf) : KeepsBooks s s.takeDeadline := by
  unfold State.takeDeadline
  split
  · exact .refl s
  · exact s.closeFrame_keepsBooks _ wf

theorem State.completeCorrelation_keepsBooks (s : State) : KeepsBooks s s.completeCorrelation := by
  unfold State.completeCorrelation
  split
  · exact .refl s
  · exact s.complete_keepsBooks _ _ _

/-! ### The starts (R117, R118, R127, R147) -/

/-- The totals, the store and the pulse unit once the blocks have started: the totals stand, nothing is written, and the
pulse unit starts under the loaded profile. -/
theorem State.startBlocks_books (straps : PerPort StrapPair) (s : State) :
    (s.startBlocks straps).tot = s.tot ∧ (s.startBlocks straps).pst = Pst.start s.pst.nv.cut
    ∧ (s.startBlocks straps).pls = Pls.start (s.startBlocks straps).pst.active.pulseWidth := by
  unfold State.startBlocks
  simp only
  split <;> simp [State.recordFault, Pst.start]

theorem State.startBlocks_fs (straps : PerPort StrapPair) (s : State) : 0 < (s.startBlocks straps).pst.active.fs :=
  Profile.accepted_fs _ (s.startBlocks_wf straps).1

theorem State.startBlocks_credit (straps : PerPort StrapPair) (s : State) : (s.startBlocks straps).pls.credit = 0 := by
  obtain ⟨_, _, pulse⟩ := s.startBlocks_books straps
  rw [pulse]
  rfl

theorem State.startBlocks_writes (straps : PerPort StrapPair) (s : State) : (s.startBlocks straps).pst.nv.Agrees := by
  obtain ⟨_, store, _⟩ := s.startBlocks_books straps
  rw [store]
  exact s.pst.nv.cut_agrees

theorem State.powerOn_books (straps : PerPort StrapPair) (s : State) :
    (s.powerOn straps).tot
      = (s.startBlocks straps).pst.nv.restoreTotals (s.startBlocks straps).pst.active.fs
    ∧ (s.powerOn straps).pls = (s.startBlocks straps).pls := by
  unfold State.powerOn
  simp only
  split <;> simp [State.active]

theorem State.powerOn_keepsBooks (straps : PerPort StrapPair) (s : State) : KeepsBooks s (s.powerOn straps) := by
  obtain ⟨totals, pulse⟩ := s.powerOn_books straps
  refine ⟨fun _ => (totalsAgree_iff _).2 ⟨?_, ?_⟩, fun _ => ?_⟩
  · rw [totals, State.powerOn_pst]
    exact Nv.restoreTotals_agrees (s.startBlocks_fs straps) _
  · rw [pulse, State.startBlocks_credit]
    exact Nat.zero_le _
  · rw [State.powerOn_pst]
    exact s.startBlocks_writes straps

theorem State.endReset_keepsBooks (straps : PerPort StrapPair) (s : State) : KeepsBooks s (s.endReset straps) := by
  obtain ⟨totals, _, _⟩ := s.startBlocks_books straps
  refine ⟨fun agree => (totalsAgree_iff _).2 ⟨?_, ?_⟩, fun _ => (s.startBlocks_writes straps).queue (sealed_snapshot _)⟩
  · obtain ⟨rate, volume, solids, volumeResidue, solidsResidue, _⟩ :=
      ((totalsAgree_iff s).1 agree).1.rescale (s.startBlocks_fs straps)
    show Tot.Agrees (s.startBlocks straps).pst.active.fs { (s.startBlocks straps).tot.rescale
      (s.startBlocks straps).pst.active.fs with clearPending := false, checkpoint := 0 }
    rw [totals]
    exact ⟨rate, volume, solids, volumeResidue, solidsResidue, Nat.zero_lt_succ _⟩
  · show (s.startBlocks straps).pls.credit ≤ _
    rw [State.startBlocks_credit]
    exact Nat.zero_le _

/-! ### Every step -/

theorem exec_keepsBooks (c : Instr) (s t : State) (h : exec c s = .next t) (wf : s.pst.Wf) : KeepsBooks s t := by
  cases moves : Instr.movesBooks c with
  | false => exact (exec_books c s t h moves).keeps
  | true =>
    cases c with
    | powerOnReset straps => cases h; exact s.powerOn_keepsBooks straps
    | nrstReleased straps =>
      cases h
      split
      · exact s.endReset_keepsBooks straps
      · exact .refl s
      · exact .refl s
    | ringReply r code parity => cases h; exact State.whenRunning_of (.refl s) (s.takeReply_keepsBooks _ _ wf)
    | replyDeadline => cases h; exact State.whenRunning_of (.refl s) (s.takeDeadline_keepsBooks wf)
    | correlationCompletion => cases h; exact State.whenRunning_of (.refl s) s.completeCorrelation_keepsBooks
    | _ => cases moves

theorem step_keepsBooks (s t : State) (h : step s = .next t) (wf : s.pst.Wf) : KeepsBooks s t := by
  unfold step at h
  split at h
  · cases h
    exact s.tick_books.keeps
  · next c rest _ =>
    have taken : BooksStand s (s.setPending rest) := .of_blocks rfl rfl rfl rfl
    exact taken.keeps.trans (exec_keepsBooks c _ t h wf)

/-- Settles O39: most steps leave the totals and only spend credit, and a publication, a clear, a commit and the starts keep
their ranges. -/
theorem totalsAgreeKept : Obligations.TotalsAgreeKept := by
  unfold Obligations.TotalsAgreeKept
  rintro s t ⟨wf, totals⟩ h
  exact ⟨(step_moves s t h).keepsRecord.wf wf, (step_keepsBooks s t h wf).totals totals⟩

/-- Settles O50: every step keeps the store well-formed, and every write that it queues carries its check. -/
theorem storeAgreesKept : Obligations.StoreAgreesKept := by
  unfold Obligations.StoreAgreesKept
  intro s t store h
  obtain ⟨wf, writes⟩ := (storeAgrees_iff s).1 store
  exact (storeAgrees_iff t).2 ⟨(step_moves s t h).keepsRecord.wf wf, (step_keepsBooks s t h wf).writes writes⟩

end Sys2Proof.Machine
end

section
/-!
PROOFS. The pulse output and READ_TOTALS (R122, R123, R126): the ends of a pulse and of a gap, and the 58 bytes of the answer.
-/

namespace Sys2Proof.Machine

open Sys2Proof.Claim

/-! ### The generator (R122, R123) -/

theorem Pls.endPulse_high (x : Pls) (h : x.gen = .high) :
    x.endPulse = { x with pulse := false, gen := .gap, elapsed := 0 } := if_pos h

theorem Pls.endPulse_other (x : Pls) (h : x.gen ≠ .high) : x.endPulse = x := if_neg h

theorem Pls.endGap_covered (p : Profile) (x : Pls) (gap : x.gen = .gap) (covered : p.pulseWeight ≤ x.credit) :
    x.endGap p = ⟨x.credit - p.pulseWeight, x.emitted + 1, x.lost, .high, p.pulseWidth, 0, true⟩ :=
  (if_pos gap).trans (if_pos covered)

theorem Pls.endGap_short (p : Profile) (x : Pls) (gap : x.gen = .gap) (short : x.credit < p.pulseWeight) :
    x.endGap p = { x with pulse := false, gen := .idle, elapsed := 0 } :=
  (if_pos gap).trans (if_neg (Nat.not_le.2 short))

theorem Pls.endGap_other (p : Profile) (x : Pls) (h : x.gen ≠ .gap) : x.endGap p = x := if_neg h

theorem exec_pulseWidthElapsed (s : State) (h : s.power = .running) :
    exec .pulseWidthElapsed s = .next (s.setPls s.pls.endPulse) :=
  congrArg Host.Outcome.next (State.whenRunning_running _ s h)

theorem exec_gapElapsed (s : State) (h : s.power = .running) :
    exec .gapElapsed s = .next (s.setPls (s.pls.endGap s.active)) :=
  congrArg Host.Outcome.next (State.whenRunning_running _ s h)

/-- Settles O42, by the state of the generator and, at the end of a gap, by whether the credit covers the weight. -/
theorem pulseEvents : Obligations.PulseEvents := by
  unfold Obligations.PulseEvents
  intro s running
  rw [exec_pulseWidthElapsed s running, exec_gapElapsed s running]
  refine ⟨fun high => ?_, fun other => ?_, fun gap covered => ?_, fun gap short => ?_, fun other => ?_⟩
  · rw [s.pls.endPulse_high high]
    rfl
  · rw [s.pls.endPulse_other other]
    rfl
  · rw [s.pls.endGap_covered s.active gap covered]
    rfl
  · rw [s.pls.endGap_short s.active gap short]
    rfl
  · rw [s.pls.endGap_other s.active other]
    rfl

/-! ### READ_TOTALS (R126) -/

/-- The items in the order of their offsets (R126). -/
theorem totalsPayload_eq (s : State) :
    totalsPayload s = bytesBE 6 s.tot.volume ++ (bytesBE 6 s.tot.solids ++ (bytesBE 4 s.tot.volumeResidue
      ++ (bytesBE 8 s.tot.solidsResidue ++ (bytesBE 2 s.tot.rate ++ (bytesBE 1 (if s.tot.clearPending then 1 else 0)
      ++ (bytesBE 1 s.tot.checkpoint ++ (bytesBE 1 s.active.pulseBasis.code ++ (bytesBE 4 s.active.pulseWeight
      ++ (bytesBE 2 s.active.pulseWidth ++ (bytesBE 4 s.pls.credit ++ (bytesBE 8 s.pls.emitted
      ++ (bytesBE 8 s.pls.lost ++ (bytesBE 1 s.pls.gen.code ++ (bytesBE 2 s.pls.width ++ [])))))))))))))) := by
  simp only [totalsPayload, flag, u8, u16, u32, u48, u64, List.append_assoc, List.append_nil]

theorem totalsPayload_length (s : State) : (totalsPayload s).length = 58 := by
  simp [totalsPayload_eq]

theorem exec_readTotals (p : Port) (s : State) (h : Free p s) :
    exec (.readTotals p) s = .next (s.answer p 0x15 (State.report totalsPayload)) := by
  obtain ⟨running, free⟩ := h
  show Host.Outcome.next (s.request p 0x15 (State.report totalsPayload)) = _
  rw [State.request_free _ _ _ _ running free]

/-- Settles O41: each item stands behind the items before it. -/
theorem readTotals : Obligations.ReadTotals := by
  unfold Obligations.ReadTotals
  intro p s free
  refine ⟨_, totalsPayload s, exec_readTotals p s free, State.answer_onlyPorts _ _ _ s rfl,
    State.answer_answered _ _ _ s rfl, totalsPayload_length s, ?_⟩
  rw [totalsPayload_eq]
  refine ⟨?_, ?_, ?_, ?_, ?_, at_congr (x := (if s.tot.clearPending then 1 else 0 : Nat)) ?_ ?clear, ?_,
    at_congr (x := (s.active.pulseBasis.code : Nat)) ?_ ?basis, ?_, ?_, ?_, ?_, ?_,
    at_congr (x := (s.pls.gen.code : Nat)) ?_ ?generator, ?_⟩
  case clear => cases s.tot.clearPending <;> rfl
  case basis =>
    rw [State.active]
    cases s.pst.active.pulseBasis <;> rfl
  case generator => cases s.pls.gen <;> rfl
  all_goals
    repeat refine at_behind _ _ (by decide) ?_
    exact at_bytesBE _ _ _

end Sys2Proof.Machine
end

section
/-!
PROOFS. What a completion adds to the totals and to the pulse credit (R112, R113, R121): the record's volume and mass in the
totals and their residues, and the rise of the chosen total in the credit, in the pulses given and in the lost credit.
-/

namespace Sys2Proof.Machine

open Sys2Proof.Claim

/-! ### The totals (R112, R113) -/

/-- Only the status decides whether a record is integrated (R112). -/
theorem isIntegrated_iff (st : VelStatus) (h : st ≠ .filling) : isIntegrated st = true ↔ st ≠ .lost := by
  cases st <;> simp_all [isIntegrated]

/-- A total and its residue after a gain: what the divisor does not take stays in the residue, and a total that would pass its
range stays at the top of it (R113). -/
theorem carry_conserves (d total residue gain : Nat) :
    (total + (residue + gain) / d < 2 ^ 48 →
      d * min Config.totalMax (total + (residue + gain) / d) + (residue + gain) % d = d * total + residue + gain)
    ∧ (2 ^ 48 ≤ total + (residue + gain) / d →
      min Config.totalMax (total + (residue + gain) / d) = 2 ^ 48 - 1) := by
  have top : Config.totalMax = 2 ^ 48 - 1 := rfl
  rw [top]
  refine ⟨fun below => ?_, fun above => min_eq_left (by omega)⟩
  have split := Nat.div_add_mod (residue + gain) d
  rw [min_eq_right (by omega), Nat.mul_add]
  omega

theorem Tot.afterRecord_integrated (p : Profile) (area : Nat) (r : FlowRecord) (t : Tot)
    (h : isIntegrated r.status = true) :
    t.afterRecord p area r = t.integrate (volumeNumerator p area r) (solidsNumerator p area r) := if_pos h

theorem Tot.afterRecord_lost (p : Profile) (area : Nat) (r : FlowRecord) (t : Tot) (h : r.status = .lost) :
    t.afterRecord p area r = t := if_neg (by simp [h, isIntegrated])

theorem Tot.afterRecord_stands (p : Profile) (area : Nat) (r : FlowRecord) (t : Tot) :
    (t.afterRecord p area r).rate = t.rate ∧ (t.afterRecord p area r).clearPending = t.clearPending := by
  unfold Tot.afterRecord Tot.integrate
  split <;> exact ⟨rfl, rfl⟩

/-- Settles O38: an integrated record's volume and mass go into the totals and their residues, each by its own divisor. -/
theorem totalsIntegrate : Obligations.TotalsIntegrate := by
  unfold Obligations.TotalsIntegrate
  intro f s inFlight
  refine ⟨_, exec_correlationCompletion f s inFlight, ?_⟩
  generalize completed : s.completed (some f) f.window (s.sfe.resultSet f) = c
  have totals : c.tot = s.tot := by rw [← completed, State.completed_tot]
  have profile : c.active = s.pst.active := by rw [State.active, ← completed, State.completed_pst]
  have area : c.fsv.area = s.fsv.area := by rw [← completed, State.completed_fsv]
  have record : (c.publish f.window (s.sfe.resultSet f)).fsv.record = c.publishedRecord f.window (s.sfe.resultSet f) :=
    congrArg Fsv.record (State.publish_fsv f.window (s.sfe.resultSet f) c)
  have filled : (c.publishedRecord f.window (s.sfe.resultSet f)).status ≠ .filling :=
    c.computeRecord_status_ne f.window (s.sfe.resultSet f)
  rw [record, State.publish_tot, totals, profile, area]
  generalize c.publishedRecord f.window (s.sfe.resultSet f) = r at filled ⊢
  obtain ⟨rate, pending⟩ := s.tot.afterRecord_stands s.pst.active s.fsv.area r
  refine ⟨rate, pending, fun lost => ?_, fun solved => ?_⟩
  · rw [Tot.afterRecord_lost _ _ _ _ lost]
    exact ⟨rfl, rfl, rfl, rfl⟩
  · rw [Tot.afterRecord_integrated _ _ _ _ ((isIntegrated_iff _ filled).2 solved)]
    obtain ⟨volume, volumeTop⟩ := carry_conserves (volumeDivisor s.tot.rate) s.tot.volume s.tot.volumeResidue
      (volumeNumerator s.pst.active s.fsv.area r)
    obtain ⟨solids, solidsTop⟩ := carry_conserves (solidsDivisor s.tot.rate) s.tot.solids s.tot.solidsResidue
      (solidsNumerator s.pst.active s.fsv.area r)
    exact ⟨rfl, rfl, volume, volumeTop, solids, solidsTop⟩

/-! ### Work beside the pulse unit -/

/-- The fault map stands, and its filling is not posted. -/
structure MapStands (s u : State) : Prop where
  window : u.xcr.windowNumber = s.xcr.windowNumber
  faults : u.efu.faults = s.efu.faults
  full : u.efu.full = s.efu.full
  posts : ∀ p, Pends u p .faultMapFull = Pends s p .faultMapFull

theorem MapStands.trans {s t u : State} (h : MapStands s t) (g : MapStands t u) : MapStands s u :=
  ⟨g.window.trans h.window, g.faults.trans h.faults, g.full.trans h.full, fun p => (g.posts p).trans (h.posts p)⟩

theorem State.setPls_mapStands (x : Pls) (s : State) : MapStands s (s.setPls x) := ⟨rfl, rfl, rfl, fun _ => rfl⟩

theorem State.post_mapStands (k : EventKind) (s : State) (h : k ≠ .faultMapFull) : MapStands s (s.post k) :=
  ⟨by simp, by simp, by simp, fun p => (s.post_within k).same p _ (by simp [h.symm])⟩

/-- A recording after work that leaves the fault map. -/
theorem MapStands.recorded {key : FaultKey} {s u t : State} (map : MapStands s u) (h : Recorded key u t) :
    Recorded key s t := by
  have posts := map.posts
  unfold Pends at posts
  simpa only [Recorded, FullPosted, map.window, map.faults, map.full, posts] using h

/-- The work of a completion before the pulse unit gains: the unit, the profile and the fault map stand, and no overrun is
posted. -/
structure BeforeCredit (s u : State) : Prop where
  pls : u.pls = s.pls
  profile : u.pst.active = s.pst.active
  map : MapStands s u
  overrun : ∀ p, Pends u p .pulseOverrun = Pends s p .pulseOverrun

theorem BeforeCredit.trans {s t u : State} (h : BeforeCredit s t) (g : BeforeCredit t u) : BeforeCredit s u :=
  ⟨g.pls.trans h.pls, g.profile.trans h.profile, h.map.trans g.map, fun p => (g.overrun p).trans (h.overrun p)⟩

/-- The blocks that a completion works on before the pulse unit, and events of other kinds. -/
theorem BeforeCredit.of_posts {kinds : List EventKind} {s u : State} (posts : PostsWithin kinds s u)
    (overrun : .pulseOverrun ∉ kinds) (mapFull : .faultMapFull ∉ kinds) (pls : u.pls = s.pls)
    (profile : u.pst.active = s.pst.active) (window : u.xcr.windowNumber = s.xcr.windowNumber)
    (faults : u.efu.faults = s.efu.faults) (full : u.efu.full = s.efu.full) : BeforeCredit s u :=
  ⟨pls, profile, ⟨window, faults, full, fun p => posts.same p _ mapFull⟩, fun p => posts.same p _ overrun⟩

theorem State.completed_beforeCredit (c : Option InFlight) (w : Index) (rs : PerSlot (Option PairResult)) (s : State) :
    BeforeCredit s (s.completed c w rs) := by
  refine .of_posts (s.completed_within c w rs) (by decide) (by decide) ?_ ?_ ?_ ?_ ?_
  all_goals rw [State.completed_eq]

theorem State.announce_beforeCredit (s u : State) : BeforeCredit u (s.announce u) := by
  have posts := s.announce_within u
  obtain ⟨ports, cap, only⟩ := s.announce_only u
  refine .of_posts posts (by decide) (by decide) ?_ ?_ ?_ ?_ ?_
  all_goals rw [only]

theorem State.guardStep_beforeCredit (s : State) : BeforeCredit s s.guardStep := by
  have posts := s.guardStep_within
  obtain ⟨ports, cap, only⟩ := s.guardStep_blocks
  refine .of_posts posts (by decide) (by decide) ?_ ?_ ?_ ?_ ?_
  all_goals
    rw [only]
    rfl

theorem Pst.published_active (t : Tot) (x : Pst) : (x.published t).active = x.active := by
  unfold Pst.published
  split <;> rfl

/-- The rise of the chosen total is that of the totals after the publication (R121). -/
theorem State.integrateRecord_credits (s : State) :
    ∃ u, BeforeCredit s u
      ∧ s.integrateRecord = u.creditPulse (increment s.active s.tot s.integrateRecord.tot) := by
  have total : s.integrateRecord.tot = (s.tot.afterRecord s.active s.fsv.area s.fsv.record).published := by
    obtain ⟨_, _, blocks⟩ := s.integrateRecord_blocks
    rw [blocks]
  refine ⟨(s.setTot (s.tot.afterRecord s.active s.fsv.area s.fsv.record)).countPublication, ?_, ?_⟩
  · rw [State.countPublication_eq]
    exact .of_posts (kinds := []) (.of_ports rfl) (by decide) (by decide) rfl (Pst.published_active _ _) rfl rfl rfl
  · rw [total]
    rfl

/-- A publication gives the pulse unit the rise of the chosen total, after all its other work (R73, R121). -/
theorem State.publish_credits (w : Index) (rs : PerSlot (Option PairResult)) (s : State) :
    ∃ u, BeforeCredit s u ∧ s.publish w rs = u.creditPulse (increment s.active s.tot (s.publish w rs).tot) := by
  have solved : BeforeCredit s (s.solve w rs) :=
    .of_posts (kinds := []) (.of_ports rfl) (by decide) (by decide) rfl rfl rfl rfl rfl
  have guarded := (solved.trans (s.announce_beforeCredit _)).trans (State.guardStep_beforeCredit _)
  have totals : (s.announce (s.solve w rs)).guardStep.tot = s.tot := by
    obtain ⟨_, _, announce⟩ := s.announce_only (s.solve w rs)
    obtain ⟨_, _, guard⟩ := (s.announce (s.solve w rs)).guardStep_blocks
    rw [guard, announce]
    rfl
  obtain ⟨u, before, credited⟩ := (s.announce (s.solve w rs)).guardStep.integrateRecord_credits
  rw [← State.publish_steps, totals, State.active, guarded.profile] at credited
  exact ⟨u, guarded.trans before, credited⟩

/-! ### The pulse unit's gain (R121) -/

theorem State.creditPulse_over (k : Nat) (s : State) (gains : 0 < k) (excess : creditCap s.active < s.pls.credit + k) :
    s.creditPulse k = ((s.setPls (s.creditPulse k).pls).post .pulseOverrun).recordFault overrunKey := by
  rw [State.creditPulse_pls, if_neg (Nat.pos_iff_ne_zero.1 gains)]
  unfold State.creditPulse
  simp only
  rw [if_neg (Nat.pos_iff_ne_zero.1 gains), if_pos excess]

theorem State.creditPulse_within_cap (k : Nat) (s : State) (h : s.pls.credit + k ≤ creditCap s.active ∨ k = 0) :
    s.creditPulse k = s.setPls (s.creditPulse k).pls := by
  rw [State.creditPulse_pls]
  unfold State.creditPulse
  simp only
  split
  · rfl
  · next gains => rw [if_neg (Nat.not_lt.2 (h.resolve_right gains))]

/-- What exceeds the cap is lost (R121). -/
theorem State.creditPulse_lost (k : Nat) (s : State) :
    (s.creditPulse k).pls.lost = if k = 0 then s.pls.lost else s.pls.lost + (s.pls.credit + k - creditCap s.active) := by
  rw [State.creditPulse_pls]
  split
  · rfl
  · exact (Pls.examineIfIdle_spends _ _).lost

/-- What a gain of the pulse unit does to the account, the lost credit and the reports (R121, R125). -/
theorem BeforeCredit.gains {s u : State} (before : BeforeCredit s u) (k : Nat) :
    (u.creditPulse k).pls.account s.active.pulseWeight = s.pls.account s.active.pulseWeight + k
    ∧ (creditCap s.active < s.pls.credit + k → 0 < k →
      (u.creditPulse k).pls.lost = s.pls.lost + (s.pls.credit + k - creditCap s.active)
      ∧ (∀ p, Pends (u.creditPulse k) p .pulseOverrun = true) ∧ Recorded overrunKey s (u.creditPulse k))
    ∧ (s.pls.credit + k ≤ creditCap s.active ∨ k = 0 → (u.creditPulse k).pls.lost = s.pls.lost
      ∧ (∀ p, Pends (u.creditPulse k) p .pulseOverrun = Pends s p .pulseOverrun)
      ∧ (u.creditPulse k).efu.faults = s.efu.faults ∧ (u.creditPulse k).efu.full = s.efu.full) := by
  have profile : u.active = s.active := before.profile
  have account := u.creditPulse_account k
  have lost := u.creditPulse_lost k
  rw [profile, before.pls] at account lost
  refine ⟨account, fun excess gain => ?_, fun covered => ?_⟩
  · have eq := u.creditPulse_over k gain (by rwa [profile, before.pls])
    rw [if_neg (Nat.pos_iff_ne_zero.1 gain)] at lost
    refine ⟨lost, fun p => ?_, ?_⟩
    · rw [eq]
      exact (State.noteFault_within _ _ _).grows p _ (State.post_pends _ _ _)
    · have posted := (before.map.trans (u.setPls_mapStands (u.creditPulse k).pls)).trans
        (State.post_mapStands .pulseOverrun _ (by decide))
      have entry := posted.recorded (State.recordFault_recorded overrunKey _)
      rwa [← eq] at entry
  · have eq := u.creditPulse_within_cap k (by rwa [profile, before.pls])
    refine ⟨?_, fun p => ?_, ?_, ?_⟩
    · rw [lost]
      split
      · rfl
      · next gains => rw [Nat.sub_eq_zero_of_le (covered.resolve_right gains), Nat.add_zero]
    all_goals rw [eq]
    · exact before.overrun p
    · exact before.map.faults
    · exact before.map.full

/-- A completion gives the pulse unit the rise of the chosen total. -/
theorem State.complete_credits (c : Option InFlight) (w : Index) (rs : PerSlot (Option PairResult)) (s : State) :
    ∃ u, BeforeCredit s u ∧ (s.completed c w rs).publish w rs
      = u.creditPulse (increment s.active s.tot ((s.completed c w rs).publish w rs).tot) := by
  obtain ⟨u, before, credited⟩ := (s.completed c w rs).publish_credits w rs
  rw [State.completed_tot, State.active, State.completed_pst] at credited
  exact ⟨u, (s.completed_beforeCredit c w rs).trans before, credited⟩

/-- The commands that leave the totals, the pulse unit's account and the queue of writes to their own work. -/
theorem Instr.movesBooks_eq_false (c : Instr) (completion : c ≠ .correlationCompletion) (deadline : c ≠ .replyDeadline)
    (reply : ∀ r x b, c ≠ .ringReply r x b) (power : ∀ x, c ≠ .powerOnReset x) (reset : ∀ x, c ≠ .nrstReleased x) :
    Instr.movesBooks c = false := by
  cases c with
  | correlationCompletion => exact absurd rfl completion
  | replyDeadline => exact absurd rfl deadline
  | ringReply r x b => exact absurd rfl (reply r x b)
  | powerOnReset x => exact absurd rfl (power x)
  | nrstReleased x => exact absurd rfl (reset x)
  | _ => rfl

/-- Settles O43: a completion credits the rise of the chosen total after its other work, and every other command that neither
closes a frame nor starts the part only spends credit. -/
theorem pulseCreditConserved : Obligations.PulseCreditConserved := by
  unfold Obligations.PulseCreditConserved
  refine ⟨fun f s inFlight => ⟨_, exec_correlationCompletion f s inFlight, ?_⟩,
    fun c s t completion deadline reply power reset next => ?_⟩
  · obtain ⟨u, before, credited⟩ := s.complete_credits (some f) f.window (s.sfe.resultSet f)
    have gains := before.gains (increment s.active s.tot
      ((s.completed (some f) f.window (s.sfe.resultSet f)).publish f.window (s.sfe.resultSet f)).tot)
    rw [← credited] at gains
    exact gains
  · have quiet := Instr.movesBooks_eq_false c completion deadline reply power reset
    exact (exec_books c s t next quiet).spends.account

end Sys2Proof.Machine
end

section
/-!
PROOFS. CLEAR_TOTALS and the clear at the boundary that follows (R119, R120): the two answers by who holds the claim, and the
boundary without a commit and without a completion of its own.
-/

namespace Sys2Proof.Machine

open Sys2Proof.Claim

/-! ### The request (R119) -/

theorem Pst.holds_iff (x : Pst) (p : Port) : x.holds p = true ↔ ∃ c, x.claim = some c ∧ c.holder = p := by
  simp [Pst.holds, Option.any_eq_true]

theorem State.answerClearTotals_holder (p : Port) (s : State) (h : s.pst.holds p = true) :
    s.answerClearTotals p = ⟨.ok, u48 s.tot.volume ++ u48 s.tot.solids, s.setTot { s.tot with clearPending := true }⟩ :=
  if_neg (by rw [h]; decide)

theorem State.answerClearTotals_other (p : Port) (s : State) (h : s.pst.holds p = false) :
    s.answerClearTotals p = ⟨.notHolder, u48 s.tot.volume ++ u48 s.tot.solids, s⟩ := if_pos h

/-- The totals of either answer at their offsets. -/
theorem totalsItems_at (volume solids : Nat) :
    (u48 volume ++ u48 solids).length = 12 ∧ At (u48 volume ++ u48 solids) 0 6 volume
    ∧ At (u48 volume ++ u48 solids) 6 6 solids := by
  refine ⟨by simp [u48], at_bytesBE 6 _ _, at_behind 6 _ (by decide) ?_⟩
  have last := at_bytesBE 6 solids []
  rwa [List.append_nil] at last

theorem exec_clearTotals (p : Port) (s : State) (h : Free p s) :
    exec (.clearTotals p) s = .next (s.answer p 0x35 (State.answerClearTotals p)) :=
  congrArg Host.Outcome.next (s.request_free p 0x35 (State.answerClearTotals p) h.1 h.2)

theorem State.onlyTot (t : Tot) (s : State) : OnlyChanges [.tot, .mpt] s (s.setTot t) := by
  intro b
  cases b <;> simp [Block.Same]

/-! ### The boundary (R120) -/

/-- A clear that finds one pending empties the totals, tells every port and queues a checkpoint, and another one does nothing,
whatever the tracker and the notes of the boundary do beside it. -/
theorem State.finishBoundary_settled (n : Nat) (old : Profile) (geometry : Bool) (notes : List Note) (s : State) :
    (s.finishBoundary n old geometry notes).tot = s.tot.settled
    ∧ (s.finishBoundary n old geometry notes).pst = s.pst.settled s.tot
    ∧ (s.tot.clearPending = true → ∀ p, Pends (s.finishBoundary n old geometry notes) p .totalsCleared = true) := by
  obtain ⟨_, _, _, tracked⟩ := s.trackerWork_onlyTracks old geometry
  have tot : (s.trackerWork old geometry).tot = s.tot := by rw [tracked]
  have pst : (s.trackerWork old geometry).pst = s.pst := by rw [tracked]
  obtain ⟨settledTot, settledPst⟩ := (s.trackerWork old geometry).applyClearIfPending_settled
  have posts := (s.trackerWork old geometry).applyClearIfPending_pends
  rw [tot] at settledTot settledPst posts
  rw [pst] at settledPst
  unfold State.finishBoundary
  simp only
  generalize (s.trackerWork old geometry).applyClearIfPending = w at *
  have noted := w.takeNotes_within n (w.driftNote :: notes)
  obtain ⟨_, _, only⟩ := w.takeNotes_onlyReports n (w.driftNote :: notes)
  generalize w.takeNotes n (w.driftNote :: notes) = t at *
  refine ⟨?_, ?_, fun clear p => noted.grows p _ (posts clear p)⟩
  · rw [only]
    exact settledTot
  · rw [only]
    exact settledPst

/-- A boundary without a commit and without a completion: the pulse unit stands, and the totals are settled. -/
theorem State.boundary_settled (s : State) (quiet : s.pst.commitPending = false)
    (none : s.boundaryCore.completesWithoutPairs = false) :
    s.boundary.pls = s.pls ∧ s.boundary.tot = s.tot.settled ∧ s.boundary.pst = s.pst.settled s.tot
    ∧ (s.tot.clearPending = true → ∀ p, Pends s.boundary p .totalsCleared = true) := by
  have plain : s.pst.geometryPending = false := by rw [Pst.geometryPending, quiet, Bool.false_and]
  have unclear : s.clearsFirst = false := by rw [State.clearsFirst, quiet, Bool.false_and]
  have same : s.nextProfile = s.pst.active := by rw [State.nextProfile, quiet, if_neg Bool.false_ne_true]
  have pls := s.boundaryCore_start.pls
  rw [same, if_pos ⟨rfl, rfl⟩] at pls
  obtain ⟨tot, pst⟩ := s.boundaryCore_uncleared plain unclear
  rw [storeApplied_of_none s quiet] at pst
  refine ⟨(s.boundary_plain none).pls.trans pls, ?_⟩
  rcases s.boundary_cases with ⟨_, ends⟩ | ⟨completes, _⟩
  · rw [ends, ← tot, ← pst]
    exact State.finishBoundary_settled _ _ _ _ _
  · exact absurd (none.symm.trans completes) (by decide)

theorem Pst.settled_active (t : Tot) (x : Pst) : (x.settled t).active = x.active := by
  unfold Pst.settled
  split <;> rfl

/-- Settles O40: the request by who holds the claim, the boundary by whether a clear is pending. -/
theorem totalsClear : Obligations.TotalsClear := by
  unfold Obligations.TotalsClear
  refine ⟨fun p s free => ⟨fun holder => ?_, fun other => ?_⟩, fun fr s opened quiet =>
    ⟨_, exec_replyDeadline_boundary fr s opened, fun incomplete => ?_⟩⟩
  · have accepted := s.answerClearTotals_holder p ((s.pst.holds_iff p).2 holder)
    have answered := State.answer_answered_of_mpt p 0x35 (State.answerClearTotals p) s (by rw [accepted]; rfl)
    rw [accepted] at answered
    refine ⟨_, _, exec_clearTotals p s free, State.answer_onlyChanges p 0x35 _ s _ ?_ (by simp), answered,
      totalsItems_at _ _, ?_⟩
    · rw [accepted]
      exact s.onlyTot _
    · rw [State.answer_tot, accepted]
      rfl
  · have unheld : s.pst.holds p = false :=
      Bool.eq_false_iff.2 fun holds => (s.pst.holds_iff p).1 holds |>.elim fun c ⟨claim, holder⟩ => other c claim holder
    have refused := s.answerClearTotals_other p unheld
    have answered := State.answer_answered p 0x35 (State.answerClearTotals p) s (by rw [refused])
    rw [refused] at answered
    exact ⟨_, _, exec_clearTotals p s free, State.answer_onlyPorts _ _ _ s (by rw [refused]), answered,
      totalsItems_at _ _⟩
  · obtain ⟨pls, tot, pst, posts⟩ := (s.framed fr).boundary_settled (by rw [State.framed_pst]; exact quiet)
      (State.framed_incomplete_of fr s incomplete)
    have totals : (s.framed fr).tot = s.tot := by rw [State.framed_eq]
    rw [totals, State.framed_pst] at pst
    rw [totals] at tot posts
    refine ⟨?_, ?_, fun none => ⟨?_, ?_⟩, fun clear => ⟨?_, posts clear, ?_⟩⟩
    · rw [pls, State.framed_eq]
    · rw [pst, Pst.settled_active]
    · rw [tot, Tot.settled_same _ none]
    · rw [pst, Pst.settled_same _ _ none]
    · rw [tot, Tot.settled_clear _ clear]
    · rw [pst, Pst.settled_clear _ _ clear]

end Sys2Proof.Machine
end

section
/-!
PROOFS. The totals and the pulse unit after a start (R114, R115, R117, R118, R127): what a POR restores or gives up, what the end
of a reset keeps, and the entry that tells of lost totals.
-/

namespace Sys2Proof.Machine

open Sys2Proof.Claim

/-! ### The residues at another rate (R114) -/

theorem Tot.rescale_eq (fs : Nat) (t : Tot) (h : 0 < fs) : t.rescale fs = { t with
    volumeResidue := t.volumeResidue * fs / t.rate
    solidsResidue := t.solidsResidue * fs / t.rate
    rate := fs } := by
  unfold Tot.rescale
  split
  · next same =>
    subst same
    rw [Nat.mul_div_cancel _ h, Nat.mul_div_cancel _ h]
  · rfl

/-! ### What a POR finds (R117, R118) -/

theorem Nv.restoreTotals_usable (fs : Nat) (v : Nv) (c : Checkpoint) (held : v.totalsRegion = some c)
    (usable : Restorable c) : v.restoreTotals fs
      = Tot.rescale fs ⟨c.volume.toNat, c.volumeResidue, c.solids.toNat, c.solidsResidue, c.rate, 0, false⟩ := by
  rw [Nv.restoreTotals, held]
  exact if_pos (c.usable_iff.2 usable)

/-- Without a usable checkpoint the totals start at 0, and they are lost. -/
theorem Nv.restoreTotals_lost (fs : Nat) (v : Nv) (h : ∀ c, v.totalsRegion = some c → ¬ Restorable c) :
    v.restoreTotals fs = ⟨0, 0, 0, 0, fs, 0, false⟩ ∧ v.totalsLost = true := by
  unfold Nv.restoreTotals Nv.totalsLost
  cases held : v.totalsRegion with
  | none => exact ⟨rfl, rfl⟩
  | some c =>
    have unusable : c.usable = false := Bool.eq_false_iff.2 fun usable => h c held (c.usable_iff.1 usable)
    simp [unusable]

/-- Restored totals hold the active rate, and start without a pending clear. -/
theorem Nv.restoreTotals_starts {fs : Nat} (h : 0 < fs) (v : Nv) :
    (v.restoreTotals fs).rate = fs ∧ (v.restoreTotals fs).checkpoint = 0
    ∧ (v.restoreTotals fs).clearPending = false := by
  unfold Nv.restoreTotals
  split
  · split
    · rw [Tot.rescale_eq _ _ h]
      exact ⟨rfl, rfl, rfl⟩
    · exact ⟨rfl, rfl, rfl⟩
  · exact ⟨rfl, rfl, rfl⟩

/-! ### The fault map of a start (R148, R159) -/

theorem State.recordFault_appends (key : FaultKey) (s : State) (absent : ¬ ∃ e ∈ s.efu.faults, e.key = key)
    (room : s.efu.faults.length < 12) : (s.recordFault key).efu.faults
      = s.efu.faults ++ [⟨key, s.xcr.windowNumber, s.xcr.windowNumber, 1, false⟩] := by
  obtain ⟨_, appended, _⟩ := s.recordFault_recorded key
  exact appended absent room

/-- A start leaves an empty fault map, or the lost profile's entry alone. -/
theorem State.startBlocks_faults (straps : PerPort StrapPair) (s : State) :
    (s.startBlocks straps).xcr.windowNumber = 0
    ∧ ((s.startBlocks straps).efu.faults = []
      ∨ (s.startBlocks straps).efu.faults = [⟨⟨.region .profile, .profileLost⟩, 0, 0, 1, false⟩]) := by
  unfold State.startBlocks
  simp only
  split
  · refine ⟨by simp [State.recordFault, Xcr.reset], .inr ?_⟩
    exact State.recordFault_appends _ _ (by simp [Efu.reset]) (by simp [Efu.reset])
  · exact ⟨rfl, .inl rfl⟩

theorem State.powerOn_lost (straps : PerPort StrapPair) (s : State)
    (h : (s.startBlocks straps).pst.nv.totalsLost = true) :
    ⟨⟨.totalizer, .totalsLost⟩, 0, 0, 1, false⟩ ∈ (s.powerOn straps).efu.faults := by
  obtain ⟨window, faults⟩ := s.startBlocks_faults straps
  unfold State.powerOn
  simp only
  rw [if_pos h]
  generalize s.startBlocks straps = b at *
  have fresh : (¬ ∃ e ∈ b.efu.faults, e.key = ⟨.totalizer, .totalsLost⟩) ∧ b.efu.faults.length < 12 := by
    rcases faults with none | profile
    · simp [none]
    · simp [profile]
  obtain ⟨absent, room⟩ := fresh
  rw [State.recordFault_appends _ (b.setTot (b.pst.nv.restoreTotals b.active.fs)) absent room]
  exact List.mem_append_right _ (List.mem_singleton.2 (by rw [← window]; rfl))

/-! ### The starts -/

theorem State.endReset_books (straps : PerPort StrapPair) (s : State) :
    (s.endReset straps).tot = { s.tot.rescale (s.endReset straps).pst.active.fs with clearPending := false, checkpoint := 0 }
    ∧ (s.endReset straps).pls = Pls.start (s.endReset straps).pst.active.pulseWidth
    ∧ (s.endReset straps).pst.nv.writing = some (.totals (s.endReset straps).tot.snapshot) := by
  obtain ⟨totals, store, pulse⟩ := s.startBlocks_books straps
  have unwritten : (s.startBlocks straps).pst.nv.writing = none := by
    rw [store, Nv.cut_eq]
    rfl
  have ended : s.endReset straps = ((s.startBlocks straps).setTot { s.tot.rescale (s.startBlocks straps).pst.active.fs
      with clearPending := false }).queueCheckpoint := by
    rw [← totals]
    rfl
  rw [ended]
  refine ⟨rfl, pulse, ?_⟩
  show ((s.startBlocks straps).pst.nv.queue _).writing = _
  rw [Nv.queue, unwritten]
  rfl

/-- Settles O10: a POR by whether the totals region holds a usable checkpoint, the end of a reset from the totals kept, and a
RESTART that touches neither block. -/
theorem totalsAndPulseAfterReset : Obligations.TotalsAndPulseAfterReset := by
  unfold Obligations.TotalsAndPulseAfterReset
  intro straps p s
  refine ⟨⟨s.powerOn straps, rfl, ?_⟩, fun held => ⟨s.endReset straps, ?_, ?_⟩, afterRestart_of p s _ ⟨rfl, rfl⟩⟩
  · obtain ⟨totals, pls⟩ := s.powerOn_books straps
    obtain ⟨_, store, pulse⟩ := s.startBlocks_books straps
    have fs := s.startBlocks_fs straps
    have lost := s.powerOn_lost straps
    have region : (s.startBlocks straps).pst.nv.totalsRegion = totalsAfterCut s.pst.nv := by
      rw [store, Pst.start, Nv.cut_eq]
    rw [totals, pls, pulse, State.powerOn_pst, ← region]
    generalize (s.startBlocks straps).pst = x at *
    obtain ⟨rate, checkpoint, clear⟩ := x.nv.restoreTotals_starts fs
    refine ⟨rate, checkpoint, clear, rfl, fun c found usable => ?_, fun unusable => ?_⟩
    · rw [x.nv.restoreTotals_usable _ c found usable, Tot.rescale_eq _ _ fs]
      exact ⟨rfl, rfl, rfl, rfl⟩
    · obtain ⟨zero, gone⟩ := x.nv.restoreTotals_lost x.active.fs unusable
      rw [zero]
      exact ⟨rfl, rfl, rfl, rfl, lost gone⟩
  · show Host.Outcome.next (match s.power with | .held => s.endReset straps | .off | .running => s) = _
    rw [held]
  · obtain ⟨totals, pls, writing⟩ := s.endReset_books straps
    have fs : 0 < (s.endReset straps).pst.active.fs := s.startBlocks_fs straps
    rw [Tot.rescale_eq _ _ fs] at totals
    refine ⟨totals, pls, ?_⟩
    rw [writing, Tot.snapshot_eq]

end Sys2Proof.Machine
end

section
/-!
SUPPORT. A request that a port takes: what its answer changes and where it goes, and the items of a payload that are
yes/no or a single byte (R183, R184, R187).
-/

namespace Sys2Proof.Machine

open Sys2Proof.Claim

/-! ### A request taken -/

/-- A request on a free port is answered there with the status and the payload of its handler, and every other block is
what the handler leaves (R183). -/
theorem State.request_answered {p : Port} {s : State} (free : Free p s) (echo : Byte) {h : State → Answer}
    (blocks : List Block) {st : Status} {l : List Byte} {u : State} (answer : h s = ⟨st, l, u⟩)
    (within : OnlyChanges blocks s u) (ports : u.mpt = s.mpt) :
    ∃ t, (.next (s.request p echo h) : Result) = .next t
      ∧ OnlyChanges (blocks ++ [.mpt]) s t ∧ Answered p echo st l s t ∧ t.pst = u.pst ∧ t.freeCount = u.freeCount := by
  obtain ⟨running, idle⟩ := free
  have answered := State.answer_answered_of_mpt p echo h s (by rw [answer]; exact ports)
  rw [answer] at answered
  refine ⟨s.answer p echo h, congrArg _ (s.request_free p echo h running idle),
    s.answer_onlyChanges p echo h _ ?_ (by simp), answered, ?_, ?_⟩
  · rw [answer]
    exact onlyChanges_mono within (by simp)
  · rw [State.answer_pst, answer]
  · rw [State.answer_freeCount, answer]

theorem onlyChanges_refl (blocks : List Block) (s : State) : OnlyChanges blocks s s := fun b _ => by
  cases b <;> rfl

theorem State.onlyPst (x : Pst) (s : State) : OnlyChanges [.pst] s (s.setPst x) := by
  intro b
  cases b <;> simp [Block.Same]

theorem State.onlyFreeCount (n : Nat) (s : State) : OnlyChanges [.freeCount] s (s.setFreeCount n) := by
  intro b
  cases b <;> simp [Block.Same]

/-! ### Items -/

theorem flag_eq (b : Bool) : flag b = bytesBE 1 (if b then 1 else 0) := rfl

theorem byte_eq (x : Byte) : [x] = bytesBE 1 x.toNat := by simp [bytesBE]

/-- A last item of a payload. -/
theorem at_last (k x : Nat) : At (bytesBE k x) 0 k x := by
  have last := at_bytesBE k x []
  rwa [List.append_nil] at last

theorem at_last_flag (b : Bool) : At (bytesBE 1 (if b then 1 else 0)) 0 1 (ofFlag b) :=
  at_congr (at_last _ _) (ofFlag_eq b)

end Sys2Proof.Machine
end

section
/-!
PROOFS. ClaimOpensDropsExpires: OPEN_EDIT, DROP_EDIT and the expiry by who holds the claim and whether a commit is pending
(R132 to R134, R137, R138).
-/

namespace Sys2Proof.Machine

open Sys2Proof.Claim

/-! ### Who holds the claim (R133) -/

theorem Pst.holds_of {x : Pst} {p : Port} {c : Claim} (claim : x.claim = some c) (holder : c.holder = p) :
    x.holds p = true := (x.holds_iff p).2 ⟨c, claim, holder⟩

theorem Pst.not_holds_of {x : Pst} {p : Port} (h : ∀ c, x.claim = some c → c.holder ≠ p) : x.holds p = false :=
  Bool.eq_false_iff.2 fun holds => ((x.holds_iff p).1 holds).elim fun c ⟨claim, holder⟩ => h c claim holder

/-! ### The time left (R138, assumption 12) -/

theorem State.timeLeft_before (s : State) (c : Claim) (h : s.timebase ≤ c.expiry) :
    s.timeLeft c = c.expiry - s.timebase := if_pos h

theorem State.afterTimeLeft_only (s : State) : OnlyChanges [.freeCount] s s.afterTimeLeft := by
  unfold State.afterTimeLeft
  split
  · exact s.onlyFreeCount _
  · exact onlyChanges_refl _ s

@[simp] theorem State.afterTimeLeft_mpt (s : State) : s.afterTimeLeft.mpt = s.mpt :=
  s.afterTimeLeft_only .mpt (by simp)

@[simp] theorem State.afterTimeLeft_pst (s : State) : s.afterTimeLeft.pst = s.pst :=
  s.afterTimeLeft_only .pst (by simp)

/-- No free value is used up before the expiry. -/
theorem State.afterTimeLeft_before (s : State) (h : ∀ c, s.pst.claim = some c → s.timebase ≤ c.expiry) :
    s.afterTimeLeft = s := by
  refine if_neg fun past => ?_
  obtain ⟨c, claim, expired⟩ := (Option.any_eq_true _ _).1 past
  exact absurd (of_decide_eq_true expired) (Nat.not_lt.2 (h c claim))

/-! ### The answers (R134, R137) -/

/-- The payload of an OPEN_EDIT that is granted. -/
def openPayload (pending : Bool) : List Byte := bytesBE 4 120000 ++ bytesBE 1 (if pending then 1 else 0)

/-- The payload of an OPEN_EDIT that finds the claim held. -/
def heldPayload (holder left : Nat) (pending : Bool) : List Byte :=
  bytesBE 1 holder ++ (bytesBE 4 left ++ bytesBE 1 (if pending then 1 else 0))

theorem openPayload_items (pending : Bool) : (openPayload pending).length = 5 ∧ At (openPayload pending) 0 4 120000
    ∧ At (openPayload pending) 4 1 (ofFlag pending) :=
  ⟨by simp [openPayload], at_bytesBE 4 120000 _, at_behind 4 _ (by decide) (at_last_flag pending)⟩

theorem heldPayload_items (holder left : Nat) (pending : Bool) : (heldPayload holder left pending).length = 6
    ∧ At (heldPayload holder left pending) 0 1 holder ∧ At (heldPayload holder left pending) 1 4 left
    ∧ At (heldPayload holder left pending) 5 1 (ofFlag pending) :=
  ⟨by simp [heldPayload], at_bytesBE 1 holder _, at_behind 1 _ (by decide) (at_bytesBE 4 left _),
    at_behind 1 _ (by decide) (at_behind 4 _ (by decide) (at_last_flag pending))⟩

theorem State.answerOpen_free (p : Port) (s : State) (claim : s.pst.claim = none) :
    s.answerOpen p = ⟨.ok, openPayload s.pst.commitPending,
      s.setPst { s.pst with staging := s.pst.active, claim := some ⟨p, s.timebase + 120000⟩ }⟩ := by
  rw [State.answerOpen, claim]
  rfl

theorem State.answerOpen_holder (p : Port) (s : State) (c : Claim) (claim : s.pst.claim = some c) (holder : c.holder = p) :
    s.answerOpen p = ⟨.ok, openPayload s.pst.commitPending,
      s.setPst { s.pst with claim := some ⟨p, s.timebase + 120000⟩ }⟩ := by
  rw [State.answerOpen, claim]
  exact if_pos holder

theorem State.answerOpen_held (p : Port) (s : State) (c : Claim) (claim : s.pst.claim = some c) (other : c.holder ≠ p) :
    s.answerOpen p = ⟨.held, heldPayload c.holder.num (s.timeLeft c) s.pst.commitPending, s.afterTimeLeft⟩ := by
  simp only [State.answerOpen, claim, if_neg other, heldPayload, u8, u32, flag_eq, List.append_assoc]

theorem State.answerDrop_other (p : Port) (s : State) (h : s.pst.holds p = false) :
    s.answerDrop p = ⟨.notHolder, [], s⟩ := if_pos h

theorem State.answerDrop_holder (p : Port) (s : State) (h : s.pst.holds p = true) :
    s.answerDrop p = if s.pst.commitPending then ⟨.state, [], s⟩ else ⟨.ok, [], s.setPst s.pst.endClaim⟩ :=
  if_neg (by rw [h]; decide)

/-! ### The expiry (R138) -/

theorem exec_claimExpiry (s : State) (running : s.power = .running) :
    exec .claimExpiry s = .next s.reachExpiry.expireClaim := congrArg _ (State.whenRunning_running _ s running)

/-- An expiry brings the timebase up to it, releases the claim and tells every port (R138, assumption 29). -/
theorem State.expiry_due (s : State) (c : Claim) (claim : s.pst.claim = some c) (quiet : s.pst.commitPending = false) :
    s.reachExpiry.expireClaim
      = ((s.setTimebase (max s.timebase c.expiry)).setPst s.pst.endClaim).post .claimExpired := by
  have reached : s.reachExpiry = s.setTimebase (max s.timebase c.expiry) := by
    rw [State.reachExpiry, claim]
    exact if_neg (by rw [quiet]; decide)
  rw [reached]
  exact if_pos ⟨by rw [State.setTimebase_pst, claim]; rfl, quiet⟩

/-- An expiry that finds no claim, or a commit pending, changes nothing (R138, assumption 2). -/
theorem State.expiry_not_due (s : State) (h : s.pst.claim = none ∨ s.pst.commitPending = true) :
    s.reachExpiry.expireClaim = s := by
  have reached : s.reachExpiry = s := by
    unfold State.reachExpiry
    split
    · next c claim => exact if_pos (h.resolve_left (by simp [claim]))
    · rfl
  rw [reached]
  refine if_neg fun ⟨claimed, quiet⟩ => ?_
  rcases h with none | pending
  · simp [none] at claimed
  · simp [pending] at quiet

/-- What an expiry changes: no capture waits for CLAIM_EXPIRED (R171). -/
theorem State.expired_only (n : Nat) (x : Pst) (s : State) :
    OnlyChanges [.timebase, .pst, .efu] s (((s.setTimebase n).setPst x).post .claimExpired) := by
  rw [State.post_quiet _ _ (Cap.waitsFor_none _ _ (by decide))]
  intro b
  cases b <;> simp [Block.Same]

/-- Settles O44: the answers by who holds the claim and whether a commit is pending, and the expiry by the same. -/
theorem claimOpensDropsExpires : Obligations.ClaimOpensDropsExpires := by
  unfold Obligations.ClaimOpensDropsExpires
  refine ⟨fun p s free => ⟨fun claim => ?_, fun c claim holder => ?_, fun c claim other before => ?_,
    fun c claim other past => ?_, fun other => ?_, fun c claim holder pending => ?_, fun c claim holder quiet => ?_⟩,
    fun s running => ⟨fun c claim quiet => ?_, fun h => ?_⟩⟩
  · obtain ⟨t, taken, only, answered, pst, _⟩ :=
      State.request_answered free 0x30 [.pst] (s.answerOpen_free p claim) (s.onlyPst _) rfl
    obtain ⟨length, left, pending⟩ := openPayload_items s.pst.commitPending
    exact ⟨t, _, taken, only, answered, length, left, pending, pst⟩
  · obtain ⟨t, taken, only, answered, pst, _⟩ :=
      State.request_answered free 0x30 [.pst] (s.answerOpen_holder p c claim holder) (s.onlyPst _) rfl
    obtain ⟨length, left, pending⟩ := openPayload_items s.pst.commitPending
    exact ⟨t, _, taken, only, answered, length, left, pending, pst⟩
  · have held := s.answerOpen_held p c claim other
    rw [s.timeLeft_before c before, s.afterTimeLeft_before (by simp [claim, before])] at held
    obtain ⟨t, taken, only, answered, _⟩ := State.request_answered free 0x30 [] held (onlyChanges_refl _ s) rfl
    exact ⟨t, _, taken, only, answered, heldPayload_items _ _ _⟩
  · obtain ⟨t, taken, only, answered, _⟩ := State.request_answered free 0x30 [.freeCount] (s.answerOpen_held p c claim other)
      s.afterTimeLeft_only s.afterTimeLeft_mpt
    obtain ⟨length, holder, _, pending⟩ := heldPayload_items c.holder.num (s.timeLeft c) s.pst.commitPending
    exact ⟨t, _, taken, only, answered, length, holder, pending⟩
  · obtain ⟨t, taken, only, answered, _⟩ := State.request_answered free 0x34 []
      (s.answerDrop_other p (Pst.not_holds_of other)) (onlyChanges_refl _ s) rfl
    exact ⟨t, taken, only, answered⟩
  · have refused := s.answerDrop_holder p (Pst.holds_of claim holder)
    rw [if_pos pending] at refused
    obtain ⟨t, taken, only, answered, _⟩ := State.request_answered free 0x34 [] refused (onlyChanges_refl _ s) rfl
    exact ⟨t, taken, only, answered⟩
  · have dropped := s.answerDrop_holder p (Pst.holds_of claim holder)
    rw [if_neg (by rw [quiet]; decide)] at dropped
    obtain ⟨t, taken, only, answered, pst, _⟩ := State.request_answered free 0x34 [.pst] dropped (s.onlyPst _) rfl
    exact ⟨t, taken, only, answered, pst⟩
  · rw [exec_claimExpiry s running, s.expiry_due c claim quiet]
    refine ⟨_, rfl, s.expired_only _ _, by simp, by rw [State.post_pst]; rfl, ?_⟩
    exact State.post_posted .claimExpired ((s.setTimebase (max s.timebase c.expiry)).setPst s.pst.endClaim)
  · rw [exec_claimExpiry s running, s.expiry_not_due h]

end Sys2Proof.Machine
end

section
/-!
SUPPORT. The fields of R129 as the statements list them: their ranges, what a write leaves of the 42 fields, and the values
that may be written (R129, R130, R135).
-/

namespace Sys2Proof.Machine

open Sys2Proof.Claim

/-! ### The table of R129 -/

/-- The rows of the table are the fields that are no points, with the model's ranges. -/
theorem fieldTable_rows : ∀ row ∈ fieldTable, isField row.field = true ∧ isPointField row.field = false
    ∧ fieldRange row.field = (row.least, row.greatest) := by decide

theorem fieldTable_complete (k : Nat) (field : isField k = true) (scalar : isPointField k = false) :
    ∃ row ∈ fieldTable, row.field = k := by
  have all : ∀ j < 43, isField j = true → isPointField j = false → ∃ row ∈ fieldTable, row.field = j := by decide
  simp only [isField, Bool.and_eq_true, decide_eq_true_eq] at field
  exact all k (by omega) (by simpa [isField] using field) scalar

/-- Field 6 takes three values, and any other one of the table every value of its range. -/
theorem scalarInRange_iff (k : Nat) (v : Int) : scalarInRange k v = true ↔
    (k ≠ 6 → (fieldRange k).1 ≤ v ∧ v ≤ (fieldRange k).2) ∧ (k = 6 → v = 128 ∨ v = 256 ∨ v = 512) := by
  unfold scalarInRange
  split
  · next n => simp [n, or_assoc]
  · next other => simp [other]

theorem mem_fieldTable_iff (k : Nat) (v : Int) :
    (∃ row ∈ fieldTable, row.field = k ∧ row.least ≤ v ∧ v ≤ row.greatest ∧ (k = 6 → v = 128 ∨ v = 256 ∨ v = 512))
      ↔ isField k = true ∧ isPointField k = false ∧ scalarInRange k v = true := by
  constructor
  · rintro ⟨row, listed, rfl, least, greatest, n⟩
    obtain ⟨field, scalar, range⟩ := fieldTable_rows row listed
    exact ⟨field, scalar, (scalarInRange_iff _ _).2 ⟨fun _ => by rw [range]; exact ⟨least, greatest⟩, n⟩⟩
  · rintro ⟨field, scalar, inRange⟩
    obtain ⟨row, listed, rfl⟩ := fieldTable_complete k field scalar
    obtain ⟨_, _, range⟩ := fieldTable_rows row listed
    obtain ⟨other, n⟩ := (scalarInRange_iff _ _).1 inRange
    rw [range] at other
    by_cases six : row.field = 6
    · have values := n six
      rw [six] at range
      obtain ⟨least, greatest⟩ := Prod.ext_iff.1 range
      simp only [fieldRange] at least greatest
      exact ⟨row, listed, rfl, by omega, by omega, n⟩
    · exact ⟨row, listed, rfl, (other six).1, (other six).2, n⟩

theorem isPointField_iff (k : Nat) : isPointField k = true ↔ 17 ≤ k ∧ k ≤ 24 := by simp [isPointField]

theorem isField_iff (k : Nat) : isField k = true ↔ 1 ≤ k ∧ k ≤ 42 := by simp [isField]

theorem pointInRange_iff (x : DepPoint) : pointInRange x = true ↔ x.phi ≤ 6000 ∧ x.vc ≤ 10000 := by simp [pointInRange]

theorem writable_iff (field : Byte) (value : BitVec 32) : Writable field value ↔
    (isField field.toNat = true ∧ isPointField field.toNat = false ∧ scalarInRange field.toNat value.toInt = true)
    ∨ (isPointField field.toNat = true ∧ pointInRange (pointOfWord value) = true) := by
  rw [← mem_fieldTable_iff, isPointField_iff, pointInRange_iff, and_assoc]
  rfl

/-! ### A point written (R130) -/

theorem Profile.setPoint_same (p : Profile) (k : Nat) (x : DepPoint) (h : isPointField k = true) :
    (p.setPoint k x).point k = x := by
  obtain ⟨low, high⟩ := (isPointField_iff k).1 h
  interval_cases k <;> rfl

/-- Another point than the one written stands. -/
theorem Profile.setPoint_ne (p : Profile) (k j : Nat) (x : DepPoint) (hj : isPointField j = true) (h : j ≠ k) :
    (p.setPoint k x).point j = p.point j := by
  obtain ⟨low, high⟩ := (isPointField_iff j).1 hj
  interval_cases j
  all_goals
    unfold Profile.setPoint
    split
    any_goals rfl
    exact absurd rfl h

/-! ### The wire values after a write (R135, R187) -/

theorem Profile.word_point (p : Profile) (k : Nat) (h : isPointField k = true) :
    p.word k = BitVec.ofNat 32 ((p.point k).phi * 65536 + (p.point k).vc) := if_pos h

theorem Profile.word_scalar (p : Profile) (k : Nat) (h : isPointField k = false) :
    p.word k = BitVec.ofInt 32 (p.scalar k) := if_neg (by rw [h]; decide)

/-- Two profiles agree in a field's wire value where they agree in its point or scalar. -/
theorem Profile.word_congr {p q : Profile} (k : Nat) (point : isPointField k = true → q.point k = p.point k)
    (scalar : q.scalar k = p.scalar k) : q.word k = p.word k := by
  cases h : isPointField k with
  | true => rw [q.word_point k h, p.word_point k h, point h]
  | false => rw [q.word_scalar k h, p.word_scalar k h, scalar]

theorem Profile.setPoint_word (p : Profile) (k : Nat) (w : BitVec 32) (h : isPointField k = true) :
    (p.setPoint k (pointOfWord w)).word k = w := by
  rw [Profile.word_point _ k h, p.setPoint_same k _ h]
  show BitVec.ofNat 32 (w.toNat / 65536 * 65536 + w.toNat % 65536) = w
  rw [Nat.div_add_mod', BitVec.ofNat_toNat, BitVec.setWidth_eq]

theorem Profile.setScalar_word (p : Profile) (k : Nat) (w : BitVec 32) (field : isField k = true)
    (scalar : isPointField k = false) (range : scalarInRange k w.toInt = true) : (p.setScalar k w.toInt).word k = w := by
  rw [Profile.word_scalar _ k scalar, p.setScalar_same k _ field scalar range, BitVec.ofInt_toInt]

/-- A value that may be written is: its field reads it back, and every other field reads as before (R135). -/
theorem Profile.write_writable (p : Profile) (field : Byte) (value : BitVec 32) (h : Writable field value) :
    isField field.toNat = true ∧ ∃ q, p.write field.toNat value = some q ∧ q.word field.toNat = value
      ∧ ∀ k, k ≠ field.toNat → q.word k = p.word k := by
  rcases (writable_iff field value).1 h with ⟨named, scalar, range⟩ | ⟨point, range⟩
  · refine ⟨named, p.setScalar field.toNat value.toInt, ?_, p.setScalar_word _ _ named scalar range,
      fun k other => Profile.word_congr k (fun _ => p.setScalar_point _ k _) (p.setScalar_ne _ k _ other)⟩
    rw [Profile.write, if_pos named, scalar, if_neg Bool.false_ne_true, if_pos range]
  · have named : isField field.toNat = true := by
      rw [isPointField_iff] at point
      exact (isField_iff _).2 (by omega)
    refine ⟨named, p.setPoint field.toNat (pointOfWord value), ?_, p.setPoint_word _ _ point,
      fun k other => Profile.word_congr k (fun hk => p.setPoint_ne _ k _ hk other) (p.setPoint_scalar _ k _)⟩
    rw [Profile.write, if_pos named, if_pos point, if_pos range]

theorem Profile.write_not_writable (p : Profile) (field : Byte) (value : BitVec 32) (h : ¬ Writable field value) :
    p.write field.toNat value = none := by
  rw [writable_iff] at h
  unfold Profile.write
  split
  · next named =>
    split
    · next point => exact if_neg fun range => h (.inr ⟨point, range⟩)
    · next scalar => exact if_neg fun range => h (.inl ⟨named, Bool.eq_false_iff.2 scalar, range⟩)
  · rfl

end Sys2Proof.Machine
end

section
/-!
PROOFS. WriteField: the three refusals in their order and the write that is accepted (R129, R130, R133, R135).
-/

namespace Sys2Proof.Machine

open Sys2Proof.Claim

/-! ### The payload (R135, assumption 13) -/

/-- The payload of a WRITE_FIELD response: the number and a value. -/
def writePayload (field : Byte) (value : BitVec 32) : List Byte := bytesBE 1 field.toNat ++ bytesBE 4 value.toNat

theorem writePayload_items (field : Byte) (value : BitVec 32) : (writePayload field value).length = 5
    ∧ At (writePayload field value) 0 1 field.toNat ∧ At (writePayload field value) 1 4 value.toNat :=
  ⟨by simp [writePayload], at_bytesBE 1 _ _, at_behind 1 _ (by decide) (at_last 4 _)⟩

theorem State.fieldAnswer_eq (st : Status) (field : Byte) (s : State) : s.fieldAnswer st field
    = ⟨st, writePayload field (s.stagingWord field),
      if isField field.toNat then s else s.setFreeCount (s.freeCount + 1)⟩ := by
  rw [State.fieldAnswer, byte_eq]
  rfl

theorem State.stagingWord_field (s : State) (field : Byte) (h : isField field.toNat = true) :
    s.stagingWord field = s.pst.staging.word field.toNat := if_pos h

/-! ### The answers -/

theorem State.answerWrite_other (p : Port) (field : Byte) (value : BitVec 32) (s : State) (h : s.pst.holds p = false) :
    s.answerWrite p field value = s.fieldAnswer .notHolder field := if_pos h

theorem State.answerWrite_busy (p : Port) (field : Byte) (value : BitVec 32) (s : State) (h : s.pst.holds p = true)
    (pending : s.pst.commitPending = true) : s.answerWrite p field value = s.fieldAnswer .busy field := by
  rw [State.answerWrite, if_neg (by rw [h]; decide), if_pos pending]

theorem State.answerWrite_range (p : Port) (field : Byte) (value : BitVec 32) (s : State) (h : s.pst.holds p = true)
    (quiet : s.pst.commitPending = false) (refused : s.pst.staging.write field.toNat value = none) :
    s.answerWrite p field value = s.fieldAnswer .range field := by
  rw [State.answerWrite, if_neg (by rw [h]; decide), if_neg (by rw [quiet]; decide), refused]

theorem State.answerWrite_ok (p : Port) (field : Byte) (value : BitVec 32) (s : State) (x : Profile)
    (h : s.pst.holds p = true) (quiet : s.pst.commitPending = false)
    (written : s.pst.staging.write field.toNat value = some x) : s.answerWrite p field value
      = (s.setPst { s.pst with staging := x, claim := some ⟨p, s.timebase + 120000⟩ }).fieldAnswer .ok field := by
  rw [State.answerWrite, if_neg (by rw [h]; decide), if_neg (by rw [quiet]; decide), written]
  rfl

/-- A refusal: five bytes with the number and, for a number that names a field, what staging holds for it; nothing but the
count of free values has changed, and that only for a number that names none. -/
theorem State.fieldAnswer_refuses {p : Port} {s : State} (free : Free p s) (field : Byte) (value : BitVec 32) (st : Status)
    (answer : s.answerWrite p field value = s.fieldAnswer st field) :
    ∃ t, exec (.writeField p field value) s = .next t ∧ OnlyChanges [.freeCount, .mpt] s t
      ∧ (∃ l, Answered p 0x31 st l s t ∧ l.length = 5 ∧ At l 0 1 field.toNat
        ∧ (1 ≤ field.toNat ∧ field.toNat ≤ 42 → At l 1 4 (t.pst.staging.word field.toNat).toNat))
      ∧ (1 ≤ field.toNat ∧ field.toNat ≤ 42 → t.freeCount = s.freeCount) := by
  rw [State.fieldAnswer_eq] at answer
  have counted : OnlyChanges [.freeCount] s (if isField field.toNat then s else s.setFreeCount (s.freeCount + 1)) := by
    split
    · exact onlyChanges_refl _ s
    · exact s.onlyFreeCount _
  have ports := counted .mpt (by simp)
  have store := counted .pst (by simp)
  obtain ⟨t, taken, only, answered, pst, count⟩ := State.request_answered free 0x31 [.freeCount] answer counted ports
  obtain ⟨length, number, word⟩ := writePayload_items field (s.stagingWord field)
  refine ⟨t, taken, only, ⟨_, answered, length, number, fun named => ?_⟩, fun named => ?_⟩
  · rw [pst, store, ← s.stagingWord_field field ((isField_iff _).2 named)]
    exact word
  · rw [count, if_pos ((isField_iff _).2 named)]

/-- Settles O45: the refusals by the holder, the pending commit and the value, and the write of a value of its field's
range. -/
theorem writeField : Obligations.WriteField := by
  unfold Obligations.WriteField
  intro p field value s free
  refine ⟨fun other => ?_, fun holder pending => ?_, fun holder quiet unwritable => ?_, fun holder quiet writable => ?_⟩
  · exact State.fieldAnswer_refuses free field value .notHolder (s.answerWrite_other p field value
      (Bool.eq_false_iff.2 fun holds => other ((s.pst.holds_iff p).1 holds)))
  · exact State.fieldAnswer_refuses free field value .busy
      (s.answerWrite_busy p field value ((s.pst.holds_iff p).2 holder) pending)
  · exact State.fieldAnswer_refuses free field value .range (s.answerWrite_range p field value
      ((s.pst.holds_iff p).2 holder) quiet (s.pst.staging.write_not_writable field value unwritable))
  · obtain ⟨named, x, written, value_read, others⟩ := s.pst.staging.write_writable field value writable
    have accepted := s.answerWrite_ok p field value x ((s.pst.holds_iff p).2 holder) quiet written
    simp only [State.fieldAnswer_eq, if_pos named, State.stagingWord_field _ _ named] at accepted
    obtain ⟨t, taken, only, answered, pst, _⟩ := State.request_answered free 0x31 [.pst] accepted (s.onlyPst _) rfl
    obtain ⟨length, number, word⟩ := writePayload_items field (x.word field.toNat)
    have staging : t.pst.staging = x := by rw [pst]; rfl
    refine ⟨t, taken, only, ⟨_, answered, length, number, fun _ => ?_⟩, ?_, fun k _ _ other => ?_, ?_⟩
    · rw [staging]
      exact word
    · rw [staging, value_read]
    · rw [staging, others k other]
    · rw [staging, pst]
      rfl

end Sys2Proof.Machine
end

section
/-!
PROOFS. ReadField: the refusal and the payload item by item (R136, R187).
-/

namespace Sys2Proof.Machine

open Sys2Proof.Claim

/-! ### The answers -/

/-- The profile that a slot names (R136). -/
def State.slotProfile (slot : Byte) (s : State) : Profile := if slot.toNat = 0 then s.pst.active else s.pst.staging

theorem State.answerRead_refused (field slot : Byte) (s : State)
    (h : field.toNat < 1 ∨ 42 < field.toNat ∨ 1 < slot.toNat) : s.answerRead field slot = ⟨.range, [], s⟩ := by
  unfold State.answerRead
  split
  · rfl
  · next named =>
    obtain ⟨low, high⟩ := (isField_iff field.toNat).1 (by simpa using named)
    have beyond : 1 < slot.toNat := by omega
    rw [if_neg (by rintro rfl; exact absurd beyond (by decide)), if_neg (by rintro rfl; exact absurd beyond (by decide))]

theorem State.answerRead_ok (field slot : Byte) (s : State) (low : 1 ≤ field.toNat) (high : field.toNat ≤ 42)
    (hs : slot.toNat ≤ 1) :
    s.answerRead field slot = ⟨.ok, s.fieldPayload (s.slotProfile slot) field, s.afterTimeLeft⟩ := by
  have named : ¬ isField field.toNat = false := by simp [isField, low, high]
  rw [State.answerRead, if_neg named]
  obtain active | staging : slot.toNat = 0 ∨ slot.toNat = 1 := by omega
  · rw [if_pos (BitVec.eq_of_toNat_eq active), State.slotProfile, if_pos active]
  · have one : slot = 1 := BitVec.eq_of_toNat_eq staging
    rw [if_neg (by rw [one]; decide), if_pos one, State.slotProfile, if_neg (by omega)]

/-! ### The payload -/

/-- The items of the payload in the order of their offsets. -/
theorem State.fieldPayload_eq (x : Profile) (field : Byte) (s : State) : s.fieldPayload x field
    = bytesBE 4 (x.word field.toNat).toNat ++ (bytesBE 1 (portCode (s.pst.claim.map (·.holder)))
      ++ (bytesBE 1 (if s.pst.claim.isSome then 1 else 0) ++ (bytesBE 4 ((s.pst.claim.map s.timeLeft).getD 0)
      ++ (bytesBE 1 (if s.pst.commitPending then 1 else 0) ++ (bytesBE 1 (nvCode s.pst.nv.writing)
      ++ bytesBE 1 (waitingCode s.pst.nv.waiting)))))) := by
  simp only [State.fieldPayload, u32, u8, flag_eq, optItem_eq, List.append_assoc]

theorem State.fieldPayload_items (x : Profile) (field : Byte) (s : State) :
    (s.fieldPayload x field).length = 13
    ∧ At (s.fieldPayload x field) 0 4 (x.word field.toNat).toNat
    ∧ At (s.fieldPayload x field) 4 1 (portCode (s.pst.claim.map (·.holder)))
    ∧ AtOpt (s.fieldPayload x field) 5 4 (s.pst.claim.map fun c => (s.timeLeft c : Int))
    ∧ At (s.fieldPayload x field) 10 1 (ofFlag s.pst.commitPending)
    ∧ At (s.fieldPayload x field) 11 1 (nvCode s.pst.nv.writing)
    ∧ At (s.fieldPayload x field) 12 1 (waitingCode s.pst.nv.waiting) := by
  rw [State.fieldPayload_eq]
  refine ⟨by simp, at_bytesBE _ _ _, at_behind _ _ (by decide) (at_bytesBE _ _ _), ?_, ?_, ?_, ?_⟩
  · exact atOpt_behind _ _ (by decide) (atOpt_behind _ _ (by decide) (atOpt_optItem _ _ _ _))
  · rw [← ofFlag_eq]
    repeat refine at_behind _ _ (by decide) ?_
    exact at_bytesBE _ _ _
  · repeat refine at_behind _ _ (by decide) ?_
    exact at_bytesBE _ _ _
  · repeat refine at_behind _ _ (by decide) ?_
    exact at_last _ _

theorem nvCode_eq (j : Option NvJob) :
    (nvCode j : Int) = match j with | none => 0 | some (.profile _) => 1 | some (.totals _) => 2 := by
  rcases j with _ | _ | _ <;> rfl

theorem any_region_iff (g : Region) (l : List NvJob) :
    (l.any fun j => j.region == g) = true ↔ g ∈ l.map NvJob.region := by
  simp [List.any_eq_true]

/-- The regions that wait, bit by bit. -/
theorem waitingCode_eq (l : List NvJob) : (waitingCode l : Int)
    = (if Region.profile ∈ l.map NvJob.region then 1 else 0) + (if Region.totals ∈ l.map NvJob.region then 2 else 0) := by
  simp only [waitingCode, any_region_iff]
  push_cast
  rfl

/-- Settles O46: the refusal of a number or slot that names nothing, and the payload of any other. -/
theorem readField : Obligations.ReadField := by
  unfold Obligations.ReadField
  intro p field slot s free
  refine ⟨fun unnamed => ?_, fun low high hs => ?_⟩
  · obtain ⟨t, taken, only, answered, _⟩ := State.request_answered free 0x32 [] (s.answerRead_refused field slot unnamed)
      (onlyChanges_refl _ s) rfl
    exact ⟨t, taken, only, answered⟩
  · obtain ⟨t, taken, only, answered, _, count⟩ := State.request_answered free 0x32 [.freeCount]
      (s.answerRead_ok field slot low high hs) s.afterTimeLeft_only s.afterTimeLeft_mpt
    obtain ⟨length, word, holder, left, pending, writing, waiting⟩ := s.fieldPayload_items (s.slotProfile slot) field
    refine ⟨t, _, taken, only, answered, length, word, fun none => ?_, fun c claim => ?_, pending,
      at_congr writing (nvCode_eq _), at_congr waiting (waitingCode_eq _)⟩
    · simp only [none, Option.map_none] at holder left
      exact ⟨holder, left, count.trans (congrArg State.freeCount (s.afterTimeLeft_before (by simp [none])))⟩
    · simp only [claim, Option.map_some] at holder left
      obtain ⟨present, value⟩ := left
      refine ⟨holder, present, fun before => ⟨?_, ?_⟩⟩
      · rwa [s.timeLeft_before c before] at value
      · exact count.trans (congrArg State.freeCount (s.afterTimeLeft_before (by simp [claim, before])))

end Sys2Proof.Machine
end

section
/-!
PROOFS. CommitEdit: the six cross-field checks in the words of R140, the first of them that fails, and the answers of
COMMIT_EDIT (R139, R140, R143).
-/

namespace Sys2Proof.Machine

open Sys2Proof.Claim

/-! ### Check 4, the deposition table (R130, R140) -/

/-- A table is ascending when each of its points has a smaller φ than the next. -/
theorem ascending_iff (l : List DepPoint) : ascending l = true ↔
    ∀ i a b, l[i]? = some a → l[i + 1]? = some b → a.phi < b.phi := by
  induction l with
  | nil => simp [ascending]
  | cons x l ih =>
    cases l with
    | nil => simp [ascending]
    | cons y l =>
      rw [ascending_cons, ih]
      constructor
      · rintro ⟨first, rest⟩ i a b ha hb
        cases i with
        | zero =>
          cases ha
          cases hb
          exact first
        | succ i => exact rest i a b ha hb
      · exact fun h => ⟨h 0 x y rfl rfl, fun i a b ha hb => h (i + 1) a b ha hb⟩

theorem checkHolds_table (x : Profile) : CheckHolds x 4 ↔ 1 ≤ x.depCount ∧ x.depCount ≤ 8 ∧ ascending x.depTable = true := by
  rw [ascending_iff]
  rfl

/-! ### Check 5, the gaps (R26, R140) -/

/-- A gap whose Lmin is at least 1 and below the limit, in the words of R140. -/
theorem Profile.formable_iff_lags (x : Profile) (d : Nat) :
    x.formable d = true ↔ 1 ≤ d * x.fs / x.vMax ∧ d * x.fs / x.vMax < 2048 - 2 * x.n := x.formable_iff d

theorem checkHolds_gaps (x : Profile) : CheckHolds x 5 ↔ x.failedGap = none := by
  simp only [Profile.failedGap, Option.map_eq_none_iff, List.find?_eq_none, Profile.gaps, List.mem_filter,
    decide_eq_true_eq, and_imp, Bool.not_eq_true', Bool.not_eq_false, Profile.formable_iff_lags]
  rfl

/-- The spacings by gap code (R188). -/
def Profile.spacings (x : Profile) : List Nat := [x.spacingAB, x.spacingBC, x.spacingCD]

/-- The spacings with their codes. -/
def Profile.codedSpacings (x : Profile) : List (Nat × Nat) := [(0, x.spacingAB), (1, x.spacingBC), (2, x.spacingCD)]

theorem Profile.codedSpacings_getElem (x : Profile) (i g d : Nat) :
    x.codedSpacings[i]? = some (g, d) ↔ g = i ∧ x.spacings[i]? = some d := by
  rcases i with _ | _ | _ | i <;> simp [Profile.codedSpacings, Profile.spacings, eq_comm]

/-- The gaps that check 5 finds failing (R140). -/
def Profile.failsAt (x : Profile) (a : Nat × Nat) : Bool := decide (a.1 + 2 ≤ x.ringCount) && !x.formable a.2

theorem Profile.failedGap_eq (x : Profile) : x.failedGap = (x.codedSpacings.find? x.failsAt).map (·.1) := by
  simp only [Profile.failedGap, Profile.gaps, List.find?_filter, Bool.decide_and, Bool.decide_eq_true]
  rfl

/-- The failed gap of check 5 lies between configured rings, and every gap before it passes. -/
theorem Profile.failedGap_some (x : Profile) (g : Nat) (h : x.failedGap = some g) :
    g + 2 ≤ x.ringCount ∧ (∃ d, x.spacings[g]? = some d ∧ ¬ x.formable d = true)
    ∧ ∀ j < g, ∀ d, x.spacings[j]? = some d → x.formable d = true := by
  rw [Profile.failedGap_eq] at h
  obtain ⟨⟨code, d⟩, found, rfl⟩ := Option.map_eq_some_iff.1 h
  obtain ⟨fails, i, inside, here, earlier⟩ := List.find?_eq_some_iff_getElem.1 found
  obtain ⟨rfl, spacing⟩ := (x.codedSpacings_getElem i code d).1 (List.getElem?_eq_some_iff.2 ⟨inside, here⟩)
  simp only [Profile.failsAt, Bool.and_eq_true, decide_eq_true_eq, Bool.not_eq_true'] at fails
  obtain ⟨configured, unformable⟩ := fails
  refine ⟨configured, ⟨d, spacing, by simp [unformable]⟩, fun j hj e he => ?_⟩
  obtain ⟨_, there⟩ := List.getElem?_eq_some_iff.1 ((x.codedSpacings_getElem j j e).2 ⟨rfl, he⟩)
  have passes := earlier j hj
  rw [there] at passes
  have within : j + 2 ≤ x.ringCount := by omega
  simpa [Profile.failsAt, within] using passes

/-! ### The first check that fails (R139) -/

/-- Past the first four checks, a failed gap and then the last check decide. -/
theorem Profile.firstFailure_past_table (x : Profile) (before : ∀ j < 5, CheckHolds x j) : x.firstFailure
    = x.failedGap.elim (if ¬ x.stopVel < x.vMax then some (6, none) else none) fun g => some (5, some g) := by
  refine (if_neg (not_not.2 (before 1 (by decide)))).trans ((if_neg (not_not.2 (before 2 (by decide)))).trans
    ((if_neg (not_not.2 (before 3 (by decide)))).trans
      ((if_neg (not_not.2 ((checkHolds_table x).1 (before 4 (by decide))))).trans ?_)))
  cases x.failedGap <;> rfl

/-- Past the first five checks, the last one decides. -/
theorem Profile.firstFailure_last (x : Profile) (before : ∀ j < 6, CheckHolds x j) :
    x.firstFailure = if ¬ x.stopVel < x.vMax then some (6, none) else none := by
  rw [x.firstFailure_past_table fun j hj => before j (by omega), (checkHolds_gaps x).1 (before 5 (by decide))]
  rfl

/-- The first check that fails, with the gap for check 5 alone. -/
theorem Profile.firstFailure_failed (x : Profile) (k : Nat) (low : 1 ≤ k) (high : k ≤ 6) (before : ∀ j < k, CheckHolds x j)
    (fails : ¬ CheckHolds x k) : x.firstFailure = some (k, if k = 5 then x.failedGap else none) := by
  interval_cases k
  · exact if_pos fails
  · exact (if_neg (not_not.2 (before 1 (by decide)))).trans (if_pos fails)
  · exact (if_neg (not_not.2 (before 1 (by decide)))).trans ((if_neg (not_not.2 (before 2 (by decide)))).trans (if_pos fails))
  · exact (if_neg (not_not.2 (before 1 (by decide)))).trans ((if_neg (not_not.2 (before 2 (by decide)))).trans
      ((if_neg (not_not.2 (before 3 (by decide)))).trans (if_pos (mt (checkHolds_table x).2 fails))))
  · obtain ⟨g, gap⟩ := Option.ne_none_iff_exists'.1 (mt (checkHolds_gaps x).2 fails)
    rw [x.firstFailure_past_table before, gap]
    rfl
  · exact (x.firstFailure_last before).trans (if_pos fails)

theorem Profile.firstFailure_passed (x : Profile) (h : ∀ k, 1 ≤ k → k ≤ 6 → CheckHolds x k) : x.firstFailure = none := by
  have before (j : Nat) (hj : j < 6) : CheckHolds x j := by
    cases j with
    | zero => trivial
    | succ j => exact h _ (by omega) (by omega)
  exact (x.firstFailure_last before).trans (if_neg (not_not.2 (h 6 (by decide) le_rfl)))

/-! ### The answers (R139, R143) -/

theorem profileBusy_iff (s : State) : s.pst.nv.profileBusy = true ↔ ProfileWriting s := by
  have region (j : NvJob) : j.region = .profile ↔ ∃ x, j = .profile x := by cases j <;> simp [NvJob.region]
  simp only [Nv.profileBusy, ProfileWriting, Bool.or_eq_true, beq_iff_eq, Option.map_eq_some_iff, List.any_eq_true, region]
  constructor
  · rintro (⟨_, writing, x, rfl⟩ | ⟨_, waiting, x, rfl⟩)
    · exact .inl ⟨x, writing⟩
    · exact .inr ⟨x, waiting⟩
  · rintro (⟨x, writing⟩ | ⟨x, waiting⟩)
    · exact .inl ⟨_, writing, x, rfl⟩
    · exact .inr ⟨_, waiting, x, rfl⟩

theorem State.answerCommit_other (p : Port) (s : State) (h : s.pst.holds p = false) :
    s.answerCommit p = ⟨.notHolder, [], s⟩ := if_pos h

theorem State.answerCommit_busy (p : Port) (s : State) (h : s.pst.holds p = true)
    (busy : s.pst.commitPending = true ∨ s.pst.nv.profileBusy = true) : s.answerCommit p = ⟨.busy, [], s⟩ := by
  rw [State.answerCommit, if_neg (by rw [h]; decide)]
  split
  · rfl
  · next quiet => exact if_pos (busy.resolve_left quiet)

/-- The payload of an INVALID COMMIT_EDIT: the check and the gap. -/
def invalidPayload (k : Nat) (gap : Option Nat) : List Byte :=
  bytesBE 1 k ++ (bytesBE 1 (if gap.isSome then 1 else 0) ++ bytesBE 1 ((gap.map id).getD 0))

theorem invalidPayload_items (k : Nat) (gap : Option Nat) : (invalidPayload k gap).length = 3
    ∧ At (invalidPayload k gap) 0 1 k ∧ AtOpt (invalidPayload k gap) 1 1 (gap.map fun g : Nat => (g : Int)) := by
  refine ⟨by simp [invalidPayload], at_bytesBE _ _ _, ?_⟩
  have item := atOpt_optItem 1 id gap []
  rw [List.append_nil] at item
  exact atOpt_behind 1 _ le_rfl item

theorem State.answerCommit_invalid (p : Port) (s : State) (h : s.pst.holds p = true) (quiet : s.pst.commitPending = false)
    (idle : s.pst.nv.profileBusy = false) (k : Nat) (gap : Option Nat) (fails : s.pst.staging.firstFailure = some (k, gap)) :
    s.answerCommit p = ⟨.invalid, invalidPayload k gap, s⟩ := by
  rw [State.answerCommit, if_neg (by rw [h]; decide), if_neg (by rw [quiet]; decide), if_neg (by rw [idle]; decide), fails]
  exact congrArg (fun l => (⟨.invalid, bytesBE 1 k ++ l, s⟩ : Answer)) (optItem_eq 1 id gap)

theorem State.answerCommit_ok (p : Port) (s : State) (h : s.pst.holds p = true) (quiet : s.pst.commitPending = false)
    (idle : s.pst.nv.profileBusy = false) (passed : s.pst.staging.firstFailure = none) :
    s.answerCommit p = ⟨.ok, bytesBE 1 (if isGeometry s.pst.active s.pst.staging then 1 else 0),
      s.setPst { s.pst with commitPending := true, claim := some ⟨p, s.timebase + 120000⟩ }⟩ := by
  rw [State.answerCommit, if_neg (by rw [h]; decide), if_neg (by rw [quiet]; decide), if_neg (by rw [idle]; decide), passed]
  rfl

/-- The code of a commit by what it keeps (R143). -/
theorem geometryCode_eq (old new : Profile) : ((if isGeometry old new then 1 else 0 : Nat) : Int)
    = if new.fs = old.fs ∧ new.n = old.n ∧ new.ringCount = old.ringCount then 0 else 1 := by
  have kept : (new.fs = old.fs ∧ new.n = old.n ∧ new.ringCount = old.ringCount) ↔ ¬ isGeometry old new = true := by
    simp only [isGeometry_iff, not_or, ne_eq, not_not, @eq_comm _ old.fs, @eq_comm _ old.n, @eq_comm _ old.ringCount]
  simp only [kept, ite_not]
  push_cast
  rfl

/-- Settles O47: the refusals by the holder and what is in the way, the first failed check, and the commit that is taken. -/
theorem commitEdit : Obligations.CommitEdit := by
  unfold Obligations.CommitEdit
  intro p s free x refused
  have refuse (st : Status) (answer : s.answerCommit p = ⟨st, [], s⟩) : refused st := by
    obtain ⟨t, taken, only, answered, _⟩ := State.request_answered free 0x33 [] answer (onlyChanges_refl _ s) rfl
    exact ⟨t, taken, only, answered⟩
  have unheld (other : ¬ Holds p s) : s.pst.holds p = false :=
    Bool.eq_false_iff.2 fun holds => other ((s.pst.holds_iff p).1 holds)
  have unwritten (idle : ¬ ProfileWriting s) : s.pst.nv.profileBusy = false :=
    Bool.eq_false_iff.2 fun busy => idle ((profileBusy_iff s).1 busy)
  refine ⟨fun other => refuse .notHolder (s.answerCommit_other p (unheld other)), fun holder pending => ?_,
    fun holder _ writing => ?_, fun k low high holder quiet idle before fails => ?_, fun holder quiet idle passed => ?_⟩
  · exact refuse .busy (s.answerCommit_busy p ((s.pst.holds_iff p).2 holder) (.inl pending))
  · exact refuse .busy (s.answerCommit_busy p ((s.pst.holds_iff p).2 holder) (.inr ((profileBusy_iff s).2 writing)))
  · have first := x.firstFailure_failed k low high before fails
    have invalid := s.answerCommit_invalid p ((s.pst.holds_iff p).2 holder) quiet (unwritten idle) k _ first
    obtain ⟨t, taken, only, answered, _⟩ := State.request_answered free 0x33 [] invalid (onlyChanges_refl _ s) rfl
    obtain ⟨length, number, gap⟩ := invalidPayload_items k (if k = 5 then x.failedGap else none)
    refine ⟨t, _, taken, only, answered, length, number, fun other => ?_, fun five => ?_⟩
    · exact atOpt_congr gap (by rw [if_neg other]; rfl)
    · subst five
      obtain ⟨g, failed⟩ := Option.ne_none_iff_exists'.1 (mt (checkHolds_gaps x).2 fails)
      obtain ⟨configured, ⟨d, spacing, unformable⟩, earlier⟩ := x.failedGap_some g failed
      exact ⟨g, atOpt_congr gap (by rw [if_pos rfl, failed]; rfl), configured,
        ⟨d, spacing, fun good => unformable ((x.formable_iff_lags d).2 good)⟩,
        fun j hj e he => (x.formable_iff_lags e).1 (earlier j hj e he)⟩
  · have taking := s.answerCommit_ok p ((s.pst.holds_iff p).2 holder) quiet (unwritten idle) (x.firstFailure_passed passed)
    obtain ⟨t, taken, only, answered, pst, _⟩ := State.request_answered free 0x33 [.pst] taking (s.onlyPst _) rfl
    refine ⟨t, _, taken, only, answered, bytesBE_length _ _, at_congr (at_last _ _) ?_, pst⟩
    exact geometryCode_eq s.pst.active x

end Sys2Proof.Machine
end

section
/-!
PROOFS. NvWriteCompletion: the end of a write whose read-back agrees and of one whose read-back does not (R116, R145, R146,
R159).
-/

namespace Sys2Proof.Machine

open Sys2Proof.Claim

/-! ### The device (R145, R146) -/

/-- The device goes on with the oldest waiting write, and the regions stand. -/
theorem Nv.next_eq (v : Nv) : v.next = { v with writing := v.waiting.head?, waiting := v.waiting.tail } := by
  unfold Nv.next
  cases waiting : v.waiting with
  | nil => simp
  | cons j l => rfl

/-- A posting of another kind after a recording. -/
theorem recorded_post {key : FaultKey} {s u : State} (h : Recorded key s u) (k : EventKind) (other : k ≠ .faultMapFull) :
    Recorded key s (u.post k) := by
  obtain ⟨_, _, _, posts⟩ := u.post_mapStands k other
  obtain ⟨present, appended, unchanged, full, posted⟩ := h
  refine ⟨?_, ?_, ?_, ?_, fun p => (posts p).trans ?_⟩
  · rwa [State.post_faults]
  · rwa [State.post_faults]
  · rwa [State.post_faults]
  · rwa [State.post_full]
  · rw [State.post_full]
    exact posted p

/-! ### The completion (R146) -/

theorem exec_nvWriteCompletion (agrees : Bool) (s : State) (running : s.power = .running) :
    exec (.nvWriteCompletion agrees) s = .next (s.nvComplete agrees) := congrArg _ (State.whenRunning_running _ s running)

theorem State.nvComplete_agrees (s : State) (j : NvJob) (writing : s.pst.nv.writing = some j) :
    s.nvComplete true = s.setPst { s.pst with nv := (s.pst.nv.keep j).next } := by
  rw [State.nvComplete, writing]
  rfl

/-- The state in which a failed write is recorded: its region holds a free value (assumption 10). -/
def State.spoiled (j : NvJob) (s : State) : State :=
  (s.setPst { s.pst with nv := (s.pst.nv.spoil s.freeCount j).next }).setFreeCount (s.freeCount + 1)

theorem State.nvComplete_differs (s : State) (j : NvJob) (writing : s.pst.nv.writing = some j) :
    s.nvComplete false = ((s.spoiled j).recordFault (nvKey j.region)).post .nvWriteFailed := by
  rw [State.nvComplete, writing]
  rfl

/-- No capture waits for FAULT_MAP_FULL or NV_WRITE_FAILED (R171). -/
theorem State.nvFailed_only (j : NvJob) (key : FaultKey) (s : State) :
    OnlyChanges [.freeCount, .pst, .efu] s (((s.spoiled j).recordFault key).post .nvWriteFailed) := by
  have cap : (((s.spoiled j).recordFault key).post .nvWriteFailed).cap = s.cap := by
    rw [State.post_cap _ _ (Cap.waitsFor_none _ _ (by decide)), State.recordFault, State.noteFault_cap]
    rfl
  intro b
  cases b
  case cap => exact fun _ => cap
  all_goals simp [Block.Same, State.spoiled]

/-- Settles O48: the device after each outcome, region by region, and the failure posted and recorded. -/
theorem nvWriteCompletion : Obligations.NvWriteCompletion := by
  unfold Obligations.NvWriteCompletion
  intro job s running writing started
  have goesOn (v : Nv) (waiting : v.waiting = s.pst.nv.waiting) : started v.next := by
    rw [Nv.next_eq, waiting]
    exact ⟨rfl, rfl⟩
  refine ⟨⟨_, exec_nvWriteCompletion true s running, ?_⟩, ⟨_, exec_nvWriteCompletion false s running, ?_⟩⟩
  · rw [s.nvComplete_agrees job writing]
    refine ⟨s.onlyPst _, rfl, goesOn _ (by cases job <;> rfl), fun x kept => ?_, fun x kept => ?_⟩
    all_goals
      subst kept
      rw [State.setPst_pst, Nv.next_eq]
      exact ⟨rfl, rfl⟩
  · rw [s.nvComplete_differs job writing]
    have store : (((s.spoiled job).recordFault (nvKey job.region)).post .nvWriteFailed).pst
        = { s.pst with nv := (s.pst.nv.spoil s.freeCount job).next } := by
      rw [State.post_pst, State.recordFault_pst]
      rfl
    have recorded := recorded_post ((s.spoiled job).recordFault_recorded (nvKey job.region)) .nvWriteFailed (by decide)
    refine ⟨s.nvFailed_only job _, by rw [store], ?_, fun x spoilt => ?_, fun x spoilt => ?_,
      fun p => State.post_pends .nvWriteFailed p _, fun x spoilt => ?_, fun x spoilt => ?_⟩
    · rw [store]
      exact goesOn _ (by cases job <;> rfl)
    · rw [store, spoilt, Nv.next_eq]
      rfl
    · rw [store, spoilt, Nv.next_eq]
      rfl
    all_goals
      subst spoilt
      exact recorded

end Sys2Proof.Machine
end

section
/-!
PROOFS. StoreAfterReset: the profile that a start loads, and the store and the regions after each reset (R129, R144,
R147 to R149).
-/

namespace Sys2Proof.Machine

open Sys2Proof.Claim

/-! ### What a start loads (R148) -/

/-- The entry of a profile that was not loaded. -/
def profileLostKey : FaultKey := ⟨.region .profile, .profileLost⟩

theorem profileCheck_eq (p : Profile) : crc16 p.regionBytes = profileCheck p := by
  have same := imageOf_eq p
  rw [Profile.image, imageOf, ProfileImage.mk.injEq] at same
  exact same.2

theorem loadable_iff (x : ProfileImage) : (x.passes && x.profile.accepted) = true ↔ Loadable x := by
  rw [Bool.and_eq_true, ProfileImage.passes_iff, profileCheck_eq, Loadable]

theorem Nv.storedProfile_loadable (v : Nv) (x : ProfileImage) (held : v.profileRegion = some x) (h : Loadable x) :
    v.storedProfile = some x.profile := by
  rw [Nv.storedProfile, held, Option.bind_some, if_pos ((loadable_iff x).2 h)]

theorem Nv.storedProfile_none (v : Nv) (h : ∀ x, v.profileRegion = some x → ¬ Loadable x) : v.storedProfile = none := by
  unfold Nv.storedProfile
  cases held : v.profileRegion with
  | none => rfl
  | some x => rw [Option.bind_some, if_neg (mt (loadable_iff x).1 (h x held))]

theorem Profile.default_isDefault : IsDefault Profile.default := by
  unfold IsDefault
  decide

/-! ### The store after a start -/

/-- A store started on the device of `v`, with a write of the totals that may have begun since, and the entry that tells
of a profile that was not loaded. -/
structure StoreStarted (v : Nv) (t : State) : Prop where
  power : t.power = .running
  store : t.pst = { Pst.start v.cut with nv := { v.cut with writing := t.pst.nv.writing } }
  lost : t.efu.entries profileLostKey = if v.cut.profileLost then [⟨profileLostKey, 0, 0, 1, false⟩] else []

theorem State.startBlocks_lost (straps : PerPort StrapPair) (s : State) :
    (s.startBlocks straps).efu.entries profileLostKey
      = if s.pst.nv.cut.profileLost then [⟨profileLostKey, 0, 0, 1, false⟩] else [] := by
  unfold State.startBlocks
  simp only
  split
  · rw [Efu.entries, State.recordFault_appends _ _ (by simp [Efu.reset]) (by simp [Efu.reset])]
    rfl
  · rfl

/-- Lost totals leave the profile's entry alone. -/
theorem State.powerOn_keepsKey (straps : PerPort StrapPair) (s : State) :
    KeepsKey profileLostKey (s.startBlocks straps) (s.powerOn straps) := by
  unfold State.powerOn
  simp only
  split
  · exact State.noteFault_keepsKey false ⟨.totalizer, .totalsLost⟩ profileLostKey
      ((s.startBlocks straps).setTot _) (by decide)
  · rfl

theorem State.powerOn_storeStarted (straps : PerPort StrapPair) (s : State) : StoreStarted s.pst.nv (s.powerOn straps) := by
  obtain ⟨running, _⟩ := s.startBlocks_measurement straps
  obtain ⟨power, _⟩ := s.powerOn_started straps
  obtain ⟨_, store, _⟩ := s.startBlocks_books straps
  refine ⟨power.trans running, ?_, Eq.trans (s.powerOn_keepsKey straps) (s.startBlocks_lost straps)⟩
  rw [State.powerOn_pst, store]
  rfl

theorem State.endReset_storeStarted (straps : PerPort StrapPair) (s : State) : StoreStarted s.pst.nv (s.endReset straps) := by
  obtain ⟨running, _⟩ := s.startBlocks_measurement straps
  obtain ⟨power, _⟩ := s.endReset_started straps
  obtain ⟨_, store, _⟩ := s.startBlocks_books straps
  refine ⟨power.trans running, ?_, s.startBlocks_lost straps⟩
  unfold State.endReset
  simp only
  rw [State.queueCheckpoint_pst, State.setTot_pst, store, Nv.cut_eq]
  rfl

theorem afterStart_of_store (straps : PerPort StrapPair) (s : State) (post : State → Prop)
    (h : ∀ t, StoreStarted s.pst.nv t → post t) : AfterStart s straps post := by
  have power := s.powerOn_storeStarted straps
  have ended := s.endReset_storeStarted straps
  refine ⟨⟨_, rfl, power.power, h _ power⟩, fun held => ⟨s.endReset straps, ?_, ended.power, h _ ended⟩⟩
  show Host.Outcome.next (match s.power with | .held => s.endReset straps | .off | .running => s) = _
  rw [held]

/-- Settles O11: a start loads the stored profile or the default, and a RESTART leaves the store. -/
theorem storeAfterReset : Obligations.StoreAfterReset := by
  unfold Obligations.StoreAfterReset
  intro straps p s
  refine ⟨afterStart_of_store straps s _ fun t ⟨_, store, lost⟩ => ?_, ⟨s.powerOn straps, rfl, ?_⟩,
    afterRestart_of p s _ rfl⟩
  · have loaded : t.pst.active = s.pst.nv.cut.storedProfile.getD Profile.default := by rw [store]; rfl
    have region : s.pst.nv.cut.profileRegion = profileAfterCut s.pst.nv := by rw [Nv.cut_eq]
    rw [← region]
    refine ⟨by rw [store]; rfl, by rw [store]; rfl, by rw [store]; rfl, ?_, ?_, ?_, fun x held loadable => ?_,
      fun unloadable => ?_⟩
    · rw [store, Nv.cut_eq]
    · rw [store]
    · rw [store, Nv.cut_eq]
    · have stored := s.pst.nv.cut.storedProfile_loadable x held loadable
      rw [Nv.profileLost, stored] at lost
      rw [loaded, stored]
      exact ⟨rfl, (Efu.entries_eq_nil _ _).1 lost⟩
    · have stored := s.pst.nv.cut.storedProfile_none unloadable
      rw [Nv.profileLost, stored] at lost
      rw [loaded, stored]
      refine ⟨rfl, Profile.default_isDefault, ((Efu.mem_entries profileLostKey t.efu _).1 ?_).1⟩
      rw [lost]
      exact List.mem_singleton_self _
  · obtain ⟨_, store, _⟩ := s.startBlocks_books straps
    rw [State.powerOn_pst, store, Nv.cut_eq]
    rfl

end Sys2Proof.Machine
end

section
/-!
SUPPORT. The fault map and the statistics counters within their bounds: what a count, a recording and a removal keep of
them (R158 to R164).
-/

namespace Sys2Proof.Machine

open Sys2Proof.Claim

/-! ### The counters (R164) -/

/-- A counter stands, or counts on by some number. -/
def CountsOn (x y : Nat) : Prop := y = x ∨ ∃ k, y = satAdd x k

@[simp] theorem CountsOn.refl (x : Nat) : CountsOn x x := .inl rfl

@[simp] theorem CountsOn.adding (x k : Nat) : CountsOn x (satAdd x k) := .inr ⟨k, rfl⟩

@[simp] theorem CountsOn.ite (q : Prop) [Decidable q] (x k : Nat) : CountsOn x (if q then satAdd x k else x) := by
  split
  · exact .adding x k
  · exact .refl x

theorem CountsOn.lt {x y : Nat} (h : CountsOn x y) (fits : x < 2 ^ 32) : y < 2 ^ 32 := by
  rcases h with rfl | ⟨k, rfl⟩
  · exact fits
  · exact (Nat.min_le_right _ _).trans_lt (by decide)

/-- Each of the 37 counters stands or counts on. -/
def Counted (c d : Stats) : Prop := List.Forall₂ CountsOn c.toList d.toList

theorem Counted.lt {c d : Stats} (h : Counted c d) (fits : ∀ x ∈ c.toList, x < 2 ^ 32) :
    ∀ y ∈ d.toList, y < 2 ^ 32 := by
  unfold Counted at h
  generalize c.toList = l at h fits
  generalize d.toList = m at h
  induction h with
  | nil => exact fits
  | cons counted _ ih =>
    rw [List.forall_mem_cons] at fits ⊢
    exact ⟨counted.lt fits.1, ih fits.2⟩

/-- The counters one by one, in the order of R164. -/
@[simp] theorem counted_iff (c d : Stats) : Counted c d ↔ CountsOn c.windowsClosed d.windowsClosed
    ∧ CountsOn c.completed d.completed ∧ CountsOn c.skipped d.skipped ∧ CountsOn c.discardedLate d.discardedLate
    ∧ CountsOn c.unformable d.unformable ∧ CountsOn c.recCorrelated d.recCorrelated ∧ CountsOn c.recSlug d.recSlug
    ∧ CountsOn c.recHeld d.recHeld ∧ CountsOn c.recLost d.recLost
    ∧ (∀ k, CountsOn (c.valid.get k) (d.valid.get k))
    ∧ CountsOn c.slugsCreated d.slugsCreated ∧ CountsOn c.slugsCompleted d.slugsCompleted
    ∧ CountsOn c.stale d.stale ∧ CountsOn c.evicted d.evicted ∧ CountsOn c.unmatched d.unmatched
    ∧ CountsOn c.runts d.runts ∧ CountsOn c.long d.long ∧ CountsOn c.departedDropped d.departedDropped
    ∧ CountsOn c.occupancy d.occupancy ∧ CountsOn c.transitSum d.transitSum
    ∧ CountsOn c.transitCount d.transitCount
    ∧ (∀ r, CountsOn (c.substituted.get r) (d.substituted.get r))
    ∧ (∀ r, CountsOn (c.saturated.get r) (d.saturated.get r))
    ∧ (∀ p, CountsOn (c.checkErrors.get p) (d.checkErrors.get p))
    ∧ ∀ p, CountsOn (c.overruns.get p) (d.overruns.get p) := by
  have slots {m : Slot → Prop} : (∀ k, m k) ↔ m .s0 ∧ m .s1 ∧ m .s2 :=
    ⟨fun h => ⟨h _, h _, h _⟩, fun ⟨a, b, c⟩ k => by cases k <;> assumption⟩
  have rings {m : Ring → Prop} : (∀ r, m r) ↔ m .a ∧ m .b ∧ m .c ∧ m .d :=
    ⟨fun h => ⟨h _, h _, h _, h _⟩, fun ⟨a, b, c, d⟩ k => by cases k <;> assumption⟩
  have ports {m : Port → Prop} : (∀ p, m p) ↔ m .p1 ∧ m .p2 ∧ m .p3 :=
    ⟨fun h => ⟨h _, h _, h _⟩, fun ⟨a, b, c⟩ k => by cases k <;> assumption⟩
  simp only [Counted, Stats.toList, PerSlot.toList, PerRing.toList, PerPort.toList, List.cons_append,
    List.nil_append, List.forall₂_cons, List.Forall₂.nil, and_true, slots, rings, ports, and_assoc, PerSlot.get,
    PerRing.get, PerPort.get]

theorem Stats.countFrame_counted (p : Profile) (fr : Frame) (c : Stats) : Counted c (c.countFrame p fr) := by
  simp [Stats.countFrame]

theorem Stats.countCompletion_counted (rs : PerSlot (Option PairResult)) (c : Stats) :
    Counted c (c.countCompletion rs) := by
  simp [Stats.countCompletion]

theorem Stats.countRecord_counted (st : VelStatus) (c : Stats) : Counted c (c.countRecord st) := by
  cases st <;> simp [Stats.countRecord]

theorem PerPort.countsOn_set (p q : Port) (c : PerPort Nat) :
    CountsOn (c.get q) ((c.set p (satAdd (c.get p) 1)).get q) := by
  rw [PerPort.get_set]
  split
  · next same => rw [same]; exact .adding _ 1
  · exact .refl _

/-! ### The entries of the fault map (R158) -/

/-- An entry is counted from 1 to 65,535, and active only for a condition kind. -/
structure FaultEntry.Fits (e : FaultEntry) : Prop where
  least : 1 ≤ e.occurrences
  most : e.occurrences ≤ 65535
  kind : e.active = true → e.key.kind.isCondition = true

theorem FaultKind.isCondition_iff (k : FaultKind) : k.isCondition = true
    ↔ k ∈ [FaultKind.sampleSaturated, .sampleMissing, .signalFlat, .carrierDrift, .clockFallback] := by
  cases k <;> decide

/-- The fault map and the counters, of the blocks they rest on. -/
structure ReportsFit (faults : List FaultEntry) (stats : Stats) : Prop where
  capacity : faults.length ≤ 12
  distinct : (faults.map (·.key)).Nodup
  entries : ∀ e ∈ faults, e.Fits
  counters : ∀ c ∈ stats.toList, c < 2 ^ 32

theorem reportsAgree_iff (s : State) : ReportsAgree s ↔ ReportsFit s.efu.faults s.efu.stats := by
  have entry (e : FaultEntry) : e.Fits ↔ 1 ≤ e.occurrences ∧ e.occurrences ≤ 65535
      ∧ (e.active = true → e.key.kind ∈ [FaultKind.sampleSaturated, .sampleMissing, .signalFlat, .carrierDrift,
        .clockFallback]) := by
    rw [← FaultKind.isCondition_iff]
    exact ⟨fun ⟨a, b, c⟩ => ⟨a, b, c⟩, fun ⟨a, b, c⟩ => ⟨a, b, c⟩⟩
  simp only [ReportsAgree, ← entry]
  exact ⟨fun ⟨a, b, c, d⟩ => ⟨a, b, c, d⟩, fun ⟨a, b, c, d⟩ => ⟨a, b, c, d⟩⟩

section
variable {faults : List FaultEntry} {stats : Stats} (h : ReportsFit faults stats)
include h

theorem ReportsFit.counted {d : Stats} (counts : Counted stats d) : ReportsFit faults d :=
  ⟨h.capacity, h.distinct, h.entries, counts.lt h.counters⟩

/-- Entries that change under their keys. -/
theorem ReportsFit.map {f : FaultEntry → FaultEntry} (key : ∀ e, (f e).key = e.key)
    (fits : ∀ e, e.Fits → (f e).Fits) : ReportsFit (faults.map f) stats where
  capacity := by rw [List.length_map]; exact h.capacity
  distinct := by
    rw [List.map_map]
    simpa only [Function.comp_def, key] using h.distinct
  entries := by
    rintro _ mem
    obtain ⟨e, he, rfl⟩ := List.mem_map.1 mem
    exact fits e (h.entries e he)
  counters := h.counters

theorem ReportsFit.filter (p : FaultEntry → Bool) : ReportsFit (faults.filter p) stats where
  capacity := (List.length_filter_le _ _).trans h.capacity
  distinct := h.distinct.sublist (List.filter_sublist.map _)
  entries e mem := h.entries e (List.mem_filter.1 mem).1
  counters := h.counters

theorem ReportsFit.append {e : FaultEntry} (room : faults.length < 12) (new : ∀ x ∈ faults, x.key ≠ e.key)
    (fits : e.Fits) : ReportsFit (faults ++ [e]) stats where
  capacity := by
    rw [List.length_append]
    exact room
  distinct := by
    rw [List.map_append, List.map_singleton]
    refine h.distinct.append (List.nodup_singleton _) (List.disjoint_singleton.2 fun held => ?_)
    obtain ⟨x, hx, same⟩ := List.mem_map.1 held
    exact new x hx same
  entries x mem := by
    rcases List.mem_append.1 mem with old | added
    · exact h.entries x old
    · rw [List.mem_singleton.1 added]
      exact fits
  counters := h.counters

/-- Cleared counters (R166). -/
theorem ReportsFit.zero : ReportsFit faults Stats.zero := ⟨h.capacity, h.distinct, h.entries, by decide⟩

end

/-- An empty fault map and counters of 0 (R167). -/
theorem ReportsFit.reset : ReportsFit [] Stats.zero := ⟨by decide, List.nodup_nil, nofun, by decide⟩

/-! ### What is kept -/

/-- From `s` to `t` the fault map and the counters stay within their bounds; work on other blocks keeps this by
definition. -/
def KeepsReports (s t : State) : Prop := ReportsFit s.efu.faults s.efu.stats → ReportsFit t.efu.faults t.efu.stats

theorem KeepsReports.refl (s : State) : KeepsReports s s := id

theorem KeepsReports.trans {s t u : State} (h : KeepsReports s t) (g : KeepsReports t u) : KeepsReports s u := g ∘ h

theorem KeepsReports.of_same {s t : State} (faults : t.efu.faults = s.efu.faults) (stats : t.efu.stats = s.efu.stats) :
    KeepsReports s t := fun h => by rwa [faults, stats]

/-- What leaves the event and fault unit alone may come first. -/
theorem KeepsReports.after {s t u : State} (g : KeepsReports t u) (h : t.efu = s.efu) : KeepsReports s u :=
  KeepsReports.trans (.of_same (by rw [h]) (by rw [h])) g

theorem OnlyEvents.keepsReports {s t : State} (h : OnlyEvents s t) : KeepsReports s t := .of_same h.faults h.stats

theorem State.post_keepsReports (k : EventKind) (s : State) : KeepsReports s (s.post k) := (s.post_only k).keepsReports

theorem State.count_keepsReports (f : Stats → Stats) (s : State) (h : Counted s.efu.stats (f s.efu.stats)) :
    KeepsReports s (s.count f) := fun fit => fit.counted h

/-- An entry that counts on, or a report that its condition held (R159, R160). -/
theorem FaultEntry.noted_fits (w : Index) (active : Bool) (e : FaultEntry)
    (kind : active = true → e.key.kind.isCondition = true) : (e.noted w active).Fits :=
  ⟨Nat.le_min.2 ⟨Nat.le_add_left 1 _, by decide⟩, Nat.min_le_right _ _, kind⟩

/-- A recording keeps the bounds: it stops at 65,535 occurrences and at 12 entries, and leaves an entry active only for
a condition (R159 to R161). -/
theorem State.noteFault_keepsReports (active : Bool) (key : FaultKey) (s : State)
    (kind : active = true → key.kind.isCondition = true) : KeepsReports s (s.noteFault active key) := by
  intro h
  rw [State.noteFault_stats]
  rcases s.noteFault_cases active key with ⟨_, eq⟩ | ⟨absent, room, eq⟩ | ⟨_, _, eq⟩ <;> rw [eq]
  · refine h.map (fun e => by split <;> rfl) fun e fits => ?_
    split
    · next same => exact e.noted_fits _ active (same ▸ kind)
    · exact fits
  · refine h.append room (fun x hx same => ?_) ⟨le_rfl, Nat.le_of_ble_eq_true rfl, kind⟩
    have held : s.efu.holdsKey key = true := List.any_eq_true.2 ⟨x, hx, beq_iff_eq.2 same⟩
    exact absurd (absent.symm.trans held) (by decide)
  · rwa [s.markFull_faults]

theorem State.recordFault_keepsReports (key : FaultKey) (s : State) : KeepsReports s (s.recordFault key) :=
  s.noteFault_keepsReports false key nofun

/-! ### The recordings of a boundary (R160) -/

/-- A condition is reported under a condition kind. -/
def Note.Fits (x : Note) : Prop := x.2 ≠ none → x.1.kind.isCondition = true

theorem State.takeNote_keepsReports (x : Note) (s : State) (fits : Note.Fits x) : KeepsReports s (s.takeNote x) := by
  obtain ⟨key, _ | _ | _⟩ := x
  · exact s.recordFault_keepsReports key
  · intro h
    refine h.map (fun e => by split <;> rfl) fun e fits => ?_
    split
    · exact ⟨fits.least, fits.most, nofun⟩
    · exact fits
  · exact s.noteFault_keepsReports true key fun _ => fits nofun

theorem State.takeNotes_keepsReports (n : Nat) (l : List Note) (s : State) (fits : ∀ x ∈ l, Note.Fits x) :
    KeepsReports s (s.takeNotes n l) := by
  obtain ⟨order, perm, eq⟩ := s.takeNotes_eq_foldl n l
  rw [eq]
  replace fits : ∀ x ∈ order, Note.Fits x := fun x hx => fits x (perm.mem_iff.1 hx)
  clear eq perm
  induction order generalizing s with
  | nil => exact .refl s
  | cons x order ih =>
    rw [List.forall_mem_cons] at fits
    exact (s.takeNote_keepsReports x fits.1).trans (ih _ fits.2)

theorem State.driftNote_fits (s : State) : Note.Fits s.driftNote := fun _ => rfl

theorem boundaryNotes_fits (p : Profile) (closing settled : Sfe) (late : Bool) :
    ∀ x ∈ boundaryNotes p closing settled late, Note.Fits x := by
  have rings : ∀ x ∈ Ring.all.flatMap (ringReports p closing), x.1.kind.isCondition = true := by
    intro x mem
    obtain ⟨r, _, report⟩ := List.mem_flatMap.1 mem
    simp only [ringReports, List.mem_cons, List.not_mem_nil, or_false] at report
    rcases report with rfl | rfl | rfl <;> rfl
  intro x mem
  simp only [boundaryNotes, List.mem_append, List.mem_map, List.mem_singleton] at mem
  rcases mem with (⟨y, hy, rfl⟩ | rfl) | mem
  · exact fun _ => rings y hy
  · exact fun _ => rfl
  · split at mem
    · rw [List.mem_singleton.1 mem]
      exact fun some => absurd rfl some
    · cases mem

end Sys2Proof.Machine
end

section
/-!
SUPPORT. The bounds of the fault map and the counters through a frame, a publication and a boundary: each part counts and
records, and changes the reports in no other way (R8, R48, R73, R160).
-/

namespace Sys2Proof.Machine

open Sys2Proof.Claim

/-! ### The tracker (R48 to R68) -/

theorem State.dropStale_keepsReports (x : SlugRecord) (s : State) : KeepsReports s (s.dropStale x) :=
  s.count_keepsReports (fun c => { c with stale := satAdd c.stale 1 }) (by simp)

theorem State.timeSlug_keepsReports (dist transit : Nat) (s : State) : KeepsReports s (s.timeSlug dist transit) :=
  s.count_keepsReports (fun c => { c with
    slugsCompleted := satAdd c.slugsCompleted 1
    transitSum := satAdd c.transitSum transit
    transitCount := satAdd c.transitCount 1 }) (by simp)

theorem State.depart_keepsReports (x : SlugRecord) (last : Index) (vs : Nat) (s : State) :
    KeepsReports s (s.depart x last vs) := by
  unfold State.depart
  refine KeepsReports.trans ?_ (State.post_keepsReports _ _)
  exact (State.count_keepsReports _ _ (by simp)).after rfl

theorem State.completeSlug_keepsReports (x : SlugRecord) (s : State) : KeepsReports s (s.completeSlug x) := by
  rcases s.completeSlug_cases x with eq | eq | ⟨dist, transit, eq | ⟨last, vs, eq⟩⟩ <;> rw [eq]
  · exact .refl s
  · exact s.count_keepsReports _ (by simp)
  · exact s.timeSlug_keepsReports dist transit
  · exact (s.timeSlug_keepsReports dist transit).trans (State.depart_keepsReports _ _ _ _)

theorem State.arrive_keepsReports (q : SlugRecord → Bool) (x : SlugRecord) (r : Ring) (onset : Index) (s : State) :
    KeepsReports s (s.arrive q x r onset) := by
  unfold State.arrive
  simp only
  split
  · exact .refl s
  · exact (State.completeSlug_keepsReports _ _).after rfl

theorem State.createRecord_keepsReports (r next : Ring) (onset : Index) (peak width : Nat) (s : State) :
    KeepsReports s (s.createRecord r next onset peak width) := by
  unfold State.createRecord
  exact (State.count_keepsReports _ _ (by simp)).after rfl

theorem State.detection_keepsReports (r : Ring) (onset : Index) (peak width : Nat) (s : State) :
    KeepsReports s (s.detection r onset peak width) := by
  rcases s.detection_cases r onset peak width with ⟨x, _, eq⟩ | ⟨_, ⟨_, ⟨next, _, eq⟩ | ⟨_, eq⟩⟩ | ⟨_, eq⟩⟩ <;> rw [eq]
  · exact (State.arrive_keepsReports _ _ _ _ _).after rfl
  · exact (State.createRecord_keepsReports _ _ _ _ _ _).after rfl
  · exact .refl s
  · have counted (u : State) : KeepsReports u (u.count fun c => { c with unmatched := satAdd c.unmatched 1 }) :=
      u.count_keepsReports _ (by simp)
    exact (counted _).after rfl

theorem State.trackRing_keepsReports (i : Index) (r : Ring) (s : State) : KeepsReports s (s.trackRing i r) := by
  unfold State.trackRing
  split
  · simp only
    split
    · exact .refl s
    · exact (State.count_keepsReports _ _ (by simp)).after rfl
    · exact (State.count_keepsReports _ _ (by simp)).after rfl
    · exact (State.detection_keepsReports _ _ _ _ _).after rfl
  · exact .refl s

theorem State.framed_keepsReports (fr : Frame) (s : State) : KeepsReports s (s.framed fr) := by
  have stored : KeepsReports s (s.storeFrame fr) :=
    State.count_keepsReports _ (s.setSfe _) (Stats.countFrame_counted _ _ _)
  exact stored.trans (foldl_keeps KeepsReports.refl KeepsReports.trans
    (fun s r => State.trackRing_keepsReports s.sfe.lastIndex r s) _ _)

theorem State.staleSweep_keepsReports (i : Index) (s : State) : KeepsReports s (s.staleSweep i) := by
  unfold State.staleSweep
  exact KeepsReports.after (foldl_keeps KeepsReports.refl KeepsReports.trans
    (fun s x => State.dropStale_keepsReports x s) _ _) rfl

theorem reAimList_keepsReports (l : List SlugRecord) (s : State) : KeepsReports s (reAimList l s).2 := by
  induction l generalizing s with
  | nil => exact .refl s
  | cons x l ih =>
    unfold reAimList
    split
    · split
      · exact ih s
      · split
        · exact (s.dropStale_keepsReports x).trans (ih _)
        · exact (s.completeSlug_keepsReports x).trans (ih _)
    · exact ih s

theorem State.trackerBoundary_keepsReports (changed : Bool) (s : State) : KeepsReports s (s.trackerBoundary changed) := by
  have armed : KeepsReports s s.armFailed := .refl s
  have aimed (u : State) : KeepsReports u u.reAim := reAimList_keepsReports _ u
  have adjusted (u : State) : KeepsReports u (u.adjustThresholds changed) := .refl u
  have expired (i : Index) (u : State) : KeepsReports u (u.expireDeparted i) := .refl u
  have counted (u : State) : KeepsReports u u.addOccupancy := by
    unfold State.addOccupancy
    exact u.count_keepsReports _ (by simp)
  unfold State.trackerBoundary
  exact (((((armed.trans (State.staleSweep_keepsReports _ _)).trans (aimed _)).trans (adjusted _)).trans
    (expired _ _)).trans (counted _))

theorem State.trackerWork_keepsReports (old : Profile) (geometry : Bool) (s : State) :
    KeepsReports s (s.trackerWork old geometry) := by
  have rescaled (u : State) : KeepsReports u (u.trackerGeometry old) := .refl u
  unfold State.trackerWork
  simp only
  split
  · exact (s.trackerBoundary_keepsReports _).trans (rescaled _)
  · exact s.trackerBoundary_keepsReports _

/-! ### A publication and a completion (R44, R73) -/

theorem State.creditPulse_keepsReports (k : Nat) (s : State) : KeepsReports s (s.creditPulse k) := by
  unfold State.creditPulse
  simp only
  split
  · exact .refl s
  · split
    · refine KeepsReports.trans ?_ (State.recordFault_keepsReports _ _)
      exact (State.post_keepsReports _ _).after rfl
    · exact .refl s

theorem State.publish_keepsReports (w : Index) (rs : PerSlot (Option PairResult)) (s : State) :
    KeepsReports s (s.publish w rs) := by
  have solved : KeepsReports s (s.solve w rs) := fun fit => fit.counted (Stats.countRecord_counted _ _)
  have announced := solved.trans (s.announce_only (s.solve w rs)).keepsReports
  have guarded (u : State) : KeepsReports u u.guardStep := u.guardStep_blocks.keepsReports
  have integrated (u : State) : KeepsReports u u.integrateRecord := by
    refine (State.creditPulse_keepsReports _ _).after ?_
    rw [State.countPublication_efu]
    rfl
  rw [State.publish_steps]
  exact (announced.trans (guarded _)).trans (integrated _)

theorem State.complete_keepsReports (c : Option InFlight) (w : Index) (rs : PerSlot (Option PairResult)) (s : State) :
    KeepsReports s (s.complete c w rs) := by
  have results : KeepsReports s (s.publishResults w rs) := fun fit => fit.counted (Stats.countCompletion_counted _ _)
  exact (results.trans (State.captureCompletion_only c _).keepsReports).trans (State.publish_keepsReports _ _ _)

/-! ### A boundary (R8) -/

theorem State.moveCorrelator_keepsReports (s : State) : KeepsReports s s.moveCorrelator := by
  have rebuilt : KeepsReports s s.rebuildTable := by
    unfold State.rebuildTable
    exact (State.count_keepsReports _ _ (by simp)).after rfl
  have begun (u : State) : KeepsReports u u.beginCorrelation := by
    unfold State.beginCorrelation
    split <;> exact .refl u
  refine rebuilt.trans ?_
  unfold State.moveCorrelator
  rcases s.rebuildTable.correlatorBoundary_cases with ⟨_, eq⟩ | ⟨f, _, eq⟩ | ⟨f, _, eq⟩ <;> rw [eq]
  · exact begun _
  · exact (State.count_keepsReports _ _ (by simp)).after rfl
  · exact (State.count_keepsReports _ _ (by simp)).trans (begun _)

theorem State.boundaryCore_keepsReports (s : State) : KeepsReports s s.boundaryCore := by
  have closed : KeepsReports s s.windowClosed := fun fit => fit.counted (by simp [State.windowClosed])
  have applied := s.closedWindow.applyPending_applied s.freeCount
  exact ((closed.trans s.closedWindow_only.keepsReports).trans (.of_same applied.faults applied.stats)).trans
    (State.moveCorrelator_keepsReports _)

theorem State.applyClearIfPending_keepsReports (s : State) : KeepsReports s s.applyClearIfPending := by
  unfold State.applyClearIfPending
  split
  · unfold State.applyClear
    exact (State.post_keepsReports _ _).after rfl
  · exact .refl s

section
variable (n : Nat) (old : Profile) (notes : List Note) (fits : ∀ x ∈ notes, Note.Fits x) (s : State)
include fits

theorem State.notesTaken_keepsReports (p : Note → Bool) :
    KeepsReports s (s.takeNotes n ((s.driftNote :: notes).filter p)) :=
  s.takeNotes_keepsReports n _ fun x mem =>
    List.forall_mem_cons.2 ⟨s.driftNote_fits, fits⟩ x (List.mem_filter.1 mem).1

theorem State.finishBoundary_keepsReports (geometry : Bool) :
    KeepsReports s (s.finishBoundary n old geometry notes) :=
  ((s.trackerWork_keepsReports old geometry).trans (State.applyClearIfPending_keepsReports _)).trans
    (State.takeNotes_keepsReports n _ _ (List.forall_mem_cons.2 ⟨State.driftNote_fits _, fits⟩))

theorem State.finishWithCompletion_keepsReports : KeepsReports s (s.finishWithCompletion n old notes) := by
  have tracked (u : State) := u.trackerWork_keepsReports old false
  have before : KeepsReports s (s.beforePublication n old) := by
    unfold State.beforePublication
    simp only
    split <;> split
    · exact (tracked s).trans (State.applyClearIfPending_keepsReports _)
    · exact s.applyClearIfPending_keepsReports
    · exact tracked s
    · exact .refl s
  have published (u : State) : KeepsReports u (u.publicationOn n old) := by
    have completed : KeepsReports u u.completeWithoutPairs := u.complete_keepsReports _ _ _
    unfold State.publicationOn
    refine KeepsReports.trans ?_ (State.applyClearIfPending_keepsReports _)
    split
    · exact completed
    · exact completed.trans (tracked _)
  have noted (u : State) := u.notesTaken_keepsReports n notes fits
  rw [State.finishWithCompletion_eq]
  exact ((before.trans (noted _ _)).trans (published _)).trans (noted _ _)

end

theorem State.boundary_keepsReports (s : State) : KeepsReports s s.boundary := by
  have fits : ∀ x ∈ s.notesAtBoundary, Note.Fits x := boundaryNotes_fits _ _ _ _
  refine s.boundaryCore_keepsReports.trans ?_
  rcases s.boundary_cases with ⟨_, eq⟩ | ⟨_, eq⟩ <;> rw [eq]
  · exact State.finishBoundary_keepsReports _ _ _ fits _ _
  · exact State.finishWithCompletion_keepsReports _ _ _ fits _

end Sys2Proof.Machine
end

section
/-!
PROOFS. ReportsAgreeKept: the bounds of the fault map and the counters through the answers of the requests, the events of the
ports and the starts, and so through every step (R158 to R164, R167).
-/

namespace Sys2Proof.Machine

open Sys2Proof.Claim

/-! ### The answers of the requests (R134 to R176, R191) -/

theorem State.answerAttention_keepsReports (p : Port) (e : EventSet) (th : Byte) (s : State) :
    KeepsReports s (s.answerAttention p e th).state := by
  unfold State.answerAttention
  split <;> exact .refl s

theorem State.afterTimeLeft_keepsReports (s : State) : KeepsReports s s.afterTimeLeft := by
  unfold State.afterTimeLeft
  split <;> exact .refl s

theorem State.answerOpen_keepsReports (p : Port) (s : State) : KeepsReports s (s.answerOpen p).state := by
  unfold State.answerOpen
  split
  · exact .refl s
  · split
    · exact .refl s
    · exact s.afterTimeLeft_keepsReports

theorem State.fieldAnswer_keepsReports (st : Status) (field : Byte) (s : State) :
    KeepsReports s (s.fieldAnswer st field).state := by
  unfold State.fieldAnswer
  simp only
  split <;> exact .refl s

theorem State.answerWrite_keepsReports (p : Port) (field : Byte) (value : BitVec 32) (s : State) :
    KeepsReports s (s.answerWrite p field value).state := by
  unfold State.answerWrite
  split
  · exact s.fieldAnswer_keepsReports _ _
  · split
    · exact s.fieldAnswer_keepsReports _ _
    · split
      · exact s.fieldAnswer_keepsReports _ _
      · exact (State.fieldAnswer_keepsReports _ _ _).after rfl

theorem State.answerRead_keepsReports (field slot : Byte) (s : State) :
    KeepsReports s (s.answerRead field slot).state := by
  unfold State.answerRead
  split
  · exact .refl s
  · split
    · exact s.afterTimeLeft_keepsReports
    · split
      · exact s.afterTimeLeft_keepsReports
      · exact .refl s

theorem State.answerCommit_keepsReports (p : Port) (s : State) : KeepsReports s (s.answerCommit p).state := by
  unfold State.answerCommit
  split
  · exact .refl s
  · split
    · exact .refl s
    · split
      · exact .refl s
      · split <;> exact .refl s

theorem State.answerDrop_keepsReports (p : Port) (s : State) : KeepsReports s (s.answerDrop p).state := by
  unfold State.answerDrop
  split
  · exact .refl s
  · split <;> exact .refl s

theorem State.answerClearTotals_keepsReports (p : Port) (s : State) : KeepsReports s (s.answerClearTotals p).state := by
  unfold State.answerClearTotals
  simp only
  split <;> exact .refl s

theorem State.answerRelease_keepsReports (s : State) : KeepsReports s s.answerRelease.state := by
  unfold State.answerRelease
  simp only
  split <;> exact .refl s

theorem State.answerFlushBegin_keepsReports (s : State) : KeepsReports s s.answerFlushBegin.state := by
  unfold State.answerFlushBegin
  split <;> exact .refl s

theorem State.answerFlushEnd_keepsReports (s : State) : KeepsReports s s.answerFlushEnd.state := by
  unfold State.answerFlushEnd
  split
  · simp only
    split
    · exact .refl s
    · exact (State.recordFault_keepsReports _ _).after rfl
  · exact .refl s

theorem State.answerArm_keepsReports (p : Port) (content which trigger : Byte) (s : State) :
    KeepsReports s (s.answerArm p content which trigger).state := by
  unfold State.answerArm
  split
  · exact .refl s
  · split
    · exact .refl s
    · simp only [State.arm]
      split
      · exact (State.triggerCapture_only _).keepsReports.after rfl
      · exact .refl s

theorem State.answerReleaseCapture_keepsReports (p : Port) (s : State) :
    KeepsReports s (s.answerReleaseCapture p).state := by
  unfold State.answerReleaseCapture
  split
  · exact .refl s
  · split <;> exact .refl s

/-- The active entries stay (R162). -/
theorem State.answerClearFaults_keepsReports (s : State) : KeepsReports s s.answerClearFaults.state :=
  fun fit => fit.filter _

theorem State.dispatch_keepsReports (p : Port) (code : Nat) (payload : List Byte) (s : State) :
    KeepsReports s (s.dispatch p code payload).state := by
  unfold State.dispatch
  split
  · exact .refl s
  · exact .refl s
  · exact .refl s
  · rw [State.answerSlugs_state]; exact .refl s
  · exact .refl s
  · exact .refl s
  · exact .refl s
  · exact .refl s
  · exact .refl s
  · exact .refl s
  · exact s.answerAttention_keepsReports _ _ _
  · exact s.answerOpen_keepsReports _
  · exact s.answerWrite_keepsReports _ _ _
  · exact s.answerRead_keepsReports _ _
  · exact s.answerCommit_keepsReports _
  · exact s.answerDrop_keepsReports _
  · exact s.answerClearTotals_keepsReports _
  · exact s.answerRelease_keepsReports
  · exact s.answerFlushBegin_keepsReports
  · exact s.answerFlushEnd_keepsReports
  · exact .refl s
  · exact s.answerArm_keepsReports _ _ _ _
  · rw [State.answerReadCapture_state]; exact .refl s
  · exact s.answerReleaseCapture_keepsReports _
  · exact s.answerClearFaults_keepsReports
  · exact ReportsFit.zero
  · exact .refl s

/-! ### The ports (R180 to R185) -/

theorem State.countOverrun_keepsReports (p : Port) (s : State) : KeepsReports s (s.countOverrun p) :=
  s.count_keepsReports _ (by simp [PerPort.countsOn_set])

theorem State.dropFrame_keepsReports (p : Port) (s : State) : KeepsReports s (s.dropFrame p) := by
  have counted : KeepsReports s (s.countCheckError p) := s.count_keepsReports _ (by simp [PerPort.countsOn_set])
  exact counted

theorem State.overrunFrame_keepsReports (p : Port) (s : State) : KeepsReports s (s.overrunFrame p) :=
  s.countOverrun_keepsReports p

theorem State.request_keepsReports (p : Port) (echo : Byte) {h : State → Answer} {s : State}
    (answered : KeepsReports s (h s).state) : KeepsReports s (s.request p echo h) := by
  unfold State.request
  split
  · split
    · exact answered
    · exact s.overrunFrame_keepsReports p
    · exact .refl s
  · exact .refl s

theorem State.handle_keepsReports (p : Port) (code : Byte) (payload : List Byte) (s : State) :
    KeepsReports s (s.handle p code payload).state := by
  unfold State.handle
  split
  · exact .refl s
  · split
    · exact s.dispatch_keepsReports _ _ _
    · exact .refl s

theorem State.frameEnds_keepsReports (p : Port) (buf : List Byte) (s : State) : KeepsReports s (s.frameEnds p buf) := by
  unfold State.frameEnds
  split
  · exact s.overrunFrame_keepsReports p
  · split
    · split
      · exact s.handle_keepsReports _ _ _
      · exact s.dropFrame_keepsReports p
    · exact s.dropFrame_keepsReports p

theorem State.receive_keepsReports (p : Port) (x : Byte) (framingError : Bool) (s : State) :
    KeepsReports s (s.receive p x framingError) := by
  unfold State.receive
  simp only
  split
  · exact .refl s
  · split
    · exact .refl s
    · split <;> exact .refl s
    · split
      · exact s.dropFrame_keepsReports p
      · split
        · exact s.dropFrame_keepsReports p
        · split
          · exact s.frameEnds_keepsReports _ _
          · exact .refl s

theorem State.byteTimeout_keepsReports (p : Port) (s : State) : KeepsReports s (s.byteTimeout p) := by
  unfold State.byteTimeout
  split
  · exact s.dropFrame_keepsReports p
  · exact .refl s

theorem State.startResponse_keepsReports (p : Port) (s : State) : KeepsReports s (s.startResponse p) := by
  unfold State.startResponse
  simp only
  split
  · split
    · exact s.countOverrun_keepsReports p
    · exact .refl s
  · exact .refl s

/-! ### The events of a running part -/

theorem State.closeFrame_keepsReports (fr : Frame) (s : State) : KeepsReports s (s.closeFrame fr) := by
  have framed := s.framed_keepsReports fr
  show KeepsReports s (if (s.framed fr).sfe.windowPos = (s.framed fr).active.n then (s.framed fr).boundary
    else s.framed fr)
  split
  · exact framed.trans (State.boundary_keepsReports _)
  · exact framed

theorem State.takeReply_keepsReports (r : Ring) (x : Reply) (s : State) : KeepsReports s (s.takeReply r x) := by
  unfold State.takeReply
  split
  · exact .refl s
  · split
    · simp only
      split
      · exact s.closeFrame_keepsReports _
      · exact .refl s
    · exact .refl s

theorem State.takeDeadline_keepsReports (s : State) : KeepsReports s s.takeDeadline := by
  unfold State.takeDeadline
  split
  · exact .refl s
  · exact s.closeFrame_keepsReports _

theorem State.completeCorrelation_keepsReports (s : State) : KeepsReports s s.completeCorrelation := by
  unfold State.completeCorrelation
  split
  · exact .refl s
  · exact s.complete_keepsReports _ _ _

theorem State.expireClaim_keepsReports (s : State) : KeepsReports s s.expireClaim := by
  unfold State.expireClaim
  split
  · exact (State.post_keepsReports _ _).after rfl
  · exact .refl s

theorem State.reachExpiry_keepsReports (s : State) : KeepsReports s s.reachExpiry := by
  unfold State.reachExpiry
  split
  · split <;> exact .refl s
  · exact .refl s

theorem State.nvComplete_keepsReports (agrees : Bool) (s : State) : KeepsReports s (s.nvComplete agrees) := by
  unfold State.nvComplete
  split
  · exact .refl s
  · split
    · exact .refl s
    · refine KeepsReports.trans ?_ (State.post_keepsReports _ _)
      exact (State.recordFault_keepsReports _ _).after rfl

theorem State.copyEnds_keepsReports (s : State) : KeepsReports s s.copyEnds := by
  unfold State.copyEnds
  split
  · exact (s.completeCapture_only _).keepsReports
  · exact .refl s

theorem State.crystalFails_keepsReports (s : State) : KeepsReports s s.crystalFails := by
  unfold State.crystalFails
  split
  · exact (State.post_keepsReports _ _).after rfl
  · exact .refl s

theorem State.strobeFrame_keepsReports (s : State) : KeepsReports s s.strobeFrame := by
  unfold State.strobeFrame
  split <;> exact .refl s

theorem State.tick_keepsReports (s : State) : KeepsReports s s.tick := by
  have claim : KeepsReports s (s.setTimebase (s.timebase + 1)).tickClaim := by
    unfold State.tickClaim
    split
    · split
      · exact (State.expireClaim_keepsReports _).after rfl
      · exact .refl s
    · exact .refl s
  have units (u : State) : KeepsReports u ((u.setSfe u.sfe.tick).setPls (u.pls.tick u.active)) := .refl u
  have port (p : Port) (u : State) : KeepsReports u (u.tickPort p) := by
    unfold State.tickPort
    simp only
    split
    · exact .refl u
    · split
      · exact .refl u
      · exact .refl u
      · split
        · exact u.byteTimeout_keepsReports p
        · exact .refl u
  exact State.whenRunning_of (motive := KeepsReports s) (.refl s)
    ((((claim.trans (units _)).trans (port .p1 _)).trans (port .p2 _)).trans (port .p3 _))

/-! ### The starts, and a part that does not run (R167, R168) -/

/-- A start begins with an empty fault map and records at most what the load has lost. -/
theorem State.startBlocks_reportsFit (straps : PerPort StrapPair) (s : State) :
    ReportsFit (s.startBlocks straps).efu.faults (s.startBlocks straps).efu.stats := by
  unfold State.startBlocks
  simp only
  split
  · exact State.recordFault_keepsReports _ _ .reset
  · exact .reset

theorem State.powerOn_reportsFit (straps : PerPort StrapPair) (s : State) :
    ReportsFit (s.powerOn straps).efu.faults (s.powerOn straps).efu.stats := by
  have started := s.startBlocks_reportsFit straps
  unfold State.powerOn
  simp only
  split
  · exact State.recordFault_keepsReports _ _ started
  · exact started

theorem State.holdReset_keepsReports (s : State) : KeepsReports s s.holdReset := fun fit =>
  ⟨Nat.zero_le 12, List.nodup_nil, nofun, fit.counters⟩

/-! ### Every step -/

theorem exec_keepsReports (i : Instr) (s t : State) (h : exec i s = .next t) : KeepsReports s t := by
  have running {f : State → State} (kept : KeepsReports s (f s)) : KeepsReports s (s.whenRunning f) :=
    State.whenRunning_of (.refl s) kept
  have requested (p : Port) (echo : Byte) {answer : State → Answer} (kept : KeepsReports s (answer s).state) :
      KeepsReports s (s.request p echo answer) := State.request_keepsReports p echo kept
  cases i with
  | powerOnReset straps => cases h; exact fun _ => s.powerOn_reportsFit straps
  | nrstAsserted =>
    cases h
    split
    · exact .refl s
    · exact s.holdReset_keepsReports
    · exact s.holdReset_keepsReports
  | nrstReleased straps =>
    cases h
    split
    · exact fun _ => s.startBlocks_reportsFit straps
    · exact .refl s
    · exact .refl s
  | powerLoss => cases h; exact .refl s
  | frameStrobe => cases h; exact running s.strobeFrame_keepsReports
  | ringReply r code parity => cases h; exact running (s.takeReply_keepsReports _ _)
  | replyDeadline => cases h; exact running s.takeDeadline_keepsReports
  | correlationCompletion => cases h; exact running s.completeCorrelation_keepsReports
  | pulseWidthElapsed | gapElapsed | stableTimeReached | idleGapElapsed p | responseEnd p =>
    cases h
    exact running (.refl s)
  | crystalFailure => cases h; exact running s.crystalFails_keepsReports
  | claimExpiry => cases h; exact running (s.reachExpiry_keepsReports.trans (State.expireClaim_keepsReports _))
  | nvWriteCompletion agrees => cases h; exact running (s.nvComplete_keepsReports agrees)
  | captureCopyCompletion => cases h; exact running s.copyEnds_keepsReports
  | byteReceived p x framingError => cases h; exact running (s.receive_keepsReports p x framingError)
  | interByteTimeout p => cases h; exact running (s.byteTimeout_keepsReports p)
  | responseStart p => cases h; exact running (s.startResponse_keepsReports p)
  | unknownCommand p code =>
    cases h
    split
    · exact .refl s
    · exact requested p code (.refl s)
  | identify p | readFlow p | readPairs p | readDeparted p | readHealth p | readTotals p | readStats p | readFaults p
  | takeEvents p _ | restart p =>
    cases h
    exact requested p _ (.refl s)
  | readSlugs p start => cases h; exact requested p _ (by rw [State.answerSlugs_state]; exact .refl s)
  | setAttention p enable threshold => cases h; exact requested p _ (s.answerAttention_keepsReports _ _ _)
  | openEdit p => cases h; exact requested p _ (s.answerOpen_keepsReports p)
  | writeField p field value => cases h; exact requested p _ (s.answerWrite_keepsReports _ _ _)
  | readField p field slot => cases h; exact requested p _ (s.answerRead_keepsReports _ _)
  | commitEdit p => cases h; exact requested p _ (s.answerCommit_keepsReports p)
  | dropEdit p => cases h; exact requested p _ (s.answerDrop_keepsReports p)
  | clearTotals p => cases h; exact requested p _ (s.answerClearTotals_keepsReports p)
  | guardRelease p => cases h; exact requested p _ s.answerRelease_keepsReports
  | flushBegin p => cases h; exact requested p _ s.answerFlushBegin_keepsReports
  | flushEnd p => cases h; exact requested p _ s.answerFlushEnd_keepsReports
  | armCapture p content which trigger => cases h; exact requested p _ (s.answerArm_keepsReports _ _ _ _)
  | readCapture p offset => cases h; exact requested p _ (by rw [State.answerReadCapture_state]; exact .refl s)
  | releaseCapture p => cases h; exact requested p _ (s.answerReleaseCapture_keepsReports p)
  | clearFaults p => cases h; exact requested p _ s.answerClearFaults_keepsReports
  | clearStats p => cases h; exact requested p _ ReportsFit.zero

/-- Settles O52: every step counts by saturating, and records and reports within the map's room and an entry's range. -/
theorem reportsAgreeKept : Obligations.ReportsAgreeKept := by
  unfold Obligations.ReportsAgreeKept
  intro s t agrees h
  rw [reportsAgree_iff] at agrees ⊢
  unfold step at h
  split at h
  · cases h
    exact s.tick_keepsReports agrees
  · next c rest _ => exact exec_keepsReports c (s.setPending rest) t h agrees

end Sys2Proof.Machine
end

section
/-!
PROOFS. TakeAndSetEvents: the two requests on a port's attention items, their payloads, and the ATN line that follows (R154 to
R156).
-/

namespace Sys2Proof.Machine

open Sys2Proof.Claim

/-! ### A port's attention items (R154, R155) -/

/-- The reports and the capture unit after a request that a port takes are those its handler leaves (R183). -/
theorem State.request_reports {p : Port} {echo : Byte} {h : State → Answer} {s t : State} (free : Free p s)
    (taken : (.next (s.request p echo h) : Result) = .next t) :
    t.efu = (h s).state.efu ∧ t.cap = (h s).state.cap := by
  obtain ⟨running, idle⟩ := free
  rw [s.request_free p echo h running idle] at taken
  cases taken
  exact ⟨rfl, rfl⟩

theorem State.onlyEfu (e : Efu) (s : State) : OnlyChanges [.efu] s (s.setEfu e) := by
  intro b
  cases b <;> simp [Block.Same]

/-- A request that is answered OK with new items of its port: the port's line follows them, and the other ports, the faults
and the counters stand. -/
theorem State.request_attention {p : Port} {s : State} (free : Free p s) (echo : Byte) {h : State → Answer} {l : List Byte}
    {a : Attention} (answer : h s = ⟨.ok, l, s.setAttention p a⟩) :
    ∃ t, (.next (s.request p echo h) : Result) = .next t ∧ OnlyChanges [.efu, .mpt] s t
      ∧ (t.efu.faults = s.efu.faults ∧ t.efu.full = s.efu.full ∧ t.efu.stats = s.efu.stats
        ∧ ∀ q, q ≠ p → t.efu.ports.get q = s.efu.ports.get q)
      ∧ Answered p echo .ok l s t ∧ t.efu.ports.get p = a.drive := by
  obtain ⟨t, taken, only, answered, _⟩ := State.request_answered free echo [.efu] answer (s.onlyEfu _) rfl
  obtain ⟨efu, _⟩ := State.request_reports free taken
  rw [answer] at efu
  refine ⟨t, taken, only, ?_, answered, ?_⟩ <;> rw [efu]
  · exact ⟨rfl, rfl, rfl, fun q other => PerPort.get_set_ne s.efu.ports p q a.drive other⟩
  · exact PerPort.get_set_same _ _ _

/-- A driven line in the words of the statements. -/
theorem Attention.drive_atn_iff (a : Attention) : a.drive.atn = true ↔ driven a.posted a.enable a.threshold :=
  a.qualifies_iff

theorem hasKind_without (posted kinds : EventSet) (k : EventKind) :
    hasKind (posted &&& ~~~kinds) k = (hasKind posted k && !hasKind kinds k) := by
  have inside : k.num < 16 := by cases k <;> decide
  simp only [hasKind, BitVec.getLsbD_and, BitVec.getLsbD_not, inside, decide_true, Bool.true_and]

/-! ### The payloads -/

theorem takeItems_at (before after : EventSet) :
    (u16 before.toNat ++ u16 after.toNat).length = 4 ∧ At (u16 before.toNat ++ u16 after.toNat) 0 2 before.toNat
    ∧ At (u16 before.toNat ++ u16 after.toNat) 2 2 after.toNat :=
  ⟨by simp [u16], at_bytesBE 2 _ _, at_behind 2 _ (by decide) (at_last 2 _)⟩

/-- The items of a SET_ATTENTION response (R154). -/
theorem Attention.bytes_items (a : Attention) : a.bytes.length = 7 ∧ At a.bytes 0 2 a.enable.toNat
    ∧ At a.bytes 2 2 a.threshold ∧ At a.bytes 4 2 a.posted.toNat ∧ At a.bytes 6 1 (ofFlag a.atn) := by
  have eq : a.bytes = bytesBE 2 a.enable.toNat ++ (bytesBE 2 a.threshold ++ (bytesBE 2 a.posted.toNat
      ++ bytesBE 1 (if a.atn then 1 else 0))) := by
    simp only [Attention.bytes, flag, u8, u16, List.append_assoc]
  rw [eq]
  exact ⟨by simp, at_bytesBE _ _ _, at_behind _ _ (by decide) (at_bytesBE _ _ _),
    at_behind _ _ (by decide) (at_behind _ _ (by decide) (at_bytesBE _ _ _)),
    at_behind _ _ (by decide) (at_behind _ _ (by decide) (at_behind _ _ (by decide) (at_last_flag _)))⟩

/-! ### The two requests -/

theorem State.answerAttention_refused (p : Port) (kinds : EventSet) (level : Byte) (s : State) (h : 7 < level.toNat) :
    s.answerAttention p kinds level = ⟨.range, (s.efu.ports.get p).bytes, s⟩ := if_pos h

theorem State.answerAttention_accepted (p : Port) (kinds : EventSet) (level : Byte) (s : State) (h : level.toNat ≤ 7) :
    s.answerAttention p kinds level
      = let a : Attention := { s.efu.ports.get p with enable := kinds, threshold := level.toNat }
        ⟨.ok, a.drive.bytes, s.setAttention p a⟩ := by
  have port (a : Attention) : (s.setAttention p a).efu.ports.get p = a.drive := PerPort.get_set_same _ _ _
  simp only [State.answerAttention, if_neg (Nat.not_lt.2 h), port]

/-- Settles O51: TAKE_EVENTS and an accepted SET_ATTENTION drive the port's line from its new items, and a refused one
changes nothing. -/
theorem takeAndSetEvents : Obligations.TakeAndSetEvents := by
  unfold Obligations.TakeAndSetEvents
  intro p kinds level s free a others
  refine ⟨?_, fun above => ?_, fun within' => ?_⟩
  · obtain ⟨t, taken, only, kept, answered, port⟩ :=
      State.request_attention free 0x20 (h := State.answerTake p kinds) rfl
    obtain ⟨length, before, after⟩ := takeItems_at a.posted (a.posted &&& ~~~kinds)
    refine ⟨t, _, taken, only, kept, answered, length, before, ?_⟩
    rw [port]
    exact ⟨after, hasKind_without _ _, rfl, rfl, Attention.drive_atn_iff _⟩
  · obtain ⟨t, taken, only, answered, _⟩ := State.request_answered free 0x21 []
      (s.answerAttention_refused p kinds level above) (onlyChanges_refl _ s) rfl
    exact ⟨t, _, taken, only, answered, a.bytes_items⟩
  · obtain ⟨t, taken, only, kept, answered, port⟩ :=
      State.request_attention free 0x21 (s.answerAttention_accepted p kinds level within')
    obtain ⟨length, enable, threshold, posted, line⟩ := Attention.bytes_items (Attention.drive { a with
      enable := kinds, threshold := level.toNat })
    refine ⟨t, _, taken, only, kept, answered, length, enable, threshold, posted, ?_⟩
    rw [port]
    exact ⟨line, rfl, rfl, rfl, Attention.drive_atn_iff _⟩

end Sys2Proof.Machine
end

section
/-!
PROOFS. ReportRequests: the payload of READ_FAULTS and of the counters, and the four requests on faults and statistics (R162,
R163, R166).
-/

namespace Sys2Proof.Machine

open Sys2Proof.Claim

/-! ### The fault map on the wire (R158, R163) -/

theorem FaultEntry.bytes_eq (e : FaultEntry) :
    e.bytes = bytesBE 1 e.key.source.code ++ (bytesBE 1 e.key.kind.code ++ (bytesBE 4 e.first.toNat
      ++ (bytesBE 4 e.last.toNat ++ (bytesBE 2 e.occurrences ++ bytesBE 1 (if e.active then 1 else 0))))) := by
  simp only [FaultEntry.bytes, flag, u8, u16, u32, List.append_assoc]

theorem FaultEntry.bytes_length (e : FaultEntry) : e.bytes.length = 13 := by
  simp [FaultEntry.bytes_eq]

/-- The items of a fault map entry. -/
theorem FaultEntry.bytes_at (e : FaultEntry) :
    At e.bytes 0 1 e.key.source.code ∧ At e.bytes 1 1 e.key.kind.code ∧ At e.bytes 2 4 e.first.toNat
    ∧ At e.bytes 6 4 e.last.toNat ∧ At e.bytes 10 2 e.occurrences ∧ At e.bytes 12 1 (ofFlag e.active) := by
  rw [FaultEntry.bytes_eq]
  refine ⟨at_bytesBE _ _ _, ?_, ?_, ?_, ?_, ?_⟩
  case refine_5 =>
    repeat refine at_behind _ _ (by decide) ?_
    exact at_last_flag _
  all_goals
    repeat refine at_behind _ _ (by decide) ?_
    exact at_bytesBE _ _ _

theorem faultsPayload_eq (s : State) :
    faultsPayload s = bytesBE 1 (if s.efu.full then 1 else 0) ++ (bytesBE 1 s.efu.faults.length
      ++ (bytesBE 4 s.xcr.windowNumber.toNat ++ s.efu.faults.flatMap FaultEntry.bytes)) := by
  simp only [faultsPayload, flag, u8, u32, List.append_assoc]

theorem faultsPayload_length (s : State) : (faultsPayload s).length = 6 + 13 * s.efu.faults.length := by
  simp only [faultsPayload_eq, List.length_append, bytesBE_length, flatMap_length_blocks _ 13 FaultEntry.bytes_length]
  omega

/-- The items of READ_FAULTS before its entries. -/
theorem faultsPayload_at (s : State) :
    At (faultsPayload s) 0 1 (ofFlag s.efu.full) ∧ At (faultsPayload s) 1 1 s.efu.faults.length
    ∧ At (faultsPayload s) 2 4 s.xcr.windowNumber.toNat := by
  rw [faultsPayload_eq]
  exact ⟨at_congr (at_bytesBE _ _ _) (ofFlag_eq _), at_behind _ _ (by decide) (at_bytesBE _ _ _),
    at_behind _ _ (by decide) (at_behind _ _ (by decide) (at_bytesBE _ _ _))⟩

/-- An item of an entry stands at the offset of its block. -/
theorem faultsPayload_entry (s : State) (i : Nat) (e : FaultEntry) (he : s.efu.faults[i]? = some e) {o w : Nat} {y : Int}
    (h : At e.bytes o w y) : At (faultsPayload s) (6 + o + 13 * i) w y := by
  have block := at_flatMap_getElem FaultEntry.bytes 13 FaultEntry.bytes_length _ i e he h
  rw [faultsPayload_eq]
  repeat refine at_behind _ _ (by omega) ?_
  have offset : 6 + o + 13 * i - 1 - 1 - 4 = 13 * i + o := by omega
  rwa [offset]

/-! ### The counters on the wire (R164, R166) -/

theorem Stats.bytes_carries (c : Stats) : CarriesCounters c.bytes c := by
  have width (x : Nat) : (u32 x).length = 4 := bytesBE_length 4 x
  refine ⟨flatMap_length_blocks u32 4 width _, fun i x hx => ?_⟩
  exact at_flatMap_getElem u32 4 width c.toList i x hx (at_last 4 x)

theorem Stats.zero_counters : ∀ x ∈ counters Stats.zero, x = 0 := by decide

/-! ### CLEAR_FAULTS (R162) -/

/-- The entries that go and those that stay make up the map. -/
theorem length_sub_kept (l : List FaultEntry) :
    l.length - (l.filter (·.active)).length = l.countP fun e => !e.active := by
  have parts := List.length_eq_countP_add_countP (fun e : FaultEntry => e.active) (l := l)
  rw [← List.countP_eq_length_filter, parts, Nat.add_sub_cancel_left]
  exact List.countP_congr fun e _ => by simp

/-- The items of a CLEAR_FAULTS response. -/
theorem State.answerClearFaults_at (s : State) :
    s.answerClearFaults.payload.length = 2
    ∧ At s.answerClearFaults.payload 0 1 (s.efu.faults.countP fun e => !e.active)
    ∧ At s.answerClearFaults.payload 1 1 (s.efu.faults.countP fun e => e.active) := by
  have eq : s.answerClearFaults.payload = bytesBE 1 (s.efu.faults.countP fun e => !e.active)
      ++ bytesBE 1 (s.efu.faults.countP fun e => e.active) := by
    rw [← length_sub_kept, List.countP_eq_length_filter]
    rfl
  rw [eq]
  exact ⟨rfl, at_bytesBE _ _ _, at_behind _ _ le_rfl (at_last _ _)⟩

/-! ### The four requests -/

/-- A request that only reads is answered OK with its payload and changes nothing but the port. -/
theorem State.request_report {p : Port} {s : State} (free : Free p s) (echo : Byte) (payload : State → List Byte) :
    ∃ t, (.next (s.request p echo (State.report payload)) : Result) = .next t ∧ OnlyChanges [.mpt] s t
      ∧ Answered p echo .ok (payload s) s t := by
  obtain ⟨t, taken, only, answered, _⟩ :=
    State.request_answered free echo [] (h := State.report payload) rfl (onlyChanges_refl _ s) rfl
  exact ⟨t, taken, only, answered⟩

/-- Settles O53: the four payloads, with the entries that CLEAR_FAULTS keeps and the counters that CLEAR_STATS zeroes. -/
theorem reportRequests : Obligations.ReportRequests := by
  unfold Obligations.ReportRequests
  intro p s free
  refine ⟨?_, ?_, ?_, ?_⟩
  · obtain ⟨t, taken, only, answered⟩ := State.request_report free 0x17 faultsPayload
    obtain ⟨full, count, window⟩ := faultsPayload_at s
    refine ⟨t, _, taken, only, answered, faultsPayload_length s, full, count, window, fun i e he => ?_⟩
    obtain ⟨source, kind, first, last, occurrences, active⟩ := e.bytes_at
    have entry {o w : Nat} {y : Int} (h : At e.bytes o w y) := faultsPayload_entry s i e he h
    refine ⟨at_congr (entry source) ?_, at_congr (entry kind) ?_, entry first, entry last, entry occurrences, entry active⟩
    · match e.key.source with
      | .ring r => exact Ring.num_eq_ringCode r
      | .clock | .correlator | .carrier | .totalizer | .pulseUnit | .region .profile | .region .totals => rfl
    · cases e.key.kind <;> rfl
  · obtain ⟨t, taken, only, answered, _⟩ :=
      State.request_answered free 0x60 [.efu] (h := State.answerClearFaults) rfl (s.onlyEfu _) rfl
    obtain ⟨efu, _⟩ := State.request_reports free taken
    obtain ⟨length, removed, kept⟩ := s.answerClearFaults_at
    have faults : t.efu.faults = s.efu.faults.filter (·.active) := congrArg Efu.faults efu
    refine ⟨t, _, taken, only, answered, length, removed, kept, ?_, ?_, fun e => ?_⟩
    · rw [efu]
      rfl
    · rw [faults]
      exact List.filter_sublist
    · rw [faults]
      exact List.mem_filter
  · obtain ⟨t, taken, only, answered⟩ := State.request_report free 0x16 statsPayload
    exact ⟨t, _, taken, only, answered, s.efu.stats.bytes_carries⟩
  · obtain ⟨t, taken, only, answered, _⟩ :=
      State.request_answered free 0x61 [.efu] (h := State.answerClearStats) rfl (s.onlyEfu _) rfl
    obtain ⟨efu, _⟩ := State.request_reports free taken
    have zeroed : t.efu = { s.efu with stats := Stats.zero } := efu
    refine ⟨t, _, taken, only, answered, s.efu.stats.bytes_carries, ?_, ?_⟩ <;> rw [zeroed]
    exact Stats.zero_counters

end Sys2Proof.Machine
end

section
/-!
PROOFS. CaptureEndsAndRelease: the end of a RAW copy, and RELEASE_CAPTURE (R172, R174, R176).
-/

namespace Sys2Proof.Machine

open Sys2Proof.Claim

/-! ### The end of a copy (R172, R174) -/

theorem exec_captureCopyCompletion (s : State) (running : s.power = .running) :
    exec .captureCopyCompletion s = .next s.copyEnds := congrArg _ (State.whenRunning_running _ s running)

theorem State.copyEnds_raw (s : State) (r : Ring) (filling : s.cap.state = .filling)
    (content : s.cap.content = some (.raw r)) : s.copyEnds = s.completeCapture s.cap.buffer := by
  rw [State.copyEnds, filling, content]

/-- Without a RAW copy in progress nothing ends. -/
theorem State.copyEnds_none (s : State) (h : s.cap.state ≠ .filling ∨ ∀ r, s.cap.content ≠ some (.raw r)) :
    s.copyEnds = s := by
  unfold State.copyEnds
  split
  · next r filling content =>
    rcases h with other | other
    · exact absurd filling other
    · exact absurd content (other r)
  · rfl

/-- A completed fill in terms of its two blocks: the unit is FULL, and its owner has the event. -/
theorem State.completeCapture_eq (values : List Int) (s : State) (p : Port) (owner : s.cap.owner = some p) :
    s.completeCapture values
      = (s.setCap { s.cap with state := .full, buffer := values, count := values.length, empty := false }).postTo
        .captureDone p := by
  simp only [State.completeCapture, State.postCaptureDone, State.setCap_cap, owner]

/-- A posting to one port. -/
theorem State.postTo_doneTo (s : State) (p : Port) : DoneTo p s (s.postTo .captureDone p) := by
  refine ⟨?_, fun k other => ?_, fun q other => PerPort.get_set_ne _ _ _ _ other⟩
  · rw [State.postTo_efu, PerPort.get_set_same, Attention.hasKind_add]
    simp
  · rw [State.postTo_efu, PerPort.get_set_same, Attention.hasKind_add]
    simp [other]

theorem State.onlyCap (c : Cap) (s : State) : OnlyChanges [.cap] s (s.setCap c) := by
  intro b
  cases b <;> simp [Block.Same]

theorem OnlyEvents.onlyChanges {s t : State} (h : OnlyEvents s t) : OnlyChanges [.cap, .efu] s t := by
  obtain ⟨_, _, rfl⟩ := h
  intro b
  cases b <;> simp [Block.Same]

/-! ### RELEASE_CAPTURE (R176) -/

theorem State.answerReleaseCapture_idle (p : Port) (s : State) (owner : s.cap.owner = none) :
    s.answerReleaseCapture p = ⟨.state, [], s⟩ := by
  rw [State.answerReleaseCapture, owner]

theorem State.answerReleaseCapture_other (p o : Port) (s : State) (owner : s.cap.owner = some o) (other : o ≠ p) :
    s.answerReleaseCapture p = ⟨.notHolder, bytesBE 1 o.num, s⟩ := by
  rw [State.answerReleaseCapture, owner]
  exact if_neg other

theorem State.answerReleaseCapture_owner (p : Port) (s : State) (owner : s.cap.owner = some p) :
    s.answerReleaseCapture p = ⟨.ok, [], s.setCap Cap.idle⟩ := by
  rw [State.answerReleaseCapture, owner]
  exact if_pos rfl

/-- Settles O56, by whether a RAW copy is in progress and by the owner of the unit. -/
theorem captureEndsAndRelease : Obligations.CaptureEndsAndRelease := by
  unfold Obligations.CaptureEndsAndRelease
  intro p s running
  rw [exec_captureCopyCompletion s running]
  refine ⟨fun r filling owner content => ?_, fun none => by rw [s.copyEnds_none none], fun free owner => ?_,
    fun o free owner other => ?_, fun free owner => ?_⟩
  · have ends : s.copyEnds = s.completeCapture s.cap.buffer := s.copyEnds_raw r filling content
    refine ⟨_, rfl, ?_, ?_, ?_⟩ <;> rw [ends]
    · exact (s.completeCapture_only _).onlyChanges
    · rw [State.completeCapture_eq _ s p owner]
      exact State.postTo_doneTo (s.setCap _) p
    · exact State.completeCapture_cap _ s
  · obtain ⟨t, taken, only, answered, _⟩ := State.request_answered ⟨running, free⟩ 0x52 []
      (s.answerReleaseCapture_idle p owner) (onlyChanges_refl _ s) rfl
    exact ⟨t, taken, only, answered⟩
  · obtain ⟨t, taken, only, answered, _⟩ := State.request_answered ⟨running, free⟩ 0x52 []
      (s.answerReleaseCapture_other p o owner other) (onlyChanges_refl _ s) rfl
    exact ⟨t, _, taken, only, answered, rfl, at_last 1 _⟩
  · have answer := s.answerReleaseCapture_owner p owner
    obtain ⟨t, taken, only, answered, _⟩ := State.request_answered ⟨running, free⟩ 0x52 [.cap] answer (s.onlyCap _) rfl
    obtain ⟨_, cap⟩ := State.request_reports ⟨running, free⟩ taken
    rw [answer] at cap
    exact ⟨t, taken, only, answered, cap⟩

end Sys2Proof.Machine
end

section
/-!
PROOFS. ReportsCaptureAndPortsAfterReset: what a start leaves of the reports, the capture unit and the ports, and what a
RESTART keeps of them (R167, R168, R177 to R179, R194).
-/

namespace Sys2Proof.Machine

open Sys2Proof.Claim

/-! ### The blocks that a start leaves (R167, R168, R178, R179) -/

/-- The entry of totals that were not restored. -/
def totalsLostKey : FaultKey := ⟨.totalizer, .totalsLost⟩

/-- The reports, the capture unit and the ports of a part that has started and has found losses among `keys`. -/
structure ReportsStarted (straps : PerPort StrapPair) (keys : List FaultKey) (t : State) : Prop where
  window : t.xcr.windowNumber = 0
  reports : ∃ lost : List FaultKey, lost.Sublist keys ∧ t.efu = { Efu.reset with faults := lost.map FaultEntry.atStart }
  cap : t.cap = Cap.idle
  ports : t.mpt = straps.map fun _ x => PortState.start (Speed.ofStraps x)

theorem ReportsStarted.mono {straps : PerPort StrapPair} {keys more : List FaultKey} {t : State}
    (h : ReportsStarted straps keys t) (sub : keys.Sublist more) : ReportsStarted straps more t := by
  obtain ⟨window, ⟨lost, among, efu⟩, cap, ports⟩ := h
  exact ⟨window, ⟨lost, among.trans sub, efu⟩, cap, ports⟩

/-- A loss of another key takes the next entry of the map (R158). -/
theorem ReportsStarted.recordFault {straps : PerPort StrapPair} {keys : List FaultKey} {t : State}
    (h : ReportsStarted straps keys t) (key : FaultKey) (other : key ∉ keys) (room : keys.length < 12) :
    ReportsStarted straps (keys ++ [key]) (t.recordFault key) := by
  obtain ⟨window, ⟨lost, among, efu⟩, cap, ports⟩ := h
  have absent : t.efu.holdsKey key = false := by
    rw [Bool.eq_false_iff, Ne, Efu.holdsKey_iff_mem, efu]
    rintro ⟨e, listed, rfl⟩
    obtain ⟨k, recorded, rfl⟩ := List.mem_map.1 listed
    exact other (among.subset recorded)
  have fits : t.efu.faults.length < Config.faultCapacity := by
    rw [efu, List.length_map]
    exact among.length_le.trans_lt room
  have recorded : (t.recordFault key).efu = { Efu.reset with faults := (lost ++ [key]).map FaultEntry.atStart } := by
    rw [State.recordFault, State.noteFault, if_neg (by rw [absent]; exact Bool.false_ne_true), if_pos fits, window, efu,
      List.map_append]
    rfl
  exact ⟨(congrArg Xcr.windowNumber (t.noteFault_xcr false key)).trans window,
    ⟨lost ++ [key], among.append (List.Sublist.refl _), recorded⟩,
    (t.noteFault_cap false key).trans cap, (t.recordFault_mpt key).trans ports⟩

theorem State.startBlocks_reports (straps : PerPort StrapPair) (s : State) :
    ReportsStarted straps [profileLostKey] (s.startBlocks straps) := by
  have fresh (t : State) (window : t.xcr.windowNumber = 0) (efu : t.efu = Efu.reset) (cap : t.cap = Cap.idle)
      (ports : t.mpt = straps.map fun _ x => PortState.start (Speed.ofStraps x)) : ReportsStarted straps [] t :=
    ⟨window, ⟨[], List.Sublist.refl _, efu⟩, cap, ports⟩
  unfold State.startBlocks
  simp only
  split
  · exact ReportsStarted.recordFault (fresh _ rfl rfl rfl rfl) profileLostKey List.not_mem_nil (by decide)
  · exact ReportsStarted.mono (fresh _ rfl rfl rfl rfl) (List.nil_sublist _)

theorem State.powerOn_reports (straps : PerPort StrapPair) (s : State) :
    ReportsStarted straps [profileLostKey, totalsLostKey] (s.powerOn straps) := by
  obtain ⟨window, reports, cap, ports⟩ := s.startBlocks_reports straps
  have restored (tot : Tot) : ReportsStarted straps [profileLostKey] ((s.startBlocks straps).setTot tot) :=
    ⟨window, reports, cap, ports⟩
  unfold State.powerOn
  simp only
  split
  · exact (restored _).recordFault totalsLostKey (by decide) (by decide)
  · exact (restored _).mono (List.sublist_append_left [profileLostKey] [totalsLostKey])

theorem State.endReset_reports (straps : PerPort StrapPair) (s : State) :
    ReportsStarted straps [profileLostKey, totalsLostKey] (s.endReset straps) := by
  obtain ⟨window, reports, cap, ports⟩ := s.startBlocks_reports straps
  have queued : ReportsStarted straps [profileLostKey] (s.endReset straps) := ⟨window, reports, cap, ports⟩
  exact queued.mono (List.sublist_append_left [profileLostKey] [totalsLostKey])

theorem exec_nrstReleased_held (straps : PerPort StrapPair) (s : State) (held : s.power = .held) :
    exec (.nrstReleased straps) s = .next (s.endReset straps) := by
  simp only [exec, execNrstReleased, held]

/-- What holds of every part that has started so holds after a POR and after an NRST's end. -/
theorem afterStart_of_reports (straps : PerPort StrapPair) (s : State) (post : State → Prop)
    (h : ∀ t, ReportsStarted straps [profileLostKey, totalsLostKey] t → post t) : AfterStart s straps post := by
  have power := s.powerOn_storeStarted straps
  have ended := s.endReset_storeStarted straps
  exact ⟨⟨_, rfl, power.power, h _ (s.powerOn_reports straps)⟩, fun held =>
    ⟨_, exec_nrstReleased_held straps s held, ended.power, h _ (s.endReset_reports straps)⟩⟩

theorem Speed.ofStraps_eq (x : StrapPair) : Speed.ofStraps x = speedOf x := by
  obtain ⟨high, low⟩ := x
  cases high <;> cases low <;> rfl

/-- An entry of the map after a start tells of one of the two losses. -/
theorem ReportsStarted.entry {straps : PerPort StrapPair} {t : State}
    (h : ReportsStarted straps [profileLostKey, totalsLostKey] t) (e : FaultEntry) (listed : e ∈ t.efu.faults) :
    (e.key = profileLostKey ∨ e.key = totalsLostKey) ∧ e = FaultEntry.atStart e.key := by
  obtain ⟨_, ⟨lost, among, efu⟩, _, _⟩ := h
  rw [efu] at listed
  obtain ⟨key, found, rfl⟩ := List.mem_map.1 listed
  exact ⟨List.mem_pair.1 (among.subset found), rfl⟩

/-! ### What a RESTART keeps (R168, R177, R178) -/

theorem State.answerRestart_onlyChanges (p : Port) (s : State) :
    OnlyChanges [.sfe, .xcr, .stk, .fsv, .cap, .mpt] s (s.answer p 0x43 State.answerRestart) := by
  refine s.answer_onlyChanges p 0x43 State.answerRestart _ ?_ (by decide)
  intro b away
  cases b
  case sfe | xcr | stk | fsv | cap | mpt => exact absurd (by decide) away
  all_goals rfl

theorem Cap.restart_aborted (c : Cap) (h : c.state = .armed ∨ c.state = .filling) : c.restart = Cap.idle := by
  unfold Cap.restart
  rcases h with state | state <;> rw [state]

theorem Cap.restart_kept (c : Cap) (h : c.state = .idle ∨ c.state = .full) : c.restart = c := by
  unfold Cap.restart
  rcases h with state | state <;> rw [state]

/-- Settles O12: a start leaves the fresh blocks with the losses it found, and a RESTART ends a capture that waits or fills. -/
theorem reportsCaptureAndPortsAfterReset : Obligations.ReportsCaptureAndPortsAfterReset := by
  unfold Obligations.ReportsCaptureAndPortsAfterReset
  intro straps p s
  refine ⟨afterStart_of_reports straps s _ fun t started => ?_, afterRestart_of p s _ ⟨s.answerRestart_onlyChanges p,
    s.cap.restart_aborted, s.cap.restart_kept⟩⟩
  have entries := started.entry
  obtain ⟨_, ⟨_, _, efu⟩, cap, ports⟩ := started
  refine ⟨fun q => ?_, entries, ?_, ?_, cap, fun q => ?_⟩
  · rw [efu]
    exact PerPort.get_fill Attention.reset q
  · rw [efu]
    rfl
  · rw [efu]
    rfl
  · rw [ports, PerPort.get_map, Speed.ofStraps_eq]
    rfl

end Sys2Proof.Machine
end
